-- ==== Sys2Proof/Word.lean ====
section
/-! DEFINITION. The unit of both links: one byte (11 R178, 01 R1). -/

namespace Sys2Proof

/-- One byte of a hub link frame, of a record or of a line frame. -/
abbrev Byte := BitVec 8

end Sys2Proof
end

