-- ==== Sys2Proof/Config.lean ====
section
/-! DEFINITION. The free values: choices the manual leaves open although their outcome differs. None has a body,
so no proof can see what it answers; each is applied to the counter `State.choice`, which advances at each use. -/

namespace Sys2Proof.Config

/-- 10 R174, first row: a grant pass that would grant a run falls together with a swap sweep whose head is the valve of a
QUEUED run and may swap; either may be taken first. True: the sweep first. DESIGN CHOICE of the form, log 7. -/
opaque sweepFirst : Nat → Bool

/-- 04 R67: a rain delta goes to the Balance Engine and to the Lock Unit, and either may take it first.
True: the Lock Unit first. DESIGN CHOICE of the form, log 8. -/
opaque lockUnitFirst : Nat → Bool

/-- 08 section 8.5: two source conditions that change at one weather report may be taken in either order.
True: WIND before FREEZE. DESIGN CHOICE of the form, log 9. -/
opaque windFirst : Nat → Bool

/-- 11 R184: PASS_REPLYs handed over together may be taken in either order. Modulo their number, the place of the next one
among those left, in FIFO order. DESIGN CHOICE of the form, log 34. -/
opaque nextReply : Nat → Nat

/-- 05 R85, 06 R117: demand checks of different beds, and the transitions of different beds' windows, that fall together may
be taken in any order. Modulo their number, the place of the next one among the beds left, in index order. DESIGN CHOICE of
the form, log 41. -/
opaque nextBed : Nat → Nat

/-- 10 R171, 03 R38: an entry that swaps at once in a state that sends no marks may swap inside the slot of its own poll, which
runs on; no rule says what the poll's outcome does at an entry that has another address by then. True: the entry takes it.
False: it is lost. DESIGN CHOICE of the form, log 36. -/
opaque takesMovedPoll : Nat → Bool

end Sys2Proof.Config
end

