-- ==== Sys2Proof/Syntax.lean ====
section
/-! DEFINITION. The commands of the NW24: one constructor per row of spec/opcode_table.json, in the table's order,
and the operands they carry. -/

namespace Sys2Proof

/-- A local input pin (00 Pins, 09 R153). -/
inductive InputId where
  | a | b
  deriving DecidableEq, Repr

/-- The level of a local input pin (09 R154). -/
inductive Level where
  | low | high
  deriving DecidableEq, Repr

/-- What LRX brings in the rest of a slot after the part's own frame (01 R1, R6). Each byte comes with the idle bit times
before its start bit: the first from the slot's start, so that its figure is the position of the first start bit in the
slot, every other from the end of the byte before it. -/
inductive Reply where
  | silent
  | frame (bytes : List (Nat × Byte))
  deriving DecidableEq, Repr

/-- A moment within a second of part time, in µs: the part's time base, finer than the spacings of the local inputs (09
R154). -/
abbrev Micros := Fin 1000000

/-- A local input, and when within the second its event falls. -/
structure InputAt where
  input : InputId
  moment : Micros
  deriving DecidableEq, Repr

/-- The commands. Requests carry the bytes of their BODY (12.3). -/
inductive Instr where
  | powerOnReset
  | receiveFrame (last : Byte)
  | frameGapTimeout
  | breakBegin
  | breakEnd
  | load (body : List Byte)
  | read (body : List Byte)
  | update (body : List Byte)
  | discard (body : List Byte)
  | seqRun (body : List Byte)
  | seqStop (body : List Byte)
  | seqStep (body : List Byte)
  | lineRestore (body : List Byte)
  | timeSet (body : List Byte)
  | timeRead (body : List Byte)
  | runStart (body : List Byte)
  | runStop (body : List Byte)
  | runStopAll (body : List Byte)
  | runAdjust (body : List Byte)
  | runList (body : List Byte)
  | bedState (body : List Byte)
  | valveMode (body : List Byte)
  | lockSet (body : List Byte)
  | lockClear (body : List Byte)
  | status (body : List Byte)
  | flagsClear (body : List Byte)
  | noticeMask (body : List Byte)
  | pass (body : List Byte)
  | resetPart (body : List Byte)
  | unknownKind (kind : Byte) (body : List Byte)
  | answerEnd
  | upstreamFrameEnd
  | cycleMark
  | pollPartStart
  | pollSlotStart
  | commandSlotStart
  | pollOutcome (reply : Reply)
  | commandOutcome (reply : Reply)
  | passOutcome (reply : Reply)
  | echoMismatch
  | stepEnd
  | overcurrent
  | backoffExpiry
  | beaconSilenceExpiry
  | pulseExpiry (bed : Fin 24)
  | soakExpiry (bed : Fin 24)
  | evaluationExpiry (bed : Fin 24)
  | weatherStalenessExpiry
  | rainHoldExpiry
  | inputLevelChange (input : InputAt) (level : Level)
  | rainTip (input : InputAt)
  | contactStable (input : InputAt)
  | flowEdge (input : InputAt)
  | flowWindowEnd
  | minuteTransition
  | hubByteReceived (byte : Byte) (framingError : Bool)
  | sensedCurrentChange (milliamps : Nat)
  deriving DecidableEq, Repr

end Sys2Proof
end

