-- ==== Sys2Proof/Machine/State.lean ====
section
/-! DEFINITION. The state of the NW24 as plain data: every piece of state the manual gives the part, block by block
(00 Block diagram, "Holds"), its values after reset, and the model's own fields. -/

namespace Sys2Proof.Machine

/-- No command of the NW24 stops the machine with a fault (log 1): a request is answered, a line fault moves the
sequencer, and an event whose condition does not stand has not occurred. -/
inductive Fault
  deriving DecidableEq, Repr

/-- Why a command has no meaning in this model. -/
inductive Refusal where
  /-- Raised only by an arm of `exec` whose command has no meaning yet; safe, since nothing follows from it. -/
  | notModelled (mnemonic : String)
  deriving DecidableEq, Repr

/-! ## Loaded records (12.4) -/

/-- One loaded entry: the active copy, the pending copy (present exactly when pending-valid is set) and the SWAP_DUE
mark (10 R164). -/
structure Entry (α : Type) where
  active : α
  pending : Option α
  due : Bool
  deriving DecidableEq, Repr

/-- Node kinds (12.2); `unused` is NONE. -/
inductive NodeKind where
  | unused | valveDecoder | soilProbe | weather | other
  deriving DecidableEq, Repr

/-- A node record (03 R36). Fields that R166 leaves unchecked are held as loaded, so all but the kind are numbers. -/
structure NodeRec where
  kind : NodeKind
  address : Nat
  outputs : Nat
  forward : Nat
  delta : Nat
  dry : Nat
  wet : Nat
  deriving DecidableEq, Repr

/-- A poll entry: 0 to 4 node indexes (03 R42). -/
structure PollRec where
  nodes : List (Fin 48)
  deriving DecidableEq, Repr

/-- A valve record (07 R120). -/
structure ValveRec where
  used : Bool
  decoder : Nat
  output : Nat
  flow : Nat
  deriving DecidableEq, Repr

/-- A bed record (05 R68). -/
structure BedRec where
  used : Bool
  mode : Nat
  valve : Nat
  probeA : Nat
  probeB : Nat
  area : Nat
  fieldCapacity : Nat
  holding : Nat
  smoothing : Nat
  dryingExposure : Nat
  rainExposure : Nat
  defaultRate : Nat
  startThreshold : Nat
  stopLevel : Nat
  minRun : Nat
  maxRun : Nat
  pulseOn : Nat
  soak : Nat
  windowStart : Nat
  windowEnd : Nat
  deriving DecidableEq, Repr

/-- What a local input does (09 R153). -/
inductive InputAction where
  | unused | rainTips | rainContact | flow
  deriving DecidableEq, Repr

/-- The supply record (06 R97, 09 R153). -/
structure SupplyRec where
  maxSlots : Nat
  flowCap : Nat
  actionA : InputAction
  actionB : InputAction
  pulsesPerLitre : Nat
  overMargin : Nat
  underMargin : Nat
  leakThreshold : Nat
  masterValve : Bool
  deriving DecidableEq, Repr

/-- The line settings (01 R2, 02 R29). -/
structure LineRec where
  trim : Nat
  trip : Nat
  replyWindow : Nat
  deriving DecidableEq, Repr

/-- Where rain deltas come from (04 section 4.6). -/
inductive RainSource where
  | unused | weather | localTips
  deriving DecidableEq, Repr

/-- The weather record (04 R57). -/
structure WeatherRec where
  windFactor : Nat
  source : RainSource
  tipSize : Nat
  deriving DecidableEq, Repr

/-- The drying table: eight bands, each an upper bound and a base rate (04 R57). -/
structure DryingRec where
  bands : List (Int × Nat)
  deriving DecidableEq, Repr

/-- Effective mode of a lock (08 R141). -/
inductive LockMode where
  | pause | cancel
  deriving DecidableEq, Repr

/-- Effective timing of a lock (08 R141). -/
inductive LockTiming where
  | immediate | pulseEnd
  deriving DecidableEq, Repr

/-- A lock record (08 R142); the two parameters are held as the 16-bit figures loaded. -/
structure LockRec where
  enabled : Bool
  mode : LockMode
  timing : LockTiming
  first : Nat
  second : Nat
  deriving DecidableEq, Repr

/-! ## Live state -/

/-- The Week Clock (06 R115). `turnDue` is the model's own: second 59 has ended and the minute transition is to be made (log
23). -/
structure Clock where
  valid : Bool
  minute : Nat
  second : Nat
  turnDue : Bool
  deriving DecidableEq, Repr

/-- The seven sequencer states (02 section 2.1). -/
inductive SeqState where
  | stopped | running | step | stopping | halted | lineOff | lockedOut
  deriving DecidableEq, Repr

/-- The resume target (02 R20). -/
inductive ResumeTarget where
  | running | stopped | halted
  deriving DecidableEq, Repr

/-- How far the cycle in progress has come (01 section 1.2). -/
inductive Phase where
  | noCycle | marked | polling | commands
  deriving DecidableEq, Repr

/-- The two kinds of valve command (01 R12). -/
inductive CommandKind where
  | openValve | closeValve
  deriving DecidableEq, Repr

/-- What the part has on the line: nothing, a mark whose echo is not judged yet, or a transaction in progress.
A SET_OUTPUT transaction is detached once its command has left its place (01 R13, R14, R15). -/
inductive Transmission where
  | idle
  | mark
  | poll (node : Fin 48) (address : Byte)
  | command (valve : Fin 32) (kind : CommandKind) (address : Byte) (output : Nat) (detached : Bool)
  | pass (address : Byte)
  deriving DecidableEq, Repr

/-- The Field Line Sequencer (02 R20). `cycleLength` and `replyWindow` are L and W_r of the cycle in progress, which
keeps them to its end (01 R2). -/
structure Sequencer where
  state : SeqState
  cycle : Nat
  position : Nat
  echoFailures : Nat
  resume : ResumeTarget
  rollCount : Nat
  phase : Phase
  cycleLength : Nat
  replyWindow : Nat
  rollCycle : Bool
  toPoll : List (Fin 48)
  nextSlot : Nat
  tx : Transmission
  ltx : List Byte
  deriving DecidableEq, Repr

/-- The Line Current Monitor (02 R20) with the sensed current in mA; `swapEnded` is the moment, in µs of part time, at which
a line settings swap ended a running measure (10 R174). -/
structure CurrentMonitor where
  faults : List Nat
  backoff : Option Nat
  measureSince : Option Nat
  swapEnded : Option Nat
  sensed : Nat
  deriving DecidableEq, Repr

/-- The two marks of a waiting valve command (01 R12). -/
structure Marks where
  attempted : Bool
  sent : Bool
  deriving DecidableEq, Repr

/-- An entry of the command FIFO (01 section 1.5); `flying` says that the PASS is in flight. -/
inductive FifoEntry where
  | openValve (valve : Fin 32) (marks : Marks)
  | pass (address : Byte) (data : List Byte) (flying : Bool)
  deriving DecidableEq, Repr

/-- The Line Command Queue (01 R12); `clearOwed`: the FIFO is cleared when the transaction in progress ends (R19);
`withdrawOwed`: marks have started again before that end, and the open in flight alone is still to be removed at it. -/
structure LineQueue where
  closes : Vector (Option Marks) 32
  fifo : List FifoEntry
  clearOwed : Bool
  withdrawOwed : Bool
  deriving DecidableEq, Repr

/-- Presence of a node (03 R37). -/
inductive Presence where
  | absent | present | missing
  deriving DecidableEq, Repr

/-- Live state of a node entry (03 R37). -/
structure NodeLive where
  presence : Presence
  misses : Nat
  changed : Bool
  forwarded : Option Int
  deriving DecidableEq, Repr

/-- State of a probe (04 R50). -/
inductive ProbeState where
  | ok | stale | faulted
  deriving DecidableEq, Repr

/-- Live state of a probe (04 R50). -/
structure ProbeLive where
  state : ProbeState
  rejects : Nat
  lastCount : Option Nat
  reference : Nat
  deriving DecidableEq, Repr

/-- Weather status (04 R57). -/
inductive WeatherStatus where
  | noNode | waiting | fresh | stale
  deriving DecidableEq, Repr

/-- The Weather Unit's live state (04 R57). -/
structure WeatherUnit where
  status : WeatherStatus
  temperature : Int
  wind : Nat
  rate : Nat
  reference : Option Nat
  baseline : Option Nat
  deriving DecidableEq, Repr

/-- Live balance of a used bed (05 R70). -/
structure BedLive where
  estimate : Nat
  estimateValid : Bool
  deficit : Nat
  accrualResidue : Nat
  rainResidue : Nat
  waterResidue : Nat
  lastAccrual : Nat
  holdEnd : Option Nat
  probeStale : Bool
  evaluateAt : Nat
  deriving DecidableEq, Repr

/-- Who asked for a run (06 R93). -/
inductive Origin where
  | auto | hub
  deriving DecidableEq, Repr

/-- Run states (06 R95). -/
inductive RunState where
  | queued | on | soak | held
  deriving DecidableEq, Repr

/-- The set of held reasons (06 R93, R106). -/
structure HeldReasons where
  lock : Bool
  line : Bool
  valve : Bool
  deriving DecidableEq, Repr

/-- A run record (06 R93). -/
structure Run where
  bed : Fin 24
  origin : Origin
  state : RunState
  planned : Nat
  delivered : Nat
  volume : Nat
  pulseOn : Nat
  soak : Nat
  plan : Option (Nat × Nat)
  skips : Nat
  reasons : HeldReasons
  stopAtPulseEnd : Bool
  pulseStart : Option Nat
  expiry : Option Nat
  deriving DecidableEq, Repr

/-- Valve states (07 R121); `opened` is OPEN. -/
inductive ValveState where
  | closed | opening | opened | closing | fault | detached
  deriving DecidableEq, Repr

/-- Valve modes (07 R121). -/
inductive ValveMode where
  | auto | forcedOpen | forcedClosed | detached
  deriving DecidableEq, Repr

/-- Live state of a valve entry (07 R121). -/
structure ValveLive where
  state : ValveState
  mode : ValveMode
  owner : Option (Fin 24)
  assumedOpen : Bool
  attempts : Nat
  latched : Bool
  deriving DecidableEq, Repr

/-- The six lock sources (08 chapter opening). -/
inductive Source where
  | rainContact | rainHold | freeze | wind | hub | supply
  deriving DecidableEq, Repr

/-- The conditions of the six sources (08 R141). -/
structure Conditions where
  rainContact : Bool
  rainHold : Bool
  freeze : Bool
  wind : Bool
  hub : Bool
  supply : Bool
  deriving DecidableEq, Repr

/-- The Lock Unit's live state (08 R141): `effective` is none while no lock is in force. -/
structure LockUnit where
  cond : Conditions
  rainHold : Option Nat
  effective : Option (LockMode × LockTiming)
  handed : Option (Int × Nat)
  deriving DecidableEq, Repr

/-- A local input: the sampled level, when it last changed (part time and µs within that second; 09 R154), and the
debounce state of its action (09 R153, R155, R156, R157): whether a low may still count, the moment of the previous tip,
the stable level, whether a rise is not judged yet, the moment of the previous counted edge. Moments are in µs of part
time. -/
structure InputLive where
  level : Level
  since : Nat
  sinceMicros : Micros
  armed : Bool
  lastTip : Option Nat
  stable : Option Level
  rising : Bool
  lastEdge : Option Nat
  deriving DecidableEq, Repr

/-- The running flow window (09 R158, R159): `calmStart` says that the last valve change lay 20 s or more before the
start, `changed` that a valve change time was set since. -/
structure FlowWindow where
  start : Nat
  count : Nat
  calmStart : Bool
  changed : Bool
  deriving DecidableEq, Repr

/-- The result of a completed flow window (09 R153). -/
structure WindowResult where
  measured : Nat
  expected : Nat
  settled : Bool
  deriving DecidableEq, Repr

/-- The Supply Monitor's live state (09 R153). -/
structure SupplyMonitor where
  inputA : InputLive
  inputB : InputLive
  window : Option FlowWindow
  lastChange : Nat
  highCount : Nat
  lowCount : Nat
  leakCount : Nat
  result : Option WindowResult
  deriving DecidableEq, Repr

/-- The receive framer (11 R179): RECEIVING holds the bytes after START, in order. -/
inductive Framer where
  | hunting
  | receiving (got : List Byte)
  deriving DecidableEq, Repr

/-- KIND and BODY of a hub link frame (11 R178). -/
structure HubFrame where
  kind : Byte
  body : List Byte
  deriving DecidableEq, Repr

/-- What HTX is sending (11 R184). -/
inductive Upstream where
  | idle
  | answer (frame : HubFrame)
  | notice (frame : HubFrame)
  | report (frame : HubFrame)
  deriving DecidableEq, Repr

/-- The Hub Link Port (11 chapter opening). Reports and PASS replies are held as the frames they will be sent as; `wire`
holds the bytes of the frame last begun on HTX, from START to CRC (11 R178). -/
structure HubPort where
  framer : Framer
  requests : List HubFrame
  answer : Option HubFrame
  htx : Upstream
  wire : List Byte
  reports : List HubFrame
  passWait : List HubFrame
  holdOff : Bool
  resetOwed : Bool
  deriving DecidableEq, Repr

/-- The Notice Unit (11 R185, R186); flags and mask at the bit positions of 12.2. -/
structure NoticeUnit where
  flags : BitVec 32
  mask : BitVec 32
  pending : Bool
  deriving DecidableEq, Repr

/-- What the present step still owes (the model's own field): a grant pass put behind a sweep (10 R174), the grant
pass of a freed FIFO entry (01 R12), a swap sweep (10 R173), the examination of the STOPPING condition (02 R25), and
whether a CYCLE_MARK is about to be sent in it (10 R171). -/
structure Work where
  pass : Bool
  free : Bool
  sweep : Bool
  stop : Bool
  mark : Bool
  deriving DecidableEq, Repr

/-- The NW24. The present lies `micros` into the second `partTime` (09 R154, log 4). `work`, `choice` and `pending` are the
model's own fields. -/
structure State where
  partTime : Nat
  micros : Micros
  clock : Clock
  seq : Sequencer
  lpwr : Bool
  mon : CurrentMonitor
  lcq : LineQueue
  nodes : Vector (Entry NodeRec) 48
  nodeLive : Vector NodeLive 48
  rollPtr : Fin 48
  polls : Vector (Entry PollRec) 32
  probes : Vector (Option ProbeLive) 48
  weather : WeatherUnit
  weatherRec : Entry WeatherRec
  drying : Entry DryingRec
  beds : Vector (Entry BedRec) 24
  bedLive : Vector (Option BedLive) 24
  runs : List Run
  valves : Vector (Entry ValveRec) 32
  valveLive : Vector ValveLive 32
  beacon : Option Nat
  mv : Bool
  locks : LockUnit
  lockRecs : Vector (Entry LockRec) 5
  supplyRec : Entry SupplyRec
  monitor : SupplyMonitor
  lineRec : Entry LineRec
  hub : HubPort
  notice : NoticeUnit
  work : Work
  choice : Nat
  pending : List Instr
  deriving DecidableEq, Repr

/-! ## Reset values -/

/-- An entry right after reset: the active copy given, pending-valid and SWAP_DUE clear (10 R164). -/
def Entry.atReset {α : Type} (active : α) : Entry α := { active := active, pending := none, due := false }

/-- 03 R36; the other fields of an unused record are a DESIGN CHOICE, log 16. -/
def NodeRec.reset : NodeRec :=
  { kind := .unused, address := 0, outputs := 0, forward := 0, delta := 0, dry := 0, wet := 0 }

/-- 07 R120; the other fields of an unused record are a DESIGN CHOICE, log 16. -/
def ValveRec.reset : ValveRec := { used := false, decoder := 0, output := 0, flow := 0 }

/-- 05 R68; the other fields of an unused record are a DESIGN CHOICE, log 16. -/
def BedRec.reset : BedRec :=
  { used := false, mode := 0, valve := 0, probeA := 0, probeB := 0, area := 0, fieldCapacity := 0, holding := 0,
    smoothing := 0, dryingExposure := 0, rainExposure := 0, defaultRate := 0, startThreshold := 0, stopLevel := 0,
    minRun := 0, maxRun := 0, pulseOn := 0, soak := 0, windowStart := 0, windowEnd := 0 }

/-- 06 R97, 09 R153. -/
def SupplyRec.reset : SupplyRec :=
  { maxSlots := 1, flowCap := 200, actionA := .unused, actionB := .unused, pulsesPerLitre := 450, overMargin := 30,
    underMargin := 50, leakThreshold := 20, masterValve := false }

/-- 01 R2. -/
def LineRec.reset : LineRec := { trim := 64, trip := 10, replyWindow := 16 }

/-- 04 R57. -/
def WeatherRec.reset : WeatherRec := { windFactor := 0, source := .unused, tipSize := 2 }

/-- 04 R57. -/
def DryingRec.reset : DryingRec :=
  { bands := [(-100, 0), (0, 0), (100, 0), (200, 0), (300, 0), (400, 0), (500, 0), (600, 0)] }

/-- 08 R142: disabled, PAUSE, IMMEDIATE, with the further fields given. -/
def LockRec.reset (first second : Nat) : LockRec :=
  { enabled := false, mode := .pause, timing := .immediate, first := first, second := second }

/-- 03 R36. -/
def NodeLive.reset : NodeLive := { presence := .absent, misses := 0, changed := false, forwarded := none }

/-- 07 R121. -/
def ValveLive.reset : ValveLive :=
  { state := .closed, mode := .auto, owner := none, assumedOpen := false, attempts := 0, latched := false }

/-- 09 R153 to R157: an input set up fresh at part time `now`, its pin at `level`. -/
def InputLive.fresh (level : Level) (now : Nat) (micros : Micros) : InputLive :=
  { level := level, since := now, sinceMicros := micros, armed := true, lastTip := none, stable := none, rising := false
    lastEdge := none }

/-- The machine right after power-on reset (11 R191 and the rules named in INVENTORY.md). -/
def State.reset : State :=
  { partTime := 0
    micros := 0
    clock := { valid := false, minute := 0, second := 0, turnDue := false }
    seq := { state := .stopped, cycle := 0, position := 0, echoFailures := 0, resume := .stopped, rollCount := 0,
             phase := .noCycle, cycleLength := 2000, replyWindow := 16, rollCycle := false, toPoll := [],
             nextSlot := 0, tx := .idle, ltx := [] }
    lpwr := true
    mon := { faults := [], backoff := none, measureSince := none, swapEnded := none, sensed := 0 }
    lcq := { closes := Vector.replicate 32 none, fifo := [], clearOwed := false, withdrawOwed := false }
    nodes := Vector.replicate 48 (Entry.atReset NodeRec.reset)
    nodeLive := Vector.replicate 48 NodeLive.reset
    rollPtr := 0
    polls := Vector.replicate 32 (Entry.atReset { nodes := [] })
    probes := Vector.replicate 48 none
    weather := { status := .noNode, temperature := 0, wind := 0, rate := 0, reference := none, baseline := none }
    weatherRec := Entry.atReset WeatherRec.reset
    drying := Entry.atReset DryingRec.reset
    beds := Vector.replicate 24 (Entry.atReset BedRec.reset)
    bedLive := Vector.replicate 24 none
    runs := []
    valves := Vector.replicate 32 (Entry.atReset ValveRec.reset)
    valveLive := Vector.replicate 32 ValveLive.reset
    beacon := none
    mv := false
    locks := { cond := { rainContact := false, rainHold := false, freeze := false, wind := false, hub := false,
                         supply := false },
               rainHold := none, effective := none, handed := none }
    lockRecs := #v[Entry.atReset (LockRec.reset 0 0), Entry.atReset (LockRec.reset 1 120),
                   Entry.atReset (LockRec.reset 20 10), Entry.atReset (LockRec.reset 100 20),
                   Entry.atReset (LockRec.reset 0 0)]
    supplyRec := Entry.atReset SupplyRec.reset
    monitor := { inputA := InputLive.fresh .high 0 0, inputB := InputLive.fresh .high 0 0, window := none,
                 lastChange := 0, highCount := 0, lowCount := 0, leakCount := 0, result := none }
    lineRec := Entry.atReset LineRec.reset
    hub := { framer := .hunting, requests := [], answer := none, htx := .idle, wire := [], reports := [],
             passWait := [], holdOff := false, resetOwed := false }
    notice := { flags := 1, mask := 1, pending := true }
    work := { pass := false, free := false, sweep := false, stop := false, mark := false }
    choice := 0
    pending := [] }

end Sys2Proof.Machine
end

