-- ==== Sys2Proof/Machine/Flags.lean ====
section
/-! DEFINITION. The Notice Unit's flags: names, bit positions, setting a flag and the notice rule (11 R185, R186,
12 R193). -/

namespace Sys2Proof.Machine

/-- The 17 status flags (11 R185). -/
inductive Flag where
  | ready | lineFault | lineLockout | seqHalted | nodeChange | probeFault | valveFault | lockChange | supplyAlarm
  | leak | lowFlow | rainSuspect | weatherStale | runDone | updateDone | reportLost | linkOverrun
  deriving DecidableEq, Repr

/-- Bit positions (12.2). -/
def Flag.bit : Flag → Nat
  | .ready => 0 | .lineFault => 1 | .lineLockout => 2 | .seqHalted => 3 | .nodeChange => 4 | .probeFault => 5
  | .valveFault => 6 | .lockChange => 7 | .supplyAlarm => 8 | .leak => 9 | .lowFlow => 10 | .rainSuspect => 11
  | .weatherStale => 12 | .runDone => 13 | .updateDone => 14 | .reportLost => 15 | .linkOverrun => 16

/-- A flag named by a set of flags (12 R193). -/
def namesFlag (set : BitVec 32) (f : Flag) : Bool := set.getLsbD f.bit

/-- The set that names one flag. -/
def Flag.mask (f : Flag) : BitVec 32 := 1#32 <<< f.bit

/-- Bits 17 to 31 are not flags (12 R193). -/
def flagsOnly (set : BitVec 32) : Bool := set >>> 17 == 0#32

/-- The flag is set. -/
def NoticeUnit.isSet (n : NoticeUnit) (f : Flag) : Bool := namesFlag n.flags f

/-- Setting a flag; a flag of the mask that goes from clear to set makes a notice pending (11 R186). -/
def NoticeUnit.raise (f : Flag) (n : NoticeUnit) : NoticeUnit :=
  { n with flags := n.flags ||| f.mask, pending := n.pending || (!n.isSet f && namesFlag n.mask f) }

/-- Some block sets a status flag. -/
def setFlag (f : Flag) (s : State) : State := { s with notice := s.notice.raise f }

end Sys2Proof.Machine
end

