-- ==== Sys2Proof/Machine/Bytes.lean ====
section
/-! DEFINITION. Byte order, signed fields and the two CRCs (00 "Byte order and signed values", 01 R7, 11 R180). -/

namespace Sys2Proof.Machine

/-- The low byte of a number. -/
def byteOf (n : Nat) : Byte := BitVec.ofNat 8 n

/-- One-byte field. -/
def put1 (n : Nat) : List Byte := [byteOf n]

/-- Two-byte field, little-endian. -/
def put2 (n : Nat) : List Byte := [byteOf n, byteOf (n / 256)]

/-- Four-byte field, little-endian. -/
def put4 (n : Nat) : List Byte := [byteOf n, byteOf (n / 256), byteOf (n / 65536), byteOf (n / 16777216)]

/-- Two-byte signed field, two's complement. -/
def putSigned2 (i : Int) : List Byte := put2 (i % 65536).toNat

/-- A yes/no field: 0 or 1 (12 R192). -/
def putMark (b : Bool) : List Byte := put1 (if b then 1 else 0)

/-- The byte at an offset; 0 past the end (no rule reads past a checked length). -/
def get1 (bs : List Byte) (i : Nat) : Nat := (bs.getD i 0).toNat

/-- The two-byte field at an offset. -/
def get2 (bs : List Byte) (i : Nat) : Nat := get1 bs i + 256 * get1 bs (i + 1)

/-- The four-byte field at an offset. -/
def get4 (bs : List Byte) (i : Nat) : Nat := get2 bs i + 65536 * get2 bs (i + 2)

/-- The value of a 16-bit two's complement field. -/
def signed16 (n : Nat) : Int := if n < 32768 then n else (n : Int) - 65536

/-- One shift of the CRC-8 register toward its least significant bit (01 R7). -/
def crc8Shift (r : Byte) : Byte := if r.getLsbD 0 then (r >>> 1) ^^^ 0xE0 else r >>> 1

/-- One byte taken into the CRC-8 register (01 R7). -/
def crc8Byte (r b : Byte) : Byte :=
  crc8Shift (crc8Shift (crc8Shift (crc8Shift (crc8Shift (crc8Shift (crc8Shift (crc8Shift (r ^^^ b))))))))

/-- The CRC byte of a line frame (01 R7). -/
def crc8 (bs : List Byte) : Byte := bs.foldl crc8Byte 0

/-- One shift of the CRC-16 register, most significant bit first (11 R180). -/
def crc16Shift (r : BitVec 16) : BitVec 16 := if r.getLsbD 15 then (r <<< 1) ^^^ 0x1021 else r <<< 1

/-- One byte taken into the CRC-16 register (11 R180). -/
def crc16Byte (r : BitVec 16) (b : Byte) : BitVec 16 :=
  crc16Shift (crc16Shift (crc16Shift (crc16Shift (crc16Shift (crc16Shift (crc16Shift (crc16Shift
    (r ^^^ (b.setWidth 16 <<< 8)))))))))

/-- The CRC-16 of a hub link frame over LEN, KIND and BODY (11 R180). -/
def crc16 (bs : List Byte) : BitVec 16 := bs.foldl crc16Byte 0xFFFF

end Sys2Proof.Machine
end

