-- ==== Sys2Proof/Machine/Records.lean ====
section
/-! DEFINITION. The loaded records of 12.4: their codes, their range checks at LOAD (10 R166) and their bytes. A
`parse` is given the bytes of a record of the right length and answers none on a range error. -/

namespace Sys2Proof.Machine

/-! ## Codes (12.2) -/

/-- Marker (12 R192): 0 or 1, anything else is a range error. -/
def markOf (n : Nat) : Option Bool := if n = 0 then some false else if n = 1 then some true else none

/-- Node kind codes. -/
def NodeKind.ofCode : Nat → Option NodeKind
  | 0 => some .unused | 1 => some .valveDecoder | 2 => some .soilProbe | 3 => some .weather | 4 => some .other
  | _ => none

/-- Node kind codes. -/
def NodeKind.code : NodeKind → Nat
  | .unused => 0 | .valveDecoder => 1 | .soilProbe => 2 | .weather => 3 | .other => 4

/-- Input action codes. -/
def InputAction.ofCode : Nat → Option InputAction
  | 0 => some .unused | 1 => some .rainTips | 2 => some .rainContact | 3 => some .flow | _ => none

/-- Input action codes. -/
def InputAction.code : InputAction → Nat
  | .unused => 0 | .rainTips => 1 | .rainContact => 2 | .flow => 3

/-- Rain source codes. -/
def RainSource.ofCode : Nat → Option RainSource
  | 0 => some .unused | 1 => some .weather | 2 => some .localTips | _ => none

/-- Rain source codes. -/
def RainSource.code : RainSource → Nat
  | .unused => 0 | .weather => 1 | .localTips => 2

/-- Lock mode codes. -/
def LockMode.ofCode : Nat → Option LockMode
  | 0 => some .pause | 1 => some .cancel | _ => none

/-- Lock mode codes. -/
def LockMode.code : LockMode → Nat
  | .pause => 0 | .cancel => 1

/-- Lock timing codes. -/
def LockTiming.ofCode : Nat → Option LockTiming
  | 0 => some .immediate | 1 => some .pulseEnd | _ => none

/-- Lock timing codes. -/
def LockTiming.code : LockTiming → Nat
  | .immediate => 0 | .pulseEnd => 1

/-- Valve mode codes. -/
def ValveMode.ofCode : Nat → Option ValveMode
  | 0 => some .auto | 1 => some .forcedOpen | 2 => some .forcedClosed | 3 => some .detached | _ => none

/-- Valve mode codes. -/
def ValveMode.code : ValveMode → Nat
  | .auto => 0 | .forcedOpen => 1 | .forcedClosed => 2 | .detached => 3

/-- Valve state codes. -/
def ValveState.code : ValveState → Nat
  | .closed => 0 | .opening => 1 | .opened => 2 | .closing => 3 | .fault => 4 | .detached => 5

/-- Presence codes. -/
def Presence.code : Presence → Nat
  | .absent => 0 | .present => 1 | .missing => 2

/-- Probe state codes. -/
def ProbeState.code : ProbeState → Nat
  | .ok => 0 | .stale => 1 | .faulted => 2

/-- Weather status codes. -/
def WeatherStatus.code : WeatherStatus → Nat
  | .noNode => 0 | .waiting => 1 | .fresh => 2 | .stale => 3

/-- Run state codes. -/
def RunState.code : RunState → Nat
  | .queued => 1 | .on => 2 | .soak => 3 | .held => 4

/-- Origin codes. -/
def Origin.code : Origin → Nat
  | .auto => 0 | .hub => 1

/-- Sequencer state codes. -/
def SeqState.code : SeqState → Nat
  | .stopped => 0 | .running => 1 | .step => 2 | .stopping => 3 | .halted => 4 | .lineOff => 5 | .lockedOut => 6

/-! ## References between tables -/

/-- A valve reference of a bed record: 0..31, or none (12 R192). -/
def valveRef (n : Nat) : Option (Fin 32) := if h : n < 32 then some ⟨n, h⟩ else none

/-- A node reference: 0..47, or none (12 R192). -/
def nodeRef (n : Nat) : Option (Fin 48) := if h : n < 48 then some ⟨n, h⟩ else none

/-- A bed index of a request (05 R86, 06 R109). -/
def bedRef (n : Nat) : Option (Fin 24) := if h : n < 24 then some ⟨n, h⟩ else none

/-- An empty or in-range reference byte, the two forms LOAD takes (10 R166, 12 R192). -/
def refOk (limit n : Nat) : Bool := n < limit || n == 0xFF

/-! ## Node records -/

/-- Range and relation checks of a node record (03 R36, 10 R166). A record of kind NONE is checked for its kind only. -/
def NodeRec.ok (r : NodeRec) : Bool :=
  r.kind == .unused ||
  (1 ≤ r.address && r.address ≤ 250 && r.forward ≤ 2 && (r.forward != 2 || 1 ≤ r.delta) &&
   (r.kind != .valveDecoder || (1 ≤ r.outputs && r.outputs ≤ 2)) &&
   (r.kind != .soilProbe || r.wet + 64 ≤ r.dry))

/-- A node record of 10 bytes. -/
def NodeRec.parse (bs : List Byte) : Option NodeRec :=
  match NodeKind.ofCode (get1 bs 0) with
  | none => none
  | some k =>
    let r : NodeRec := { kind := k, address := get1 bs 1, outputs := get1 bs 2, forward := get1 bs 3,
                         delta := get2 bs 4, dry := get2 bs 6, wet := get2 bs 8 }
    if r.ok then some r else none

/-- The 10 bytes of a node record. -/
def NodeRec.bytes (r : NodeRec) : List Byte :=
  put1 r.kind.code ++ put1 r.address ++ put1 r.outputs ++ put1 r.forward ++ put2 r.delta ++ put2 r.dry ++ put2 r.wet

/-- An entry whose kind is NONE is unused; every other is used (03 R36). -/
def NodeRec.used (r : NodeRec) : Bool := r.kind != .unused

/-! ## Poll entries -/

/-- A poll entry of 5 bytes: count 0..4 and that many indexes 0..47; slots past the count are ignored (12.4). -/
def PollRec.parse (bs : List Byte) : Option PollRec :=
  let slots := (bs.drop 1).take (get1 bs 0)
  let refs := slots.filterMap fun b => nodeRef b.toNat
  if get1 bs 0 ≤ 4 && refs.length == slots.length then some { nodes := refs } else none

/-- The 5 bytes of a poll entry; slots past the count are sent as 0xFF (12.4). -/
def PollRec.bytes (r : PollRec) : List Byte :=
  put1 r.nodes.length ++ (r.nodes.map (fun (i : Fin 48) => byteOf i.val) ++ List.replicate 4 (0xFF : Byte)).take 4

/-! ## Valve records -/

/-- Ranges of a valve record (07 R120); an unused one is checked for its marker only (10 R166). -/
def ValveRec.ok (r : ValveRec) : Bool :=
  !r.used || (r.decoder < 48 && 1 ≤ r.output && r.output ≤ 2 && 1 ≤ r.flow && r.flow ≤ 1000)

/-- A valve record of 5 bytes. -/
def ValveRec.parse (bs : List Byte) : Option ValveRec :=
  match markOf (get1 bs 0) with
  | none => none
  | some u =>
    let r : ValveRec := { used := u, decoder := get1 bs 1, output := get1 bs 2, flow := get2 bs 3 }
    if r.ok then some r else none

/-- The 5 bytes of a valve record. -/
def ValveRec.bytes (r : ValveRec) : List Byte :=
  putMark r.used ++ put1 r.decoder ++ put1 r.output ++ put2 r.flow

/-! ## Bed records -/

/-- Ranges and relations of a bed record (05 R68, 10 R166); an unused one is checked for its marker only. -/
def BedRec.ok (r : BedRec) : Bool :=
  !r.used ||
  (r.mode ≤ 2 && refOk 32 r.valve && refOk 48 r.probeA && refOk 48 r.probeB &&
   (1 ≤ r.area && r.area ≤ 10000) && (100 ≤ r.fieldCapacity && r.fieldCapacity ≤ 1000) &&
   (10 ≤ r.holding && r.holding ≤ 2000) && (1 ≤ r.smoothing && r.smoothing ≤ 8) &&
   r.dryingExposure ≤ 150 && r.rainExposure ≤ 100 && r.defaultRate ≤ 400 &&
   (1 ≤ r.startThreshold && r.startThreshold ≤ 2000) && r.stopLevel < r.startThreshold &&
   (10 ≤ r.minRun && r.minRun ≤ 600) && (60 ≤ r.maxRun && r.maxRun ≤ 7200) && r.minRun ≤ r.maxRun &&
   (r.pulseOn == 0 || (60 ≤ r.pulseOn && r.pulseOn ≤ 3600)) && (60 ≤ r.soak && r.soak ≤ 7200) &&
   r.windowStart ≤ 1439 && r.windowEnd ≤ 1439)

/-- A bed record of 32 bytes. -/
def BedRec.parse (bs : List Byte) : Option BedRec :=
  match markOf (get1 bs 0) with
  | none => none
  | some u =>
    let r : BedRec :=
      { used := u, mode := get1 bs 1, valve := get1 bs 2, probeA := get1 bs 3, probeB := get1 bs 4,
        area := get2 bs 5, fieldCapacity := get2 bs 7, holding := get2 bs 9, smoothing := get1 bs 11,
        dryingExposure := get1 bs 12, rainExposure := get1 bs 13, defaultRate := get2 bs 14,
        startThreshold := get2 bs 16, stopLevel := get2 bs 18, minRun := get2 bs 20, maxRun := get2 bs 22,
        pulseOn := get2 bs 24, soak := get2 bs 26, windowStart := get2 bs 28, windowEnd := get2 bs 30 }
    if r.ok then some r else none

/-- The 32 bytes of a bed record. -/
def BedRec.bytes (r : BedRec) : List Byte :=
  putMark r.used ++ put1 r.mode ++ put1 r.valve ++ put1 r.probeA ++ put1 r.probeB ++ put2 r.area ++
  put2 r.fieldCapacity ++ put2 r.holding ++ put1 r.smoothing ++ put1 r.dryingExposure ++ put1 r.rainExposure ++
  put2 r.defaultRate ++ put2 r.startThreshold ++ put2 r.stopLevel ++ put2 r.minRun ++ put2 r.maxRun ++
  put2 r.pulseOn ++ put2 r.soak ++ put2 r.windowStart ++ put2 r.windowEnd

/-- A bed's modes (05 R69): what may start a run on it. -/
def BedRec.isAuto (r : BedRec) : Bool := r.mode == 1

/-- RUN_START is accepted in modes AUTO and HUB_ONLY (05 R69). -/
def BedRec.takesHubRuns (r : BedRec) : Bool := r.mode == 1 || r.mode == 2

/-- The bed names node `n` as probe A or probe B (05 R68). -/
def BedRec.names (r : BedRec) (n : Fin 48) : Bool := r.probeA == n.val || r.probeB == n.val

/-- The watering window at a minute of day (05 R68). -/
def BedRec.windowOpen (r : BedRec) (m : Nat) : Bool :=
  if r.windowStart = r.windowEnd then true
  else if r.windowStart < r.windowEnd then r.windowStart ≤ m && m < r.windowEnd
  else r.windowStart ≤ m || m < r.windowEnd

/-- The probe set of a bed is unchanged, whichever field names which probe (05 R88). -/
def BedRec.sameProbes (old new : BedRec) : Bool :=
  (nodeRef old.probeA == nodeRef new.probeA && nodeRef old.probeB == nodeRef new.probeB) ||
  (nodeRef old.probeA == nodeRef new.probeB && nodeRef old.probeB == nodeRef new.probeA)

/-! ## Single records -/

/-- Ranges of the supply record's number fields (06 R97, 09 R153). -/
def SupplyRec.ok (r : SupplyRec) : Bool :=
  (1 ≤ r.maxSlots && r.maxSlots ≤ 4) && (10 ≤ r.flowCap && r.flowCap ≤ 2000) &&
  (1 ≤ r.pulsesPerLitre && r.pulsesPerLitre ≤ 1000) && (10 ≤ r.overMargin && r.overMargin ≤ 200) &&
  (10 ≤ r.underMargin && r.underMargin ≤ 90) && (1 ≤ r.leakThreshold && r.leakThreshold ≤ 2000)

/-- A supply record of 12 bytes. -/
def SupplyRec.parse (bs : List Byte) : Option SupplyRec :=
  match InputAction.ofCode (get1 bs 3), InputAction.ofCode (get1 bs 4), markOf (get1 bs 11) with
  | some a, some b, some m =>
    let r : SupplyRec := { maxSlots := get1 bs 0, flowCap := get2 bs 1, actionA := a, actionB := b,
                           pulsesPerLitre := get2 bs 5, overMargin := get1 bs 7, underMargin := get1 bs 8,
                           leakThreshold := get2 bs 9, masterValve := m }
    if r.ok then some r else none
  | _, _, _ => none

/-- The 12 bytes of a supply record. -/
def SupplyRec.bytes (r : SupplyRec) : List Byte :=
  put1 r.maxSlots ++ put2 r.flowCap ++ put1 r.actionA.code ++ put1 r.actionB.code ++ put2 r.pulsesPerLitre ++
  put1 r.overMargin ++ put1 r.underMargin ++ put2 r.leakThreshold ++ putMark r.masterValve

/-- The action of an input. -/
def SupplyRec.action (r : SupplyRec) : InputId → InputAction
  | .a => r.actionA
  | .b => r.actionB

/-- At least one input is configured FLOW (09 R158). -/
def SupplyRec.hasFlow (r : SupplyRec) : Bool := r.actionA == .flow || r.actionB == .flow

/-- Ranges of the line settings (01 R2, 02 R29). -/
def LineRec.ok (r : LineRec) : Bool :=
  r.trim ≤ 127 && (1 ≤ r.trip && r.trip ≤ 15) && (8 ≤ r.replyWindow && r.replyWindow ≤ 40)

/-- Line settings of 3 bytes. -/
def LineRec.parse (bs : List Byte) : Option LineRec :=
  let r : LineRec := { trim := get1 bs 0, trip := get1 bs 1, replyWindow := get1 bs 2 }
  if r.ok then some r else none

/-- The 3 bytes of the line settings. -/
def LineRec.bytes (r : LineRec) : List Byte := put1 r.trim ++ put1 r.trip ++ put1 r.replyWindow

/-- Ranges of the weather record (04 R57). -/
def WeatherRec.ok (r : WeatherRec) : Bool := r.windFactor ≤ 20 && 1 ≤ r.tipSize && r.tipSize ≤ 10

/-- A weather record of 3 bytes. -/
def WeatherRec.parse (bs : List Byte) : Option WeatherRec :=
  match RainSource.ofCode (get1 bs 1) with
  | none => none
  | some src =>
    let r : WeatherRec := { windFactor := get1 bs 0, source := src, tipSize := get1 bs 2 }
    if r.ok then some r else none

/-- The 3 bytes of a weather record. -/
def WeatherRec.bytes (r : WeatherRec) : List Byte := put1 r.windFactor ++ put1 r.source.code ++ put1 r.tipSize

/-- Ranges of the drying table: eight bands, bounds -400..600, base rates 0..400 (04 R57). Their ascending order is a
cross check of UPDATE (10 R166). -/
def DryingRec.ok (r : DryingRec) : Bool :=
  r.bands.length == 8 && r.bands.all fun b => -400 ≤ b.1 && b.1 ≤ 600 && b.2 ≤ 400

/-- A drying table of 32 bytes. -/
def DryingRec.parse (bs : List Byte) : Option DryingRec :=
  let r : DryingRec := { bands := (List.range 8).map fun i => (signed16 (get2 bs (4 * i)), get2 bs (4 * i + 2)) }
  if r.ok then some r else none

/-- The 32 bytes of a drying table. -/
def DryingRec.bytes (r : DryingRec) : List Byte := r.bands.flatMap fun b => putSigned2 b.1 ++ put2 b.2

/-- T_f of the FREEZE record (08 R142, 12.4 signed). -/
def LockRec.freezeThreshold (r : LockRec) : Int := signed16 r.first

/-- The ranges of a lock record's further fields, by its index (08 R142). -/
def LockRec.ok (i : Fin 5) (r : LockRec) : Bool :=
  if i = 1 then 1 ≤ r.first && r.first ≤ 50 && 10 ≤ r.second && r.second ≤ 2880
  else if i = 2 then
    -400 ≤ r.freezeThreshold && r.freezeThreshold ≤ 599 && r.second ≤ 100 && r.freezeThreshold + r.second ≤ 600
  else if i = 3 then 1 ≤ r.first && r.first ≤ 600 && r.second ≤ 100 && r.second ≤ r.first
  else true

/-- A lock record of 7 bytes. -/
def LockRec.parse (i : Fin 5) (bs : List Byte) : Option LockRec :=
  match markOf (get1 bs 0), LockMode.ofCode (get1 bs 1), LockTiming.ofCode (get1 bs 2) with
  | some e, some m, some t =>
    let r : LockRec := { enabled := e, mode := m, timing := t, first := get2 bs 3, second := get2 bs 5 }
    if r.ok i then some r else none
  | _, _, _ => none

/-- The 7 bytes of a lock record. -/
def LockRec.bytes (r : LockRec) : List Byte :=
  putMark r.enabled ++ put1 r.mode.code ++ put1 r.timing.code ++ put2 r.first ++ put2 r.second

end Sys2Proof.Machine
end

