-- ==== Sys2Proof/Machine/Operands.lean ====
section
/-! DEFINITION. The operand forms of the line events: the frames the part sends, and how a reply is judged (01 R6,
R7, R8, 12 R194). -/

namespace Sys2Proof.Machine

/-- A line frame: header, body and CRC-8 (01 R7). -/
def lineFrame (bs : List Byte) : List Byte := bs ++ [crc8 bs]

/-- CYCLE_MARK (12 R194). -/
def markFrame (cycle : Nat) : List Byte := lineFrame (0x10 :: put2 cycle)

/-- POLL (12 R194). -/
def pollFrame (address : Byte) : List Byte := lineFrame [0x20, address]

/-- SET_OUTPUT: the output number in bits 0..1, bit 7 set for OPEN (12 R194). Bits 2 to 6 of the command byte, of which the
rule says nothing, are sent as 0: DESIGN CHOICE (log 38). -/
def setOutputFrame (address : Byte) (output : Nat) (kind : CommandKind) : List Byte :=
  lineFrame [0x30, address, byteOf (output % 4 + if kind = .openValve then 128 else 0)]

/-- PASS (12 R194). -/
def passFrame (address : Byte) (data : List Byte) : List Byte :=
  lineFrame (byteOf (0x40 + data.length) :: address :: data)

/-- Bit times a frame takes on the line (01 R1). -/
def frameTime (frame : List Byte) : Nat := 10 * frame.length

/-- The window and slot figures of a transaction, in bit times from the slot's start (01 R6). -/
structure SlotTiming where
  opens : Nat
  closes : Nat
  length : Nat
  deriving DecidableEq, Repr

/-- A single slot whose frame takes `sent` bit times, with reply window `w` (01 R6). -/
def singleSlot (sent w : Nat) : SlotTiming := { opens := sent, closes := 40 + w, length := 160 }

/-- A PASS double slot (01 R6). -/
def doubleSlot (sent w : Nat) : SlotTiming := { opens := sent, closes := 90 + w, length := 320 }

/-- The first `n` bytes of what was received, if there are as many (a shorter frame is one with a bad CRC, 01 R1) and
their CRC is good; bytes past the frame's length are no part of it (log 19). -/
def goodFrame (n : Nat) (bs : List Byte) : Option (List Byte) :=
  let f := bs.take n
  if f.length = n && 1 ≤ n && crc8 f.dropLast == f.getLastD 0 then some f.dropLast else none

/-- The bytes that follow one ending at position `pos`: more than 10 bit times of idle end the frame at the byte before
them (01 R1), and a byte that is not complete by the slot's end is not received in it (01 R6). -/
def followers (length : Nat) : Nat → List (Nat × Byte) → List Byte
  | _, [] => []
  | pos, (gap, b) :: rest =>
    if gap ≤ 10 && pos + gap + 10 ≤ length then b :: followers length (pos + gap + 10) rest else []

/-- The bytes received of a reply that begins within the window (01 R1, R6). -/
def heard (t : SlotTiming) : Reply → Option (List Byte)
  | .silent | .frame [] => none
  | .frame ((start, b) :: rest) =>
    if t.opens ≤ start && start < t.closes && start + 10 ≤ t.length then some (b :: followers t.length (start + 10) rest)
    else none

/-- Length in bytes of a REPORT of a kind (01 R7). -/
def reportLength : NodeKind → Nat
  | .valveDecoder => 4 | .soilProbe => 5 | .weather => 9 | .other => 7 | .unused => 0

/-- The accepted REPORT of a POLL: the node kind and the payload between address and CRC (01 R8, 12 R194). -/
def acceptReport (address : Byte) (t : SlotTiming) (r : Reply) : Option (NodeKind × List Byte) :=
  match heard t r with
  | none => none
  | some bs =>
    let h := get1 bs 0
    if h / 16 != 5 then none
    else
      match NodeKind.ofCode (h % 16) with
      | none => none
      | some .unused => none
      | some k =>
        match goodFrame (reportLength k) bs with
        | none => none
        | some f => if f.getD 1 0 == address then some (k, f.drop 2) else none

/-- Output 1 or 2 in an output state byte (12 R194); the other bits are not read (log 19). -/
def outputOpen (state : Nat) (output : Nat) : Bool := state / 2 ^ (output - 1) % 2 == 1

/-- The SET_OUTPUT is answered: an OUTPUT_ACK that shows the commanded state (01 R8). -/
def acceptAck (address : Byte) (output : Nat) (kind : CommandKind) (t : SlotTiming) (r : Reply) : Bool :=
  match heard t r with
  | none => false
  | some bs =>
    match goodFrame 4 bs with
    | none => false
    | some f =>
      f.getD 0 0 == 0x60 && f.getD 1 0 == address &&
      outputOpen (get1 f 2) output == (kind == .openValve)

/-- The opaque bytes of an accepted PASS_ANSWER (01 R8). -/
def acceptPassAnswer (address : Byte) (t : SlotTiming) (r : Reply) : Option (List Byte) :=
  match heard t r with
  | none => none
  | some bs =>
    let h := get1 bs 0
    if h / 16 != 7 || 6 < h % 16 then none
    else
      match goodFrame (3 + h % 16) bs with
      | none => none
      | some f => if f.getD 1 0 == address then some (f.drop 2) else none

/-- First value field of a report (03 R44). -/
def firstValue (k : NodeKind) (payload : List Byte) : Int :=
  match k with
  | .soilProbe | .other => get2 payload 0
  | .weather => signed16 (get2 payload 0)
  | .valveDecoder => (get1 payload 0 % 4 : Nat)
  | .unused => 0

end Sys2Proof.Machine
end

