-- ==== Sys2Proof/Machine/Ops.lean ====
section
/-! DEFINITION. The shared operations over the state: one setter for each block's fields, the Line Command Queue (01
R12 to R19), the report FIFO and upstream arbiter (03 R46, 11 R184), the master valve (07 R139) and the readings of
the active tables that several blocks share. -/

namespace Sys2Proof.Machine

/-! ## The present -/

/-- A moment in µs of part time (09 R154). -/
def momentOf (second : Nat) (micros : Micros) : Nat := second * 1000000 + micros

/-- The present, in µs of part time (log 4). -/
def State.now (s : State) : Nat := momentOf s.partTime s.micros

/-! ## An order left open -/

/-- `f` is taken of each of some things that fall together, in an order left open: while several are left, the free value
`next` says which comes next, modulo their number. `n` bounds them. -/
def inAnyOrder {α : Type} (next : Nat → Nat) (f : α → State → State) : Nat → List α → State → State
  | 0, _, s => s
  | _, [], s => s
  | _, [x], s => f x s
  | n + 1, x :: xs, s =>
    let i := next s.choice % (xs.length + 1)
    inAnyOrder next f n ((x :: xs).eraseIdx i) (f ((x :: xs).getD i x) { s with choice := s.choice + 1 })

/-! ## Setters -/

/-- Replaces the live state of a valve entry. -/
def State.setValveLive (s : State) (v : Fin 32) (l : ValveLive) : State :=
  { s with valveLive := s.valveLive.set v l }

/-- Replaces the live state of a node entry. -/
def State.setNodeLive (s : State) (n : Fin 48) (l : NodeLive) : State := { s with nodeLive := s.nodeLive.set n l }

/-- Replaces the live state of a probe. -/
def State.setProbe (s : State) (n : Fin 48) (p : Option ProbeLive) : State := { s with probes := s.probes.set n p }

/-- Replaces the live balance of a bed. -/
def State.setBedLive (s : State) (b : Fin 24) (l : Option BedLive) : State :=
  { s with bedLive := s.bedLive.set b l }

/-- Replaces the run queue. -/
def State.setRuns (s : State) (rs : List Run) : State := { s with runs := rs }

/-- Replaces the Line Command Queue. -/
def State.setQueue (s : State) (q : LineQueue) : State := { s with lcq := q }

/-- Replaces the Field Line Sequencer. -/
def State.setSeq (s : State) (q : Sequencer) : State := { s with seq := q }

/-- Replaces the Hub Link Port. -/
def State.setHub (s : State) (h : HubPort) : State := { s with hub := h }

/-- Replaces the work the present step still owes. -/
def State.setWork (s : State) (w : Work) : State := { s with work := w }

/-- Replaces the Supply Monitor. -/
def State.setMonitor (s : State) (m : SupplyMonitor) : State := { s with monitor := m }

/-- Replaces the Line Current Monitor. -/
def State.setMon (s : State) (m : CurrentMonitor) : State := { s with mon := m }

/-- Replaces the Weather Unit. -/
def State.setWeatherUnit (s : State) (w : WeatherUnit) : State := { s with weather := w }

/-- Replaces the Lock Unit. -/
def State.setLocks (s : State) (l : LockUnit) : State := { s with locks := l }

/-! ## Readings of the active tables -/

/-- Nominal flow F of a valve, from the active entry (06 R93, 07 R120). -/
def flowOf (s : State) (v : Fin 32) : Nat := s.valves[v].active.flow

/-- The valve of a bed's active entry (05 R68). -/
def valveOf (s : State) (b : Fin 24) : Option (Fin 32) := valveRef s.beds[b].active.valve

/-- The bed whose used entry names a valve; at most one does (10 R170). -/
def bedNaming (s : State) (v : Fin 32) : Option (Fin 24) :=
  (List.finRange 24).find? fun b => s.beds[b].active.used && valveOf s b == some v

/-- The bed whose used entry names a probe (04 R53); at most one does (10 R170). -/
def bedOfProbe (s : State) (n : Fin 48) : Option (Fin 24) :=
  (List.finRange 24).find? fun b => s.beds[b].active.used && s.beds[b].active.names n

/-- Presence of a valve's decoder node, from the active valve entry (06 R99). -/
def decoderPresence (s : State) (v : Fin 32) : Presence :=
  match nodeRef s.valves[v].active.decoder with
  | some n => s.nodeLive[n].presence
  | none => .absent

/-- Line address of a valve's decoder, from the active valve and node entries (01 R16). -/
def decoderAddress (s : State) (v : Fin 32) : Byte :=
  match nodeRef s.valves[v].active.decoder with
  | some n => byteOf s.nodes[n].active.address
  | none => 0

/-- The used valves whose decoder is a node entry, in index order. -/
def valvesOn (s : State) (n : Fin 48) : List (Fin 32) :=
  (List.finRange 32).filter fun v => s.valves[v].active.used && s.valves[v].active.decoder == n.val

/-- OPENING, OPEN or CLOSING. -/
def ValveState.moving : ValveState → Bool
  | .opening | .opened | .closing => true
  | .closed | .fault | .detached => false

/-- The used beds, in index order. -/
def usedBeds (s : State) : List (Fin 24) := (List.finRange 24).filter fun b => s.beds[b].active.used

/-- Marks are sent in RUNNING, STEP and STOPPING (02 R20). -/
def SeqState.marking : SeqState → Bool
  | .running | .step | .stopping => true
  | .stopped | .halted | .lineOff | .lockedOut => false

/-- LPWR is asserted in every state but LINE_OFF and LOCKED_OUT (02 R20). -/
def SeqState.powered : SeqState → Bool
  | .lineOff | .lockedOut => false
  | .stopped | .running | .step | .stopping | .halted => true

/-! ## The budget (06 R97) -/

/-- A valve counts in the budget. -/
def ValveLive.counts (l : ValveLive) : Bool :=
  l.mode != .detached &&
  (l.state.moving || (l.state == .fault && l.assumedOpen) || l.mode == .forcedOpen)

/-- The used valves that count. -/
def counting (s : State) : List (Fin 32) :=
  (List.finRange 32).filter fun v => s.valves[v].active.used && s.valveLive[v].counts

/-- Slots in use. -/
def slotsInUse (s : State) : Nat := (counting s).length

/-- Flow in use. -/
def flowInUse (s : State) : Nat := ((counting s).map (flowOf s)).sum

/-! ## Runs, found and replaced -/

/-- The run record of a bed; the queue holds at most one (06 R93). -/
def findRun (s : State) (b : Fin 24) : Option Run := s.runs.find? fun r => r.bed == b

/-- Replaces the record of the bed that `r` waters, keeping its place (06 R94). -/
def putRun (s : State) (r : Run) : State :=
  s.setRuns (s.runs.map fun q => if q.bed = r.bed then r else q)

/-! ## What the present step owes -/

/-- A grant pass is triggered and comes after the sweep (10 R174, log 7). -/
def owePass (s : State) : State := s.setWork { s.work with pass := true }

/-- The queue tells the Dispatcher that a FIFO entry is free (01 R12). -/
def oweFree (s : State) : State := s.setWork { s.work with free := true }

/-- A swap sweep is triggered (10 R173). -/
def oweSweep (s : State) : State := s.setWork { s.work with sweep := true }

/-- A report of Valve Control: a sweep (10 R173) and the STOPPING examination (02 R25). -/
def oweReport (s : State) : State := s.setWork { s.work with sweep := true, stop := true }

/-! ## Line Command Queue -/

/-- An open for the valve. -/
def FifoEntry.opens (v : Fin 32) : FifoEntry → Bool
  | .openValve w _ => w == v
  | .pass _ _ _ => false

/-- A PASS entry. -/
def FifoEntry.isPass : FifoEntry → Bool
  | .openValve _ _ => false
  | .pass _ _ _ => true

/-- The marks of a valve's open among some FIFO entries. -/
def openMarksIn (es : List FifoEntry) (v : Fin 32) : Option Marks :=
  es.findSome? fun e => match e with
    | .openValve w m => if w = v then some m else none
    | .pass _ _ _ => none

/-- The marks of the open waiting for a valve, if one waits. -/
def LineQueue.openMarks (q : LineQueue) (v : Fin 32) : Option Marks := openMarksIn q.fifo v

/-- Both marks clear: a command fresh in its place. -/
def Marks.fresh : Marks := { attempted := false, sent := false }

/-- The command of a valve is in flight and still in its place (01 R12). -/
def flying (s : State) (v : Fin 32) (k : CommandKind) : Bool :=
  match s.seq.tx with
  | .command w j _ _ detached => w == v && j == k && !detached
  | _ => false

/-- The transaction of a valve's command runs on detached (01 R13, R14, R15). -/
def detach (v : Fin 32) (s : State) : State :=
  match s.seq.tx with
  | .command w k a o _ => if w = v then s.setSeq { s.seq with tx := .command w k a o true } else s
  | _ => s

/-- Replaces the FIFO; going from 16 entries to fewer tells the Dispatcher of a free entry (01 R12). -/
def setFifo (f : List FifoEntry) (s : State) : State :=
  let t := s.setQueue { s.lcq with fifo := f }
  if 16 ≤ s.lcq.fifo.length && f.length < 16 then oweFree t else t

/-- Sets or clears the close flag of a valve. -/
def setClose (v : Fin 32) (m : Option Marks) (s : State) : State :=
  s.setQueue { s.lcq with closes := s.lcq.closes.set v m }

/-- The open of a valve leaves the FIFO. -/
def dropOpen (v : Fin 32) (s : State) : State := setFifo (s.lcq.fifo.filter fun e => !e.opens v) s

/-- The open of a valve joins the FIFO's tail with both marks clear. -/
def appendOpen (v : Fin 32) (s : State) : State := setFifo (s.lcq.fifo ++ [.openValve v .fresh]) s

/-- What the queue answers to a close request (01 R13). -/
inductive CloseResult where
  | kept | placed | withdrawnUnsent
  deriving DecidableEq, Repr

/-- The answer to a close request, from what the queue holds for the valve (01 R13). -/
def closeResult (s : State) (v : Fin 32) : CloseResult :=
  match s.lcq.closes[v], s.lcq.openMarks v with
  | some _, _ => .kept
  | none, none => .placed
  | none, some m => if m.sent || flying s v .openValve then .placed else .withdrawnUnsent

/-- A close request applied (01 R13). -/
def closeRequest (v : Fin 32) (s : State) : State :=
  match closeResult s v with
  | .kept => s
  | .withdrawnUnsent => dropOpen v s
  | .placed =>
    let t := if flying s v .openValve then detach v s else s
    setClose v (some .fresh) (if (s.lcq.openMarks v).isSome then dropOpen v t else t)

/-- What the queue answers to an open request (01 R14). -/
inductive OpenResult where
  | kept | placed | refused
  deriving DecidableEq, Repr

/-- The answer to an open request, from what the queue holds for the valve (01 R14). -/
def openResult (s : State) (v : Fin 32) : OpenResult :=
  if (s.lcq.openMarks v).isSome then .kept else if 16 ≤ s.lcq.fifo.length then .refused else .placed

/-- An open request applied (01 R14). -/
def openRequest (v : Fin 32) (s : State) : State :=
  match openResult s v with
  | .kept | .refused => s
  | .placed =>
    let t := if flying s v .closeValve then detach v s else s
    appendOpen v (if s.lcq.closes[v].isSome then setClose v none t else t)

/-- A command waits for the valve. -/
def commandWaits (s : State) (v : Fin 32) : Bool := s.lcq.closes[v].isSome || (s.lcq.openMarks v).isSome

/-- Valve Control withdraws the waiting command of a valve (01 R15). -/
def withdraw (v : Fin 32) (s : State) : State :=
  if commandWaits s v then dropOpen v (setClose v none (detach v s)) else s

/-- The PASS entries in the FIFO (11 R182). -/
def passesQueued (s : State) : Nat := (s.lcq.fifo.filter FifoEntry.isPass).length

/-! ## Report FIFO, PASS replies and the upstream arbiter -/

/-- PASS outcomes (12.2). -/
inductive PassOutcome where
  | answered | noAnswer | lineDown
  deriving DecidableEq, Repr

/-- PASS outcome codes (12.2). -/
def PassOutcome.code : PassOutcome → Nat
  | .answered => 0 | .noAnswer => 1 | .lineDown => 2

/-- A PASS_REPLY frame (12.3). -/
def passReplyFrame (address : Byte) (o : PassOutcome) (data : List Byte) : HubFrame :=
  { kind := 0xE2, body := [address] ++ put1 o.code ++ data }

/-- The Line Command Queue hands over a PASS_REPLY; it waits for room, and is never dropped (11 R184). -/
def offerPassReply (f : HubFrame) (s : State) : State :=
  if s.hub.reports.length < 8 && s.hub.passWait.isEmpty then
    s.setHub { s.hub with reports := s.hub.reports ++ [f] }
  else s.setHub { s.hub with passWait := s.hub.passWait ++ [f] }

/-- A FIELD_REPORT frame (12.3). -/
def fieldReportFrame (n : Fin 48) (address : Nat) (k : NodeKind) (time : Nat) (payload : List Byte) : HubFrame :=
  { kind := 0xE1, body := put1 n.val ++ put1 address ++ put1 k.code ++ put4 time ++ payload }

/-- The report FIFO has room for a FIELD_REPORT and no PASS_REPLY waits (03 R46). -/
def reportFits (s : State) : Bool := s.hub.reports.length < 8 && s.hub.passWait.isEmpty

/-- The Node Table offers a FIELD_REPORT: entered, or dropped with REPORT_LOST (03 R46). -/
def offerReport (f : HubFrame) (s : State) : State :=
  if reportFits s then s.setHub { s.hub with reports := s.hub.reports ++ [f] } else setFlag .reportLost s

/-- The bytes of a hub link frame after START: LEN, KIND, BODY, and the CRC-16 over them, low byte first (11 R178,
R180). -/
def frameTail (f : HubFrame) : List Byte :=
  let counted := byteOf (f.body.length + 1) :: f.kind :: f.body
  counted ++ put2 (crc16 counted).toNat

/-- The bytes of a frame on the hub link (11 R178). -/
def wireBytes (f : HubFrame) : List Byte := 0xD3 :: frameTail f

/-- A NOTICE frame: flags and mask as they stand (11 R186, 12.3). -/
def noticeFrame (n : NoticeUnit) : HubFrame :=
  { kind := 0xE0, body := put4 n.flags.toNat ++ put4 n.mask.toNat }

/-- The report FIFO frees its head and the oldest waiting PASS_REPLY enters its tail (11 R184). -/
def HubPort.departReport (h : HubPort) : HubPort :=
  match h.passWait with
  | [] => { h with reports := h.reports.tail }
  | w :: ws => { h with reports := h.reports.tail ++ [w], passWait := ws }

/-- A frame's transmission begins on HTX: its bytes, CRC included, are formed (11 R178, R180). -/
def HubPort.send (u : Upstream) (f : HubFrame) (h : HubPort) : HubPort := { h with htx := u, wire := wireBytes f }

/-- The upstream arbiter chooses the next frame when HTX is idle and no hold-off stands (11 R184). -/
def arbitrate (s : State) : State :=
  if s.hub.htx = .idle ∧ s.hub.holdOff = false then
    match s.hub.answer with
    | some f => s.setHub ({ s.hub with answer := none }.send (.answer f) f)
    | none =>
      if s.notice.pending then
        { s with hub := s.hub.send (.notice (noticeFrame s.notice)) (noticeFrame s.notice),
                 notice := { s.notice with pending := false } }
      else
        match s.hub.reports with
        | [] => s
        | f :: _ => s.setHub (s.hub.departReport.send (.report f) f)
  else s

/-! ## The master valve (07 R139) -/

/-- The conditions under which MV is asserted. -/
def mvWanted (s : State) : Bool :=
  s.supplyRec.active.masterValve && !s.locks.cond.supply &&
  (List.finRange 32).any fun v =>
    s.valves[v].active.used &&
    (s.valveLive[v].state.moving || (s.valveLive[v].state == .fault && s.valveLive[v].assumedOpen))

/-- The MV pin is judged again. -/
def judgeMv (s : State) : State := { s with mv := mvWanted s }

end Sys2Proof.Machine
end

