-- ==== Sys2Proof/Machine/Balance.lean ====
section
/-! DEFINITION. The Balance Engine's arithmetic and the moves of one bed's live balance (05 R70 to R90). The demand
check, which makes runs, stands in Runs.lean. -/

namespace Sys2Proof.Machine

/-- Effective drying rate of a bed (05 R77). -/
def effectiveRate (s : State) (b : Fin 24) : Nat :=
  if s.weather.status = .fresh then s.weather.rate else s.beds[b].active.defaultRate

/-- Accrual up to part time `now` at a rate and a drying exposure (05 R75). -/
def BedLive.accrue (rate exposure now : Nat) (l : BedLive) : BedLive :=
  let m := (now - l.lastAccrual) / 60
  let a := rate * exposure * m + l.accrualResidue
  let d := l.deficit + a / 60000
  { l with lastAccrual := l.lastAccrual + m * 60,
           deficit := min d 2000,
           accrualResidue := if 2000 < d then 0 else a % 60000 }

/-- A rain credit of `d` tips of size `tip` (05 R78, steps 2 to 4). -/
def BedLive.rain (d tip exposure : Nat) (l : BedLive) : BedLive :=
  let b := d * tip * exposure + l.rainResidue
  { l with deficit := l.deficit - b / 100, rainResidue := b % 100 }

/-- A water credit of `seconds` at flow `flow` over area `area` (05 R79, steps 2 to 4). -/
def BedLive.water (seconds flow area : Nat) (l : BedLive) : BedLive :=
  let b := flow * seconds + l.waterResidue
  { l with deficit := l.deficit - b / (6 * area), waterResidue := b % (6 * area) }

/-- The estimate takes a reading `w` with smoothing weight `k` (05 R72). -/
def BedLive.smooth (w k : Nat) (l : BedLive) : BedLive :=
  if l.estimateValid then
    { l with estimate := ((l.estimate : Int) + (((w : Int) - l.estimate) * k).tdiv 8).toNat }
  else { l with estimate := w, estimateValid := true }

/-- The reading deficit of an estimate (05 R73). -/
def readingDeficit (estimate fieldCapacity holding : Nat) : Nat := (fieldCapacity - estimate) * holding / 1000

/-- A bed with live balance is changed in place. -/
def onBed (b : Fin 24) (f : BedLive → BedLive) (s : State) : State :=
  match s.bedLive[b] with
  | none => s
  | some l => s.setBedLive b (some (f l))

/-- A bed is accrued up to the present (05 R76). -/
def accrue (b : Fin 24) (s : State) : State :=
  onBed b (BedLive.accrue (effectiveRate s b) s.beds[b].active.dryingExposure s.partTime) s

/-- Every used bed is accrued (05 R77). -/
def accrueAll (s : State) : State := (usedBeds s).foldl (fun t b => accrue b t) s

/-- A bed's run is ON or SOAK, or its hold end lies ahead (05 R74). A reading at the moment of a pulse end that leaves the run
HELD (06 R104) is out of hold by R74 and in hold by 05 R90: R74 is followed (DESIGN CHOICE, log 40). -/
def inHold (s : State) (b : Fin 24) : Bool :=
  (match findRun s b with
   | some r => r.state == .on || r.state == .soak
   | none => false) ||
  (match s.bedLive[b] with
   | some l => (match l.holdEnd with
                | some e => s.partTime < e
                | none => false)
   | none => false)

/-- A reading of wetness `w` moves a bed's estimate, and outside infiltration hold its deficit (05 R72, R73). -/
def takeReading (b : Fin 24) (w : Nat) (s : State) : State :=
  let bed := s.beds[b].active
  let hold := inHold s b
  onBed b (fun l =>
    let l1 := l.smooth w bed.smoothing
    if hold then l1
    else { l1 with deficit := readingDeficit l1.estimate bed.fieldCapacity bed.holding,
                   accrualResidue := 0, lastAccrual := s.partTime }) s

/-- Accrual and then a water credit at a pulse end (05 R79). -/
def waterCredit (b : Fin 24) (seconds flow : Nat) (s : State) : State :=
  onBed b (BedLive.water seconds flow s.beds[b].active.area) (accrue b s)

/-- Accrual and then a rain credit (05 R78, steps 1 to 4). -/
def rainCredit (b : Fin 24) (d : Nat) (s : State) : State :=
  onBed b (BedLive.rain d s.weatherRec.active.tipSize s.beds[b].active.rainExposure) (accrue b s)

/-- The Balance Engine is told of a removal and sets the hold end (05 R74). -/
def setHoldEnd (b : Fin 24) (s : State) : State := onBed b (fun l => { l with holdEnd := some (s.partTime + 1800) }) s

/-- Volume of a run sized by deficit, in dL (05 R84, step 1). -/
def sizedVolume (r : BedRec) (deficit : Nat) : Nat := min ((deficit - r.stopLevel) * r.area / 10) 65535

/-- Seconds of a run sized by deficit (05 R84, steps 2 and 3). -/
def sizedSeconds (r : BedRec) (deficit flow : Nat) : Nat :=
  min (max ((sizedVolume r deficit * 60 + flow - 1) / flow) r.minRun) r.maxRun

/-- A bed's deficit; 0 for a bed without live balance. -/
def deficitOf (s : State) (b : Fin 24) : Nat :=
  match s.bedLive[b] with
  | some l => l.deficit
  | none => 0

/-- The used probes a bed names, probe A first. -/
def probesOf (s : State) (b : Fin 24) : List (Fin 48) :=
  [s.beds[b].active.probeA, s.beds[b].active.probeB].filterMap nodeRef

/-- The staleness judgement of one probe (04 R55). -/
def ProbeLive.judge (now : Nat) (p : ProbeLive) : ProbeLive :=
  if p.state = .ok ∧ p.reference + 10800 ≤ now then { p with state := .stale } else p

/-- The Reading Translator judges one probe. -/
def judgeProbe (n : Fin 48) (s : State) : State :=
  match s.probes[n] with
  | none => s
  | some p => s.setProbe n (some (p.judge s.partTime))

/-- PROBE_STALE from the states of the probes named (05 R80). -/
def probesStale (s : State) (b : Fin 24) : Bool :=
  !(probesOf s b).isEmpty &&
  (probesOf s b).all fun n => match s.probes[n] with
    | some p => p.state != .ok
    | none => true

/-- An evaluation up to its demand check: the timer restarts, the probes are judged, PROBE_STALE is derived and the
bed is accrued (05 R82, steps 1 and 2). -/
def evaluate (b : Fin 24) (s : State) : State :=
  let t := (probesOf s b).foldl (fun t n => judgeProbe n t) s
  accrue b (onBed b (fun l => { l with probeStale := probesStale t b, evaluateAt := l.evaluateAt + 600 }) t)

end Sys2Proof.Machine
end

