-- ==== Sys2Proof/Machine/Slots.lean ====
section
/-! DEFINITION. The 145 entries of the nine tables in swap order, their markers, the head entry and its swap condition
(10 R164, R171, R172). -/

namespace Sys2Proof.Machine

/-- An entry of one of the nine tables (10 R164). -/
inductive Slot where
  | node (i : Fin 48)
  | poll (i : Fin 32)
  | valve (i : Fin 32)
  | bed (i : Fin 24)
  | supply
  | line
  | weather
  | drying
  | lock (i : Fin 5)
  deriving DecidableEq, Repr

/-- All entries in swap order (10 R164). -/
def allSlots : List Slot :=
  (List.finRange 48).map .node ++ (List.finRange 32).map .poll ++ (List.finRange 32).map .valve ++
  (List.finRange 24).map .bed ++ [.supply, .line, .weather, .drying] ++ (List.finRange 5).map .lock

/-- Table code (12.2). -/
def Slot.table : Slot → Nat
  | .node _ => 0 | .poll _ => 1 | .valve _ => 2 | .bed _ => 3 | .supply => 4 | .line => 5 | .weather => 6
  | .drying => 7 | .lock _ => 8

/-- Index within the table. -/
def Slot.index : Slot → Nat
  | .node i => i.val | .poll i => i.val | .valve i => i.val | .bed i => i.val
  | .supply | .line | .weather | .drying => 0
  | .lock i => i.val

/-- How many entries a table has; none for a code that is not one of the nine (10 R164). -/
def tableSize : Nat → Option Nat
  | 0 => some 48 | 1 => some 32 | 2 => some 32 | 3 => some 24
  | 4 => some 1 | 5 => some 1 | 6 => some 1 | 7 => some 1 | 8 => some 5
  | _ => none

/-- The entry of a table code and an index. -/
def slotOf (table index : Nat) : Option Slot := allSlots.find? fun x => x.table == table && x.index == index

/-- pending-valid of an entry (10 R164). -/
def slotPending (s : State) : Slot → Bool
  | .node i => s.nodes[i].pending.isSome
  | .poll i => s.polls[i].pending.isSome
  | .valve i => s.valves[i].pending.isSome
  | .bed i => s.beds[i].pending.isSome
  | .supply => s.supplyRec.pending.isSome
  | .line => s.lineRec.pending.isSome
  | .weather => s.weatherRec.pending.isSome
  | .drying => s.drying.pending.isSome
  | .lock i => s.lockRecs[i].pending.isSome

/-- SWAP_DUE of an entry (10 R164). -/
def slotDue (s : State) : Slot → Bool
  | .node i => s.nodes[i].due
  | .poll i => s.polls[i].due
  | .valve i => s.valves[i].due
  | .bed i => s.beds[i].due
  | .supply => s.supplyRec.due
  | .line => s.lineRec.due
  | .weather => s.weatherRec.due
  | .drying => s.drying.due
  | .lock i => s.lockRecs[i].due

/-- The first SWAP_DUE entry in swap order (10 R164). -/
def headDue (s : State) : Option Slot := allSlots.find? (slotDue s)

/-- The number of SWAP_DUE entries (10 R164). -/
def dueCount (s : State) : Nat := (allSlots.filter (slotDue s)).length

/-- A used valve is OPENING, OPEN or CLOSING. -/
def someValveMoving (s : State) : Bool :=
  (List.finRange 32).any fun v => s.valves[v].active.used && s.valveLive[v].state.moving

/-- The swap condition of an entry (10 R171). -/
def slotReady (s : State) : Slot → Bool
  | .node _ | .poll _ | .line => !s.seq.state.marking || s.work.mark
  | .valve v =>
    let l := s.valveLive[v]
    l.owner.isNone && (l.state == .closed || l.state == .detached || (l.state == .fault && !l.assumedOpen))
  | .bed b => (findRun s b).isNone
  | .supply => !(s.runs.any fun r => r.state == .on) && !someValveMoving s
  | .weather | .drying | .lock _ => true

/-- The head entry, when its condition holds (10 R173). -/
def readyHead (s : State) : Option Slot :=
  match headDue s with
  | some x => if slotReady s x then some x else none
  | none => none

end Sys2Proof.Machine
end

