-- ==== Sys2Proof/Machine/Runs.lean ====
section
/-! DEFINITION. The Dispatcher: release checks, grant passes, pulses, creation and removal of runs, demand checks (06
R93 to R112, 05 R81 to R85), with the valve reports of 07 R122 to R126 that they need. -/

namespace Sys2Proof.Machine

/-! ## Held runs -/

/-- The hold conditions of a bed's run that fail at this moment (06 R106). -/
def failingReasons (s : State) (b : Fin 24) : HeldReasons :=
  { lock := s.locks.effective.isSome,
    line := s.seq.state != .running,
    valve := match valveOf s b with
      | some v => s.valveLive[v].state == .fault || s.valveLive[v].mode != .auto
      | none => false }

/-- No reason stands. -/
def HeldReasons.empty : HeldReasons := { lock := false, line := false, valve := false }

/-- Reason LOCK alone. -/
def HeldReasons.onlyLock : HeldReasons := { lock := true, line := false, valve := false }

/-- Reason LINE alone. -/
def HeldReasons.onlyLine : HeldReasons := { lock := false, line := true, valve := false }

/-- Reason VALVE alone. -/
def HeldReasons.onlyValve : HeldReasons := { lock := false, line := false, valve := true }

/-- The release check of a bed's run, if it is HELD (06 R106). -/
def releaseCheck (b : Fin 24) (s : State) : State :=
  match findRun s b with
  | none => s
  | some r =>
    if r.state = .held then
      let f := failingReasons s b
      putRun s { r with reasons := f, state := if f = .empty then .queued else .held }
    else s

/-- The release check for every HELD run. -/
def releaseAll (s : State) : State := (s.runs.map (·.bed)).foldl (fun t b => releaseCheck b t) s

/-! ## Valve reports -/

/-- The last valve change time is set, and the running flow window is no longer settled (09 R159). -/
def noteValveChange (s : State) : State :=
  s.setMonitor { s.monitor with
    lastChange := s.partTime
    window := s.monitor.window.map fun w => { w with changed := true } }

/-- The live state of a valve is replaced and the change reported: to the Supply Monitor (09 R159), to Update Control
(10 R173), to the STOPPING examination (02 R25) and to the release check of the valve's run (06 R106). A change of
assumed_open of a valve that stays FAULT goes to the Supply Monitor and to Update Control alone (07 R122). -/
def writeValve (v : Fin 32) (l : ValveLive) (s : State) : State :=
  let old := s.valveLive[v]
  let t := s.setValveLive v l
  if old.state ≠ l.state ∨ old.mode ≠ l.mode then
    let u := oweReport (if old.state ≠ l.state then noteValveChange t else t)
    match bedNaming u v with
    | some b => releaseCheck b u
    | none => u
  else if l.state = .fault ∧ old.assumedOpen ≠ l.assumedOpen then oweSweep (noteValveChange t)
  else t

/-- A stop from the Dispatcher (07 R126); in every row the owner becomes none. -/
def valveStop (v : Fin 32) (s : State) : State :=
  let l := s.valveLive[v]
  match l.state with
  | .opening =>
    if closeResult s v = .withdrawnUnsent then
      writeValve v { l with state := .closed, owner := none } (closeRequest v s)
    else writeValve v { l with state := .closing, owner := none, attempts := 0 } (closeRequest v s)
  | .opened => writeValve v { l with state := .closing, owner := none, attempts := 0 } (closeRequest v s)
  | .closed | .closing | .fault | .detached => writeValve v { l with owner := none } s

/-! ## Grant passes -/

/-- The valve can be granted: CLOSED, AUTO, its decoder PRESENT (06 R99). -/
def eligible (s : State) (v : Fin 32) : Bool :=
  s.valveLive[v].state == .closed && s.valveLive[v].mode == .auto && decoderPresence s v == .present

/-- A flow that no budget holds (06 R100). -/
def oversize (s : State) (v : Fin 32) : Bool := s.supplyRec.active.flowCap < flowOf s v

/-- The valve fits in the budget as it stands (06 R99). -/
def fits (s : State) (v : Fin 32) : Bool :=
  slotsInUse s + 1 ≤ s.supplyRec.active.maxSlots && flowInUse s + flowOf s v ≤ s.supplyRec.active.flowCap

/-- A grant: the run enters ON with skip count 0, and Valve Control records the owner and submits the open (06 R99,
07 R125). -/
def grant (r : Run) (v : Fin 32) (s : State) : State :=
  let t := openRequest v (putRun s { r with state := .on, skips := 0 })
  writeValve v { t.valveLive[v] with state := .opening, owner := some r.bed, attempts := 0 } t

/-- The skip counts of the runs passed over rise by 1 (06 R100). -/
def bumpSkips (bumped : List (Fin 24)) (s : State) : State :=
  s.setRuns (s.runs.map fun r => if bumped.contains r.bed then { r with skips := r.skips + 1 } else r)

/-- What a scan does at one position (06 R99, R100). -/
inductive ScanStep where
  | stepOver | passed | finish | granted (r : Run) (v : Fin 32)
  deriving DecidableEq, Repr

/-- The judgement of one position of the scan. -/
def scanStep (s : State) (b : Fin 24) : ScanStep :=
  match findRun s b, valveOf s b with
  | some r, some v =>
    if r.state ≠ .queued ∨ eligible s v = false ∨ oversize s v = true then .stepOver
    else if fits s v then (if 16 ≤ s.lcq.fifo.length then .finish else .granted r v)
    else if r.skips < 8 then .passed else .finish
  | _, _ => .stepOver

/-- The scan of a grant pass over the beds of the queue, front first: `passed` are the eligible runs passed since the
last grant, `bumped` those with a younger run granted behind them (06 R99, R100). -/
def grantScan : List (Fin 24) → List (Fin 24) → List (Fin 24) → State → State
  | [], _, bumped, s => bumpSkips bumped s
  | b :: bs, passed, bumped, s =>
    match scanStep s b with
    | .stepOver => grantScan bs passed bumped s
    | .passed => grantScan bs (b :: passed) bumped s
    | .finish => bumpSkips bumped s
    | .granted r v => grantScan bs [] (passed ++ bumped) (grant r v s)

/-- A pass may grant: RUNNING, no lock in force, a free FIFO entry (06 R98). -/
def passOpen (s : State) : Bool :=
  s.seq.state == .running && s.locks.effective.isNone && s.lcq.fifo.length < 16

/-- A grant pass, taken whole (06 R98). -/
def grantPass (s : State) : State := if passOpen s then grantScan (s.runs.map (·.bed)) [] [] s else s

/-- A sweep is owed whose head is the valve of a QUEUED run and may swap (10 R174, first row). -/
def sweepMeetsPass (s : State) : Bool :=
  s.work.sweep && (match readyHead s with
    | some (.valve v) => s.runs.any fun r => r.state == .queued && valveOf s r.bed == some v
    | _ => false)

/-- A grant pass is triggered. It is taken at once, but where it would grant and meets a sweep whose head is the valve of a
QUEUED run: there either may be taken first (10 R174), the free value `Config.sweepFirst` decides, and a pass that comes
second is owed (log 7). -/
def pass (s : State) : State :=
  if sweepMeetsPass s = true ∧ (grantPass s).runs ≠ s.runs then
    let t := { s with choice := s.choice + 1 }
    if Config.sweepFirst s.choice then owePass t else grantPass t
  else grantPass s

/-! ## Pulses -/

/-- A pulse of the bed's ON run begins now (06 R101). -/
def startPulse (b : Fin 24) (s : State) : State :=
  match findRun s b with
  | none => s
  | some r =>
    if r.state = .on then
      let left := r.planned - r.delivered
      let len := if r.pulseOn = 0 then left else min r.pulseOn left
      putRun s { r with pulseStart := some s.partTime, expiry := some (s.partTime + len) }
    else s

/-- Open seconds of a pulse that ends now (06 R102 step 1); never past its expiry (log 24). -/
def openSeconds (now : Nat) (r : Run) : Nat :=
  match r.pulseStart, r.expiry with
  | some t, some e => min now e - t
  | some t, none => now - t
  | none, _ => 0

/-- A pending pulse plan replaces pulse_on and soak (06 R102 step 5). -/
def Run.applyPlan (r : Run) : Run :=
  match r.plan with
  | none => r
  | some (p, k) => { r with pulseOn := p, soak := k, plan := none }

/-- Steps 1 to 5 of a pulse end (06 R102); `stop` says whether Valve Control is handed a stop (06 R104). -/
def endPulse (b : Fin 24) (stop : Bool) (s : State) : State :=
  match findRun s b with
  | none => s
  | some r =>
    let secs := openSeconds s.partTime r
    let t := putRun s { r.applyPlan with delivered := r.delivered + secs, pulseStart := none, expiry := none }
    match valveOf s b with
    | none => t
    | some v =>
      let u := waterCredit b secs (flowOf s v) t
      if stop then valveStop v u else u

/-- Steps 2 to 4 of the removal of a bed's run `r` (06 R96). -/
def takeOut (b : Fin 24) (r : Run) (s : State) : State :=
  let t := setHoldEnd b (s.setRuns (s.runs.filter fun q => q.bed != b))
  oweSweep (if r.delivered = r.planned then setFlag .runDone t else t)

/-- Steps 2 to 5 of a removal (06 R96). -/
def dropRun (b : Fin 24) (s : State) : State :=
  match findRun s b with
  | none => s
  | some r => pass (takeOut b r s)

/-- A removal (06 R96). -/
def removeRun (b : Fin 24) (s : State) : State :=
  match findRun s b with
  | none => s
  | some r => dropRun b (if r.state = .on then endPulse b true s else s)

/-- The run leaves ON into another state. -/
def leaveOn (r : Run) (s : State) : State := pass (oweSweep (putRun s r))

/-- An early pulse end that would leave the run HELD for `reason`, all but its grant pass (06 R104). -/
def endEarly (b : Fin 24) (reason : HeldReasons) (stop : Bool) (s : State) : State :=
  let t := endPulse b stop s
  match findRun t b with
  | none => t
  | some r =>
    if r.delivered = r.planned ∨ r.stopAtPulseEnd = true then takeOut b r t
    else oweSweep (putRun t { r with state := .held, reasons := reason })

/-- An early pulse end with its grant pass (06 R104, R98). -/
def earlyEnd (b : Fin 24) (reason : HeldReasons) (stop : Bool) (s : State) : State :=
  if (findRun s b).isSome then pass (endEarly b reason stop s) else s

/-- A pulse's timer expires (06 R103). -/
def pulseExpires (b : Fin 24) (s : State) : State :=
  let t := endPulse b true s
  match findRun t b with
  | none => t
  | some r =>
    if r.delivered = r.planned ∨ r.stopAtPulseEnd = true then dropRun b t
    else
      match t.locks.effective with
      | some (.cancel, _) => dropRun b t
      | some (.pause, _) => leaveOn { r with state := .held, reasons := .onlyLock } t
      | none => leaveOn { r with state := .soak, expiry := some (t.partTime + r.soak) } t

/-- A soak's timer expires (06 R105). -/
def soakExpires (b : Fin 24) (s : State) : State :=
  match findRun s b with
  | none => s
  | some r =>
    let f := failingReasons s b
    if f = .empty then pass (putRun s { r with state := .queued, expiry := none })
    else putRun s { r with state := .held, reasons := f, expiry := none }

/-- The beds of the ON runs, in queue order. -/
def bedsOn (s : State) : List (Fin 24) := (s.runs.filter fun r => r.state == .on).map (·.bed)

/-- The beds of the runs that are not ON, in queue order. -/
def bedsWaiting (s : State) : List (Fin 24) := (s.runs.filter fun r => r.state != .on).map (·.bed)

/-- The event RUNNING left: every ON run's pulse ends and the run is HELD for LINE (06 R108). -/
def runningLeft (s : State) : State := (bedsOn s).foldl (fun t b => earlyEnd b .onlyLine true t) s

/-- The state or mode differs, which Valve Control reports to the Dispatcher (07 R122). -/
def ValveLive.reported (old new : ValveLive) : Bool := old.state != new.state || old.mode != new.mode

/-- What a report does to the owner's run: an owned valve that reaches OPEN starts a pulse (06 R101), one that enters FAULT
or changes mode ends it by `ends` (06 R104). -/
def tellOwner (ends : Fin 24 → State → State) (old new : ValveLive) (s : State) : State :=
  match old.owner with
  | none => s
  | some b =>
    if (new.state = .fault ∧ old.state ≠ .fault) ∨ old.mode ≠ new.mode then ends b s
    else if new.state = .opened ∧ new.owner = some b then startPulse b s
    else s

/-- A valve's live state changes and the report is taken, all but its grant pass. -/
def shiftValve (v : Fin 32) (l : ValveLive) (s : State) : State :=
  let old := s.valveLive[v]
  let t := writeValve v l s
  if old.reported l then tellOwner (fun b => endEarly b .onlyValve false) old l t else t

/-- A valve's live state changes and the report is taken whole: the owner's run is told, and a grant pass runs (06 R98). -/
def changeValve (v : Fin 32) (l : ValveLive) (s : State) : State :=
  let old := s.valveLive[v]
  let t := writeValve v l s
  if old.reported l then pass (tellOwner (fun b => earlyEnd b .onlyValve false) old l t) else t

/-! ## Creation -/

/-- A new record (06 R93). -/
def newRun (s : State) (b : Fin 24) (o : Origin) (planned volume : Nat) : Run :=
  { bed := b, origin := o, state := .queued, planned := planned, delivered := 0, volume := volume,
    pulseOn := s.beds[b].active.pulseOn, soak := s.beds[b].active.soak, plan := none, skips := 0,
    reasons := .empty, stopAtPulseEnd := false, pulseStart := none, expiry := none }

/-- The place of a new record: HUB runs after the last HUB run, AUTO runs at the tail (06 R94). -/
def insertRun (r : Run) (rs : List Run) : List Run :=
  match r.origin with
  | .hub => (rs.filter fun q => q.origin == .hub) ++ [r] ++ (rs.filter fun q => q.origin != .hub)
  | .auto => rs ++ [r]

/-- A run is created and a grant pass runs (06 R110). -/
def createRun (r : Run) (s : State) : State := pass (s.setRuns (insertRun r s.runs))

/-! ## Demand -/

/-- The window of a bed is open by the week clock; every window counts as closed while the clock is invalid (06
R115). -/
def windowNow (s : State) (b : Fin 24) : Bool := s.clock.valid && s.beds[b].active.windowOpen (s.clock.minute % 1440)

/-- A lock with effective mode CANCEL is in force. -/
def cancelInForce (s : State) : Bool :=
  match s.locks.effective with
  | some (.cancel, _) => true
  | _ => false

/-- The conditions under which a demand check asks for a run, with the valve to size it by (05 R83). -/
def demandValve (s : State) (b : Fin 24) : Option (Fin 32) :=
  match valveOf s b with
  | none => none
  | some v =>
    if s.beds[b].active.used && s.beds[b].active.isAuto && s.valveLive[v].mode == .auto &&
       s.valveLive[v].state != .fault && windowNow s b && !cancelInForce s && (findRun s b).isNone &&
       s.bedLive[b].isSome && s.beds[b].active.startThreshold ≤ deficitOf s b
    then some v else none

/-- The AUTO run that the check asks for (05 R84, R85). -/
def autoRun (s : State) (b : Fin 24) (v : Fin 32) : Run :=
  newRun s b .auto (sizedSeconds s.beds[b].active (deficitOf s b) (flowOf s v))
    (sizedVolume s.beds[b].active (deficitOf s b))

/-- The demand check of a bed (05 R81, R83, R85). -/
def demandCheck (b : Fin 24) (s : State) : State :=
  match demandValve s b with
  | none => s
  | some v => createRun (autoRun s b v) s

/-- An operation is taken of each used bed at which it acts, in an order that the free value `Config.nextBed` gives (05 R85,
06 R117, log 41); at the other used beds it changes nothing. -/
def forBeds (acts : Fin 24 → Bool) (f : Fin 24 → State → State) (s : State) : State :=
  let bs := (usedBeds s).filter acts
  inAnyOrder Config.nextBed f bs.length bs s

/-- The demand check of every used bed, in any order (05 R81, R85); those that ask for a run are the ones that act. -/
def demandAll (s : State) : State := forBeds (fun b => (demandValve s b).isSome) demandCheck s

end Sys2Proof.Machine
end

