-- ==== Sys2Proof/Machine/Valves.lean ====
section
/-! DEFINITION. Valve Control: command outcomes, decoder reports, node events, line power, beacon silence, modes and
valve swaps (07 R120 to R140). -/

namespace Sys2Proof.Machine

/-- A valve sets VALVE_FAULT and its own fault-latched flag (07 R138). -/
def latchFault (v : Fin 32) (s : State) : State :=
  setFlag .valveFault (s.setValveLive v { s.valveLive[v] with latched := true })

/-- The attempt count after a close request: 0 unless the queue keeps an existing command (07 R123). -/
def attemptsAfterClose (s : State) (v : Fin 32) : Nat :=
  if closeResult s v = .kept then s.valveLive[v].attempts else 0

/-- The attempt count after an open request: 0 unless the queue keeps an existing command (07 R123). -/
def attemptsAfterOpen (s : State) (v : Fin 32) : Nat :=
  if openResult s v = .kept then s.valveLive[v].attempts else 0

/-- The state a close request leaves: CLOSED when an unsent open was withdrawn, otherwise CLOSING (07 R135, R136). -/
def stateAfterClose (s : State) (v : Fin 32) : ValveState :=
  if closeResult s v = .withdrawnUnsent then .closed else .closing

/-! ## Command outcomes -/

/-- A failed attempt of the waiting command; the third one withdraws it (07 R124). -/
def failedAttempt (v : Fin 32) (s : State) : State :=
  let n := s.valveLive[v].attempts + 1
  if n < 3 then s.setValveLive v { s.valveLive[v] with attempts := n }
  else
    let t := latchFault v (withdraw v s)
    changeValve v { t.valveLive[v] with state := .fault, assumedOpen := true, attempts := 3, owner := none } t

/-- An outcome for the waiting command of a valve (07 R124). -/
def valveOutcome (v : Fin 32) (k : CommandKind) (answered : Bool) (s : State) : State :=
  let l := s.valveLive[v]
  match l.state, k with
  | .opening, .openValve =>
    if answered then changeValve v { l with state := .opened, attempts := 0 } s else failedAttempt v s
  | .closing, .closeValve =>
    if answered then changeValve v { l with state := .closed, attempts := 0, assumedOpen := false } s
    else failedAttempt v s
  | .fault, .closeValve =>
    if answered then changeValve v { l with attempts := 0, assumedOpen := false } s else failedAttempt v s
  | _, _ => s

/-! ## Decoder reports and node events -/

/-- One valve compared with the reported state of its output, all but the grant pass that its change triggers (07 R128). -/
def reconcile (v : Fin 32) (isOpen : Bool) (s : State) : State :=
  let l := s.valveLive[v]
  match l.state, isOpen with
  | .closed, true =>
    let t := closeRequest v (latchFault v s)
    shiftValve v { t.valveLive[v] with state := .closing, attempts := 0 } t
  | .opened, false =>
    let t := latchFault v s
    shiftValve v { t.valveLive[v] with state := .fault, assumedOpen := false, owner := none } t
  | .fault, true =>
    shiftValve v { l with assumedOpen := true, attempts := attemptsAfterClose s v } (closeRequest v s)
  | .fault, false => shiftValve v { l with assumedOpen := false } s
  | _, _ => s

/-- A decoder report with its output state byte: every used valve on the node is compared, in index order, at its state when
the report is taken (07 R128 and its note); the grant pass of each change follows, in the same order (07 R122, log 10). -/
def decoderReport (n : Fin 48) (outputs : Nat) (s : State) : State :=
  let t := (valvesOn s n).foldl (fun t v => reconcile v (outputOpen outputs t.valves[v].active.output) t) s
  (valvesOn s n).foldl (fun u v => if s.valveLive[v].reported t.valveLive[v] then pass u else u) t

/-- The open waiting for a valve has left the part (07 R129). -/
def openLeft (s : State) (v : Fin 32) : Bool :=
  flying s v .openValve || (match s.lcq.openMarks v with
    | some m => m.sent
    | none => false)

/-- A valve loses its decoder (07 R129, R131). -/
def loseDecoder (v : Fin 32) (s : State) : State :=
  let l := s.valveLive[v]
  match l.state with
  | .opening | .opened | .closing =>
    let assumed := if l.state = .opening then openLeft s v else true
    let t := latchFault v (withdraw v s)
    changeValve v { t.valveLive[v] with state := .fault, assumedOpen := assumed, attempts := 0, owner := none } t
  | .fault => if commandWaits s v then (withdraw v s).setValveLive v { l with attempts := 0 } else s
  | .closed | .detached => s

/-- The valves on a node that is MISSING, or ABSENT by swap (07 R129, R131). -/
def decoderLost (n : Fin 48) (s : State) : State := (valvesOn s n).foldl (fun t v => loseDecoder v t) s

/-- A FAULT valve whose decoder returns from MISSING (07 R130). -/
def liftFault (v : Fin 32) (s : State) : State :=
  let l := s.valveLive[v]
  if l.state = .fault then
    if l.assumedOpen then
      changeValve v { l with state := .closing, assumedOpen := false, attempts := 0 } (closeRequest v s)
    else changeValve v { l with state := .closed, attempts := 0 } s
  else s

/-- The valves on a decoder that returns from MISSING (07 R130). -/
def decoderReturned (n : Fin 48) (s : State) : State := (valvesOn s n).foldl (fun t v => liftFault v t) s

/-! ## Line power and beacon silence -/

/-- A used valve that is not DETACHED becomes CLOSED (07 R132, R133). -/
def settleClosed (v : Fin 32) (s : State) : State :=
  if s.valves[v].active.used && s.valveLive[v].mode != .detached then
    changeValve v { s.valveLive[v] with state := .closed, assumedOpen := false, attempts := 0, owner := none } s
  else s

/-- Valve Control at line power off (07 R132). -/
def valvesPowerOff (s : State) : State :=
  (List.finRange 32).foldl (fun t v => settleClosed v t) { s with beacon := none }

/-- Valve Control at beacon-silence expiry: every waiting command is withdrawn, every valve becomes CLOSED (07
R133). -/
def beaconExpires (s : State) : State :=
  let t := (List.finRange 32).foldl (fun t v => withdraw v t) { s with beacon := none }
  (List.finRange 32).foldl (fun t v => settleClosed v t) t

/-- An open that the queue removed at marks stop (07 R127). -/
def openWithdrawn (v : Fin 32) (sent : Bool) (s : State) : State :=
  let l := s.valveLive[v]
  if l.state = .opening then
    if sent then changeValve v { l with state := .closing, attempts := 0 } (closeRequest v s)
    else changeValve v { l with state := .closed, attempts := 0 } s
  else s

/-! ## Modes -/

/-- The request would submit an open (07 R134, R136). -/
def submitsOpen (s : State) (v : Fin 32) (m : ValveMode) : Bool :=
  m == .forcedOpen &&
  (s.valveLive[v].state == .closed || s.valveLive[v].state == .closing || s.valveLive[v].state == .detached)

/-- The owner after a request for a mode: none when the mode changes (07 R134). -/
def ownerAfter (l : ValveLive) (m : ValveMode) : Option (Fin 24) := if l.mode = m then l.owner else none

/-- A valve taken to a mode (07 R135, R136). -/
def setValveMode (v : Fin 32) (m : ValveMode) (s : State) : State :=
  let l := s.valveLive[v]
  let l' := { l with mode := m, owner := ownerAfter l m }
  match m with
  | .auto =>
    if l.mode = .auto && l.state != .fault then s
    else changeValve v { l' with state := stateAfterClose s v, assumedOpen := false,
                                 attempts := attemptsAfterClose s v } (closeRequest v s)
  | .forcedOpen =>
    if submitsOpen s v .forcedOpen then
      changeValve v { l' with state := .opening, attempts := attemptsAfterOpen s v } (openRequest v s)
    else changeValve v l' s
  | .forcedClosed =>
    if l.state = .fault then
      if l.assumedOpen then changeValve v { l' with attempts := attemptsAfterClose s v } (closeRequest v s)
      else changeValve v l' s
    else changeValve v { l' with state := stateAfterClose s v, attempts := attemptsAfterClose s v } (closeRequest v s)
  | .detached =>
    changeValve v { l' with state := .detached, assumedOpen := false, attempts := 0 } (withdraw v s)

/-- The SUPPLY source becomes active: every FORCED_OPEN valve goes to AUTO (07 R137). -/
def forcedToAuto (s : State) : State :=
  (List.finRange 32).foldl
    (fun t v => if t.valves[v].active.used && t.valveLive[v].mode == .forcedOpen then setValveMode v .auto t else t) s

/-! ## Swaps -/

/-- The valve names other hardware after the swap (07 R140). -/
def ValveRec.rewired (old new : ValveRec) : Bool := old.decoder != new.decoder || old.output != new.output

/-- Live state after a valve swap (07 R140). -/
def ValveLive.afterSwap (old new : ValveRec) (l : ValveLive) : ValveLive :=
  if !old.used && new.used then
    { l with state := .closed, mode := .auto, owner := none, assumedOpen := false, attempts := 0 }
  else if old.used && !new.used then { l with state := .closed, mode := .auto, owner := none, attempts := 0 }
  else if old.used && new.used && old.rewired new && l.state == .fault then
    { l with state := .closed, attempts := 0 }
  else l

/-- A close meant for the old output is withdrawn (10 R175). -/
def withdrawsAtSwap (old new : ValveRec) (l : ValveLive) : Bool :=
  old.used && (!new.used || old.rewired new) && l.state == .fault && !l.assumedOpen

/-- The effects of a valve swap on Valve Control, the Supply Monitor and the Dispatcher (07 R140, 09 R159, 06 R98). -/
def valveSwapped (v : Fin 32) (old new : ValveRec) (s : State) : State :=
  let t := if withdrawsAtSwap old new s.valveLive[v] then withdraw v s else s
  pass (changeValve v (t.valveLive[v].afterSwap old new) (noteValveChange t))

end Sys2Proof.Machine
end

