-- ==== Sys2Proof/Machine/Locks.lean ====
section
/-! DEFINITION. The Lock Unit: the six sources, the effective lock and what its changes do to runs (08 R141 to
R150). -/

namespace Sys2Proof.Machine

/-- The condition of a source. -/
def Conditions.get (c : Conditions) : Source → Bool
  | .rainContact => c.rainContact | .rainHold => c.rainHold | .freeze => c.freeze | .wind => c.wind
  | .hub => c.hub | .supply => c.supply

/-- A source's condition replaced. -/
def Conditions.put (c : Conditions) (x : Source) (b : Bool) : Conditions :=
  match x with
  | .rainContact => { c with rainContact := b } | .rainHold => { c with rainHold := b }
  | .freeze => { c with freeze := b } | .wind => { c with wind := b }
  | .hub => { c with hub := b } | .supply => { c with supply := b }

/-- The mode and timing of an enabled record. -/
def LockRec.terms (r : LockRec) : Option (LockMode × LockTiming) :=
  if r.enabled then some (r.mode, r.timing) else none

/-- The mode and timing with which a source takes part, none while it is disabled; SUPPLY is fixed (08 R147). -/
def sourceTerms (s : State) : Source → Option (LockMode × LockTiming)
  | .rainContact => s.lockRecs[0].active.terms
  | .rainHold => s.lockRecs[1].active.terms
  | .freeze => s.lockRecs[2].active.terms
  | .wind => s.lockRecs[3].active.terms
  | .hub => s.lockRecs[4].active.terms
  | .supply => some (.cancel, .immediate)

/-- The terms of the sources that are enabled and active (08 R148). -/
def termsInForce (s : State) : List (LockMode × LockTiming) :=
  [Source.rainContact, .rainHold, .freeze, .wind, .hub, .supply].filterMap fun x =>
    if s.locks.cond.get x then sourceTerms s x else none

/-- The effective lock composed from terms (08 R148). -/
def composeLock (ts : List (LockMode × LockTiming)) : Option (LockMode × LockTiming) :=
  if ts.isEmpty then none
  else some (if ts.any (fun t => t.1 == .cancel) then .cancel else .pause,
             if ts.any (fun t => t.2 == .immediate) then .immediate else .pulseEnd)

/-- An onset, or an escalation of mode or timing (08 R148). -/
def lockRises : Option (LockMode × LockTiming) → Option (LockMode × LockTiming) → Bool
  | none, some _ => true
  | some (m, t), some (m', t') => (m == .pause && m' == .cancel) || (t == .pulseEnd && t' == .immediate)
  | _, none => false

/-- Onset and escalation, by the new state: IMMEDIATE ends the pulses, CANCEL removes the runs not ON (08 R149). -/
def lockOnset (m : LockMode) (t : LockTiming) (s : State) : State :=
  let u :=
    if t = .immediate then
      (bedsOn s).foldl (fun u b => if m = .cancel then removeRun b u else earlyEnd b .onlyLock true u) s
    else s
  if m = .cancel then (bedsWaiting u).foldl (fun u b => dropRun b u) u else u

/-- The lock leaves force: release checks, then a grant pass, then the demand checks, whose runs trigger passes of their own
(08 R150). The grant pass comes before the third step whatever sweep is owed (log 7). -/
def lockLeaves (s : State) : State := demandAll (grantPass (releaseAll s))

/-- The effective lock is recomputed, and a difference sets LOCK_CHANGE and is handed on (08 R148). -/
def recomputeLock (s : State) : State :=
  let new := composeLock (termsInForce s)
  if new = s.locks.effective then s
  else
    let t := setFlag .lockChange (s.setLocks { s.locks with effective := new })
    match new with
    | none => lockLeaves t
    | some (m, i) => if lockRises s.locks.effective new then lockOnset m i t else t

/-- A source's condition stands at `b`; a change recomputes the effective lock (08 R148). -/
def setCondition (x : Source) (b : Bool) (s : State) : State :=
  if s.locks.cond.get x = b then s
  else recomputeLock (s.setLocks { s.locks with cond := s.locks.cond.put x b })

/-- The Supply Monitor raises SUPPLY (08 R147, 07 R137); already active, nothing changes. -/
def raiseSupply (s : State) : State :=
  if s.locks.cond.supply then s else forcedToAuto (setCondition .supply true s)

/-- The RAIN_CONTACT condition from the stable levels of the inputs so configured (08 R143). -/
def contactActive (s : State) : Bool :=
  (s.supplyRec.active.actionA == .rainContact && s.monitor.inputA.stable == some .low) ||
  (s.supplyRec.active.actionB == .rainContact && s.monitor.inputB.stable == some .low)

/-- The RAIN_CONTACT condition is derived again (08 R143). -/
def judgeContact (s : State) : State := setCondition .rainContact (contactActive s) s

/-- FREEZE judged from T (08 R145). -/
def freezeNext (r : LockRec) (t : Int) (active : Bool) : Bool :=
  if active then
    if r.second = 0 then t ≤ r.freezeThreshold else t < r.freezeThreshold + r.second
  else t ≤ r.freezeThreshold

/-- WIND judged from V (08 R145). -/
def windNext (r : LockRec) (v : Nat) (active : Bool) : Bool :=
  if active then
    if r.second = 0 then r.first ≤ v else r.first < v + r.second
  else r.first ≤ v

/-- FREEZE taken at its record's figures. -/
def judgeFreeze (t : Int) (s : State) : State :=
  setCondition .freeze (freezeNext s.lockRecs[2].active t s.locks.cond.freeze) s

/-- WIND taken at its record's figures. -/
def judgeWind (v : Nat) (s : State) : State :=
  setCondition .wind (windNext s.lockRecs[3].active v s.locks.cond.wind) s

/-- The Weather Unit hands T and V (04 R62). When one report moves both conditions either may be taken first (08
section 8.5): the free value `Config.windFirst` decides (log 9). -/
def handWeather (t : Int) (v : Nat) (s : State) : State :=
  let u := s.setLocks { s.locks with handed := some (t, v) }
  if freezeNext u.lockRecs[2].active t u.locks.cond.freeze ≠ u.locks.cond.freeze ∧
     windNext u.lockRecs[3].active v u.locks.cond.wind ≠ u.locks.cond.wind then
    let w := { u with choice := u.choice + 1 }
    if Config.windFirst u.choice then judgeFreeze t (judgeWind v w) else judgeWind v (judgeFreeze t w)
  else judgeWind v (judgeFreeze t u)

/-- The Lock Unit takes a rain delta (08 R144). -/
def rainHoldDelta (d : Nat) (s : State) : State :=
  let r := s.lockRecs[1].active
  if r.first ≤ d then
    setCondition .rainHold true (s.setLocks { s.locks with rainHold := some (s.partTime + r.second * 60) })
  else s

end Sys2Proof.Machine
end

