-- ==== Sys2Proof/Machine/Weather.lean ====
section
/-! DEFINITION. The Weather Unit and the Reading Translator: drying rate, rate changes, rain, probe readings and their
swaps (04 R50 to R67, 05 R77). -/

namespace Sys2Proof.Machine

/-! ## Probes -/

/-- A probe's live state set up at part time `now` (04 R50). -/
def ProbeLive.fresh (now : Nat) : ProbeLive := { state := .ok, rejects := 0, lastCount := none, reference := now }

/-- The count lies in the plausibility band of Cd and Cw, bounds included (04 R51). -/
def inBand (dry wet count : Nat) : Bool :=
  let q := (dry - wet) / 4
  wet ≤ count + q && count ≤ dry + q

/-- Translation of an accepted count (04 R51). -/
def wetness (dry wet count : Nat) : Nat :=
  if dry ≤ count then 0 else if count ≤ wet then 1000 else 1000 * (dry - count) / (dry - wet)

/-- A good reply with raw count `c` from a probe (04 R51 to R54), up to the delivery. -/
def ProbeLive.take (dry wet c now : Nat) (p : ProbeLive) : ProbeLive :=
  if p.state = .faulted then { p with lastCount := some c }
  else if inBand dry wet c then { state := .ok, rejects := 0, lastCount := some c, reference := now }
  else { p with lastCount := some c, rejects := p.rejects + 1,
                state := if 3 ≤ p.rejects + 1 then .faulted else p.state }

/-- The reply of a probe is accepted: its reading is delivered (04 R51). -/
def ProbeLive.accepts (dry wet c : Nat) (p : ProbeLive) : Bool := p.state != .faulted && inBand dry wet c

/-- The reply of a probe is its third reject (04 R52). -/
def ProbeLive.faults (dry wet c : Nat) (p : ProbeLive) : Bool :=
  p.state != .faulted && !inBand dry wet c && 3 ≤ p.rejects + 1

/-- A good reply from a SOIL_PROBE entry (04 R51, R53); the delivery ends with the demand check of the bed (05 R81). -/
def probeReading (n : Fin 48) (c : Nat) (s : State) : State :=
  match s.probes[n] with
  | none => s
  | some p =>
    let r := s.nodes[n].active
    let t := s.setProbe n (some (p.take r.dry r.wet c s.partTime))
    if p.accepts r.dry r.wet c then
      match bedOfProbe t n with
      | none => t
      | some b => demandCheck b (takeReading b (wetness r.dry r.wet c) t)
    else if p.faults r.dry r.wet c then setFlag .probeFault t
    else t

/-- node PRESENT from MISSING takes a FAULTED probe to OK (04 R54). -/
def probeReturns (n : Fin 48) (s : State) : State :=
  match s.probes[n] with
  | none => s
  | some p => if p.state = .faulted then s.setProbe n (some { p with state := .ok, rejects := 0 }) else s

/-- A swap of a node entry reaches the Reading Translator (04 R50, R54). -/
def probeSwapped (n : Fin 48) (old new : NodeRec) (s : State) : State :=
  if new.kind = .soilProbe then
    if old.kind ≠ .soilProbe ∨ old.address ≠ new.address ∨ old.dry ≠ new.dry ∨ old.wet ≠ new.wet then
      s.setProbe n (some (.fresh s.partTime))
    else probeReturns n s
  else s.setProbe n none

/-! ## Drying rate -/

/-- Base rate of the band of T: the first whose bound is at least T, or the last band (04 R59). -/
def baseRate : List (Int × Nat) → Int → Nat
  | [], _ => 0
  | [b], _ => b.2
  | b :: bs, t => if t ≤ b.1 then b.2 else baseRate bs t

/-- The drying rate R (04 R59). -/
def dryingRate (table : DryingRec) (windFactor : Nat) (t : Int) (v : Nat) : Nat :=
  min (baseRate table.bands t * (100 + windFactor * (v / 10)) / 100) 400

/-- The Weather Unit's state is replaced; where that changes R_eff the beds are first accrued at the old one, and
demand checks follow (04 R60, 05 R77). -/
def setWeather (w : WeatherUnit) (s : State) : State :=
  let wasFresh := s.weather.status = .fresh
  let isFresh := w.status = .fresh
  if (wasFresh ∧ ¬ isFresh) ∨ (isFresh ∧ ¬ wasFresh) ∨ (isFresh ∧ s.weather.rate ≠ w.rate) then
    demandAll ((accrueAll s).setWeatherUnit w)
  else s.setWeatherUnit w

/-- R is recomputed from the held T and V while FRESH (04 R63). -/
def recomputeRate (s : State) : State :=
  if s.weather.status = .fresh then
    setWeather { s.weather with
      rate := dryingRate s.drying.active s.weatherRec.active.windFactor s.weather.temperature s.weather.wind } s
  else s

/-! ## Rain -/

/-- Every used bed takes a rain delta, and then its demand check (05 R78); a credit and another bed's check touch different
balances, so the credits stand first and the checks follow in any order. -/
def rainToBeds (d : Nat) (s : State) : State := demandAll ((usedBeds s).foldl (fun t b => rainCredit b d t) s)

/-- A rain delta goes to the Balance Engine and to the Lock Unit; where it changes the effective lock either may take
it first (04 R67): the free value `Config.lockUnitFirst` decides (log 8). -/
def rainDelta (d : Nat) (s : State) : State :=
  if (rainHoldDelta d s).locks.effective ≠ s.locks.effective then
    let t := { s with choice := s.choice + 1 }
    if Config.lockUnitFirst s.choice then rainToBeds d (rainHoldDelta d t) else rainHoldDelta d (rainToBeds d t)
  else rainHoldDelta d (rainToBeds d s)

/-- The rain counter of a report (04 R64, R65). -/
def rainCounter (c : Nat) (s : State) : State :=
  if s.weatherRec.active.source = .weather then
    match s.weather.baseline with
    | none => s.setWeatherUnit { s.weather with baseline := some c }
    | some base =>
      let d := (c + 65536 - base) % 65536
      if d = 0 then s
      else
        let t := s.setWeatherUnit { s.weather with baseline := some c }
        if d ≤ 400 then rainDelta d t else setFlag .rainSuspect t
  else s

/-- A local tip (04 R66). -/
def localTip (s : State) : State := if s.weatherRec.active.source = .localTips then rainDelta 1 s else s

/-! ## Reports, staleness and swaps -/

/-- T clamped to its range (04 R58). -/
def clampTemperature (t : Int) : Int := max (-400) (min t 600)

/-- The Weather Unit's figures after a report of temperature `t` and wind `v` (04 R58 steps 1 to 3). -/
def reportedWeather (s : State) (t : Int) (v : Nat) : WeatherUnit :=
  { s.weather with
    temperature := clampTemperature t, wind := min v 600, reference := some s.partTime, status := .fresh,
    rate := dryingRate s.drying.active s.weatherRec.active.windFactor (clampTemperature t) (min v 600) }

/-- A good reply from the WEATHER entry (04 R58). -/
def weatherReport (t : Int) (v c : Nat) (s : State) : State :=
  rainCounter c (handWeather (clampTemperature t) (min v 600) (setWeather (reportedWeather s t v) s))

/-- The staleness timer has expired (04 R61). -/
def staleDue (s : State) : Bool :=
  (s.weather.status == .waiting || s.weather.status == .fresh) &&
  match s.weather.reference with
  | some t => t + 21600 ≤ s.partTime
  | none => false

/-- The rain baseline becomes invalid (04 R64). -/
def dropBaseline (s : State) : State := s.setWeatherUnit { s.weather with baseline := none }

/-- A node swap reaches the Weather Unit (04 R63). T, V and R are kept by every such swap, for R63 changes none of them.
DESIGN CHOICE (log 42): R63's row for the removal of the WEATHER entry and R57 do not say what the reference time then holds;
here it is not running, as R57 has it after power-on, when there is no entry either. -/
def weatherNodeSwapped (old new : NodeRec) (s : State) : State :=
  if new.kind = .weather then
    if old.kind ≠ .weather ∨ old.address ≠ new.address then
      setWeather { s.weather with status := .waiting, reference := some s.partTime, baseline := none } s
    else dropBaseline s
  else if old.kind = .weather then
    setWeather { s.weather with status := .noNode, reference := none, baseline := none } s
  else s

/-- A weather record swap (04 R63). -/
def weatherRecSwapped (old new : WeatherRec) (s : State) : State :=
  recomputeRate (if old.source ≠ new.source then dropBaseline s else s)

end Sys2Proof.Machine
end

