-- ==== Sys2Proof/Machine/Nodes.lean ====
section
/-! DEFINITION. The Node Table: poll outcomes, presence and its events, forwarding, swaps and line power (03 R36 to
R49). -/

namespace Sys2Proof.Machine

/-- An entry's presence changes, its change flag and NODE_CHANGE are set (03 R40). -/
def presenceChanged (n : Fin 48) (l : NodeLive) (s : State) : State :=
  setFlag .nodeChange (s.setNodeLive n { l with changed := true })

/-- The event node PRESENT with the prior presence (03 R41). -/
def nodePresent (n : Fin 48) (k : NodeKind) (prior : Presence) (s : State) : State :=
  match k with
  | .valveDecoder => pass (if prior = .missing then decoderReturned n s else s)
  | .soilProbe => if prior = .missing then probeReturns n s else s
  | .weather => dropBaseline s
  | .other | .unused => s

/-- The event node MISSING (03 R41). -/
def nodeMissing (n : Fin 48) (k : NodeKind) (s : State) : State :=
  if k = .valveDecoder then decoderLost n s else s

/-- A poll classified as a miss (03 R39). -/
def pollMiss (n : Fin 48) (s : State) : State :=
  let l := s.nodeLive[n]
  match l.presence with
  | .absent => s.setNodeLive n { l with misses := min 3 (l.misses + 1) }
  | .missing => s.setNodeLive n { l with misses := 3 }
  | .present =>
    if l.misses + 1 < 3 then s.setNodeLive n { l with misses := l.misses + 1 }
    else
      nodeMissing n s.nodes[n].active.kind
        (presenceChanged n { l with presence := .missing, misses := 3, forwarded := none } s)

/-- A good reply moves presence and hands its change on (03 R39, R41). -/
def pollHeard (n : Fin 48) (s : State) : State :=
  let l := s.nodeLive[n]
  match l.presence with
  | .present => s.setNodeLive n { l with misses := 0 }
  | prior =>
    nodePresent n s.nodes[n].active.kind prior (presenceChanged n { l with presence := .present, misses := 0 } s)

/-- A good reply is handed to its consumer (03 R38). -/
def consumeReport (n : Fin 48) (k : NodeKind) (payload : List Byte) (s : State) : State :=
  match k with
  | .soilProbe => probeReading n (get2 payload 0) s
  | .weather => weatherReport (signed16 (get2 payload 0)) (get2 payload 2) (get2 payload 4) s
  | .valveDecoder => decoderReport n (get1 payload 0) s
  | .other | .unused => s

/-- A good reply with first value `x` is offered to the report FIFO (03 R44). -/
def forwards (r : NodeRec) (last : Option Int) (x : Int) : Bool :=
  match r.forward with
  | 1 => true
  | 2 => match last with
    | none => true
    | some y => r.delta ≤ (x - y).natAbs
  | _ => false

/-- The forwarding policy applied to a good reply (03 R44, R45, R46). -/
def forwardReport (n : Fin 48) (k : NodeKind) (payload : List Byte) (s : State) : State :=
  let r := s.nodes[n].active
  let l := s.nodeLive[n]
  let x := firstValue k payload
  if forwards r l.forwarded x then
    let t := offerReport (fieldReportFrame n r.address k s.partTime payload) s
    if reportFits s then t.setNodeLive n { l with forwarded := some x } else t
  else s

/-- A poll outcome taken whole: an accepted report of the entry's kind is a good reply, everything else a miss (03
R38). -/
def pollResult (n : Fin 48) (report : Option (NodeKind × List Byte)) (s : State) : State :=
  match report with
  | none => pollMiss n s
  | some (k, payload) =>
    if s.nodes[n].active.kind = k then
      forwardReport n k payload (consumeReport n k payload (pollHeard n s))
    else pollMiss n s

/-- The outcome of a poll sent to address `a` is delivered to its entry as the entry now stands (03 R38). The entry may have
swapped inside the poll's slot (10 R171, log 36): an unused entry is never matched to a reply (03 R36), and whether an entry of
another address takes the outcome is the free value `Config.takesMovedPoll`. -/
def pollDelivered (n : Fin 48) (a : Byte) (report : Option (NodeKind × List Byte)) (s : State) : State :=
  if s.nodes[n].active.used then
    if byteOf s.nodes[n].active.address = a then pollResult n report s
    else
      let t := { s with choice := s.choice + 1 }
      if Config.takesMovedPoll s.choice then pollResult n report t else t
  else s

/-- An entry at the event line power off (03 R48). -/
def losePower (n : Fin 48) (s : State) : State :=
  let l := s.nodeLive[n]
  if s.nodes[n].active.used then
    let l' := { l with presence := .absent, misses := 0, forwarded := none }
    if l.presence = .absent then s.setNodeLive n l' else presenceChanged n l' s
  else s

/-- The Node Table at line power off (03 R48). -/
def nodesPowerOff (s : State) : State := (List.finRange 48).foldl (fun t n => losePower n t) s

/-- The swap takes the entry to a new address or kind (03 R47). -/
def NodeRec.moved (old new : NodeRec) : Bool := old.address != new.address || old.kind != new.kind

/-- Live state of an entry at its swap (03 R47). -/
def nodeLiveSwapped (n : Fin 48) (old new : NodeRec) (s : State) : State :=
  let l := s.nodeLive[n]
  if old.moved new then
    let l' := { l with presence := .absent, misses := 0, forwarded := none }
    if l.presence = .absent then s.setNodeLive n l' else presenceChanged n l' s
  else s.setNodeLive n { l with forwarded := none }

/-- The valves of a decoder entry swapped to a new address or kind (07 R131). -/
def decoderSwapped (n : Fin 48) (old new : NodeRec) (s : State) : State :=
  if old.kind = .valveDecoder ∧ old.moved new = true then decoderLost n s else s

/-- The effects of a node swap on every block (10 R175). -/
def nodeSwapped (n : Fin 48) (old new : NodeRec) (s : State) : State :=
  decoderSwapped n old new (weatherNodeSwapped old new (probeSwapped n old new (nodeLiveSwapped n old new s)))

end Sys2Proof.Machine
end

