-- ==== Sys2Proof/Machine/Sequencer.lean ====
section
/-! DEFINITION. The Field Line Sequencer and the Line Current Monitor: transitions and their events, the fault list,
marks, slots and the ends of transactions (01 R2 to R19, 02 R20 to R35). -/

namespace Sys2Proof.Machine

/-! ## Clearing the queue (01 R19) -/

/-- The PASS_REPLY of LINE_DOWN for an entry that is a PASS. -/
def FifoEntry.lineDown : FifoEntry → Option HubFrame
  | .openValve _ _ => none
  | .pass a _ _ => some (passReplyFrame a .lineDown [])

/-- Every PASS of a list of entries is answered LINE_DOWN (01 R19). PASS_REPLYs handed over together are taken one by one in
any order, as the free value `Config.nextReply` says (11 R184, log 34). -/
def passesDown (es : List FifoEntry) (s : State) : State :=
  let fs := es.filterMap FifoEntry.lineDown
  inAnyOrder Config.nextReply offerPassReply fs.length fs s

/-- Some entries leave the FIFO: their PASSes are answered, then their opens are reported to Valve Control in valve index
order with their sent marks (01 R19, 07 R127). -/
def clearEntries (leaves : FifoEntry → Bool) (s : State) : State :=
  let gone := s.lcq.fifo.filter leaves
  let t := passesDown gone (setFifo (s.lcq.fifo.filter fun e => !leaves e) s)
  (List.finRange 32).foldl
    (fun u v => match openMarksIn gone v with
      | some m => openWithdrawn v m.sent u
      | none => u) t

/-- At marks stop the FIFO is emptied (01 R19). -/
def clearFifo (s : State) : State :=
  clearEntries (fun _ => true) (s.setQueue { s.lcq with clearOwed := false, withdrawOwed := false })

/-- The entry is in flight (01 R12). -/
def inFlight (s : State) : FifoEntry → Bool
  | .openValve v _ => flying s v .openValve
  | .pass _ _ f => f

/-- Marks start again before the transaction in progress at marks stop has ended: every entry but the one in flight
leaves the FIFO now, the transaction runs to its end and delivers its outcome, and an open in flight that is still there
is removed then (01 R19, log 13). -/
def clearWaiting (s : State) : State :=
  clearEntries (fun e => !inFlight s e) (s.setQueue { s.lcq with clearOwed := false, withdrawOwed := true })

/-- At the end of that transaction its open leaves, if it is still in the FIFO (01 R19, log 13). -/
def clearFlown (v : Fin 32) (s : State) : State := clearEntries (FifoEntry.opens v) s

/-- Line power off at the queue: everything waiting is removed, every PASS answered LINE_DOWN, the transaction
abandoned (01 R19). -/
def queuePowerOff (s : State) : State :=
  let t := passesDown s.lcq.fifo
    (setFifo [] (s.setQueue { s.lcq with closes := Vector.replicate 32 none, clearOwed := false, withdrawOwed := false }))
  t.setSeq { t.seq with tx := .idle }

/-! ## Transitions -/

/-- The sequencer takes a state that sends no marks: the cycle ends and the restart roll-call count is 0 (02 R34,
R35); a swap sweep is owed (10 R173). -/
def quiet (q : SeqState) (s : State) : State :=
  oweSweep (s.setSeq { s.seq with state := q, phase := .noCycle, rollCount := 0, toPoll := [] })

/-- A poll, a SET_OUTPUT or a PASS is in progress (01 R6). -/
def Transmission.inTransaction : Transmission → Bool
  | .idle | .mark => false
  | .poll _ _ | .command _ _ _ _ _ | .pass _ => true

/-- The event marks stop: the beacon-silence timer starts and the FIFO is cleared, once the transaction in progress
has ended (01 R19, 07 R133). -/
def marksStop (s : State) : State :=
  let t := { s with beacon := some (s.partTime + 10) }
  if t.seq.tx.inTransaction then t.setQueue { t.lcq with clearOwed := true } else clearFifo t

/-- Entry to STOPPED from a marking state (02 R23, R25). A mark still on the line counts as ended without a mismatch, and the
echo-failure count is left as it stood, not set to 0: DESIGN CHOICE (01 R9, log 39). -/
def enterStopped (s : State) : State :=
  let t := quiet .stopped s
  marksStop (if t.seq.tx = .mark then t.setSeq { t.seq with tx := .idle } else t)

/-- The halt on the third echo mismatch (02 R27): RUNNING left first, then marks stop. -/
def halt (s : State) : State :=
  let t := quiet .halted (setFlag .seqHalted s)
  marksStop (if s.seq.state = .running then runningLeft t else t)

/-- The event marks start (02 R21); a clearing still owed is made first (log 13). -/
def marksStart (s : State) : State :=
  let t := { s with beacon := none }
  if t.lcq.clearOwed then clearWaiting t else t

/-- The first cycle begins: echo-failure count, cycle position and roll-call count (02 R22, R23, R34, R35). -/
def beginMarking (q : SeqState) (rollCount : Nat) (s : State) : State :=
  s.setSeq { s.seq with state := q, echoFailures := 0, position := 0, phase := .noCycle, rollCount := rollCount,
                        toPoll := [] }

/-- Entry to RUNNING: marks start and RUNNING entered (02 R22, 06 R108). -/
def enterRunning (rollCount : Nat) (s : State) : State :=
  pass (releaseAll (beginMarking .running rollCount (marksStart s)))

/-- Entry to STEP (02 R23). -/
def enterStep (s : State) : State := beginMarking .step 0 (marksStart s)

/-- Entry to STOPPING from RUNNING: RUNNING left, and the condition is examined once (02 R25). -/
def enterStopping (s : State) : State :=
  let t := runningLeft (s.setSeq { s.seq with state := .stopping })
  t.setWork { t.work with stop := true }

/-- No used valve in mode AUTO is OPENING, OPEN or CLOSING (02 R25). -/
def fieldSettled (s : State) : Bool :=
  (List.finRange 32).all fun v =>
    !(s.valves[v].active.used && s.valveLive[v].mode == .auto && s.valveLive[v].state.moving)

/-- The STOPPING condition is examined (02 R25). -/
def examineStop (s : State) : State :=
  let t := s.setWork { s.work with stop := false }
  if t.seq.state = .stopping ∧ fieldSettled t = true then enterStopped t else t

/-! ## Line current (02 R29 to R33) -/

/-- The sensed current is above the trip level (02 R29). -/
def overTrip (s : State) : Bool := 50 * s.lineRec.active.trip < s.mon.sensed

/-- The overcurrent measure judged again: it runs while LPWR is asserted and the current is above the level, and keeps
its start (02 R29). -/
def judgeMeasure (s : State) : State :=
  s.setMon { s.mon with
    measureSince :=
      if s.lpwr && overTrip s then some (s.mon.measureSince.getD s.partTime) else none }

/-- LPWR is asserted after being deasserted, and the measure restarts from nothing (02 R29). -/
def powerOn (s : State) : State :=
  judgeMeasure { s with lpwr := true, mon := { s.mon with backoff := none, measureSince := none, swapEnded := none } }

/-- The fault list with a fault entered at part time `t` (02 R31). -/
def enterFault (t : Nat) (faults : List Nat) : List Nat :=
  match faults with
  | [] => [t]
  | f :: fs => if t - f < 600 then f :: fs ++ [t] else [t]

/-- The resume target recorded at a fault (02 R30). -/
def resumeFor : SeqState → ResumeTarget
  | .running => .running
  | .halted => .halted
  | .step | .stopping | .stopped | .lineOff | .lockedOut => .stopped

/-- LPWR is cut and the sequencer enters LINE_OFF or LOCKED_OUT; RUNNING left is taken before line power off (02 R30,
R32, R21). -/
def cutPower (q : SeqState) (mon : CurrentMonitor) (s : State) : State :=
  let t := quiet q { s with lpwr := false, mon := mon }
  let u := if s.seq.state = .running then runningLeft t else t
  nodesPowerOff (valvesPowerOff (queuePowerOff u))

/-- An overcurrent (02 R30, R32). -/
def trip (s : State) : State :=
  let faults := enterFault s.partTime s.mon.faults
  let mon := { s.mon with faults := faults, measureSince := none, swapEnded := none }
  let t := setFlag .lineFault s
  if 3 ≤ faults.length then cutPower .lockedOut mon (setFlag .lineLockout t)
  else
    cutPower .lineOff { mon with backoff := some (s.partTime + 30) }
      (t.setSeq { t.seq with resume := resumeFor s.seq.state })

/-- Backoff expiry: power returns and the sequencer enters the resume target (02 R33). -/
def backoffEnds (s : State) : State :=
  let t := powerOn s
  match s.seq.resume with
  | .running => enterRunning 16 t
  | .stopped => quiet .stopped t
  | .halted => quiet .halted t

/-- LINE_RESTORE in LOCKED_OUT (02 R26). -/
def restoreLine (s : State) : State :=
  quiet .stopped (powerOn (s.setMon { s.mon with faults := [] }))

/-! ## Echo (01 R9) -/

/-- Every byte of the transmission read back equal: the echo-failure count is 0. -/
def echoGood (s : State) : State := s.setSeq { s.seq with echoFailures := 0 }

/-- A mark whose echo has not been judged yet read back equal (log 21). -/
def settleMark (s : State) : State :=
  if s.seq.tx = .mark then echoGood (s.setSeq { s.seq with tx := .idle }) else s

/-- The transmission `tx` has ended: what marks stop left owed until then leaves the FIFO (01 R19). -/
def payClearing (tx : Transmission) (s : State) : State :=
  if s.lcq.clearOwed then clearFifo s
  else if s.lcq.withdrawOwed then
    let t := s.setQueue { s.lcq with withdrawOwed := false }
    match tx with
    | .command v .openValve _ _ false => clearFlown v t
    | _ => t
  else s

/-- The entry of the PASS in flight leaves the FIFO. -/
def dropPass (s : State) : State :=
  setFifo (s.lcq.fifo.filter fun e => match e with
    | .openValve _ _ => true
    | .pass _ _ flying => !flying) s

/-- The outcome of the abandoned transmission (01 R9). -/
def abandonTx (s : State) : State :=
  let t := s.setSeq { s.seq with tx := .idle }
  match s.seq.tx with
  | .pass a => offerPassReply (passReplyFrame a .lineDown []) (dropPass t)
  | .idle | .mark | .poll _ _ | .command _ _ _ _ _ => t

/-- A mismatch is counted; the third one halts a marking sequencer (01 R9, 02 R27, log 14). -/
def countMismatch (s : State) : State :=
  let t := s.setSeq { s.seq with echoFailures := min 3 (s.seq.echoFailures + 1) }
  if t.seq.echoFailures = 3 ∧ t.seq.state.marking = true then halt t else t

/-! ## Cycle, polls and command slots -/

/-- Every used node entry is PRESENT (02 R34). -/
def allPresent (s : State) : Bool :=
  (List.finRange 48).all fun n => !s.nodes[n].active.used || s.nodeLive[n].presence == .present

/-- Attempted-this-cycle marks are cleared (01 R3). -/
def clearAttempted (s : State) : State :=
  s.setQueue { s.lcq with
    closes := Vector.ofFn fun v => (s.lcq.closes[v]).map fun m => { m with attempted := false }
    fifo := s.lcq.fifo.map fun e => match e with
      | .openValve v m => .openValve v { m with attempted := false }
      | .pass a d f => .pass a d f }

/-- The cycle that a mark opens: number, L and W_r, the roll-call judgement, and the mark on the line (01 R2, R3, R4,
02 R34). -/
def openCycle (s : State) : State :=
  let c := (s.seq.cycle + 1) % 1024
  let searching := 0 < s.seq.rollCount && !allPresent s
  s.setSeq { s.seq with
    cycle := c, position := 0, phase := .marked
    cycleLength := 1936 + s.lineRec.active.trim, replyWindow := s.lineRec.active.replyWindow
    rollCount := if searching then s.seq.rollCount - 1 else 0
    rollCycle := searching || c % 64 == 0
    toPoll := [], nextSlot := 40, tx := .mark, ltx := markFrame c }

/-- The 48 indexes from the roll-call pointer on, wrapping from 47 to 0 (03 R43). -/
def fromPointer (p : Fin 48) : List (Fin 48) := (List.finRange 48).map fun i => i + p

/-- The roll-call choice: the first four used entries that are not PRESENT (03 R43). -/
def rollCallChoice (s : State) : List (Fin 48) :=
  ((fromPointer s.rollPtr).filter fun n =>
    s.nodes[n].active.used && s.nodeLive[n].presence != .present).take 4

/-- The polls of a scheduled cycle (01 R4, 03 R42). -/
def scheduledPolls (s : State) : List (Fin 48) :=
  (s.polls[(⟨s.seq.cycle % 32, Nat.mod_lt _ (by decide)⟩ : Fin 32)]).active.nodes

/-- The poll part begins (01 R4, 03 R43). -/
def beginPolls (s : State) : State :=
  let chosen := if s.seq.rollCycle then rollCallChoice s else scheduledPolls s
  let t := s.setSeq { s.seq with phase := .polling, position := 40, nextSlot := 40, toPoll := chosen }
  match s.seq.rollCycle, chosen.getLast? with
  | true, some n => { t with rollPtr := n + 1 }
  | _, _ => t

/-- A poll slot begins (01 R6, 03 R42). -/
def beginPollSlot (n : Fin 48) (rest : List (Fin 48)) (s : State) : State :=
  let a := byteOf s.nodes[n].active.address
  s.setSeq { s.seq with position := s.seq.nextSlot, nextSlot := s.seq.nextSlot + 160, toPoll := rest,
                        tx := .poll n a, ltx := pollFrame a }

/-- Bit times left at the next slot's start (01 R5). -/
def remaining (s : State) : Nat := s.seq.cycleLength - s.seq.nextSlot

/-- What a command slot carries (01 R16). -/
inductive Occupant where
  | closeOf (v : Fin 32)
  | openOf (v : Fin 32)
  | passOf (index : Nat)
  | nothing
  deriving DecidableEq, Repr

/-- The first eligible entry of the FIFO, with its index (01 R16). -/
def fifoOccupant (left : Nat) : Nat → List FifoEntry → Occupant
  | _, [] => .nothing
  | i, .openValve v m :: es => if m.attempted then fifoOccupant left (i + 1) es else .openOf v
  | i, .pass _ _ _ :: es => if 360 ≤ left then .passOf i else fifoOccupant left (i + 1) es

/-- The command-slot arbiter (01 R16). -/
def occupant (s : State) : Occupant :=
  match (List.finRange 32).find? (fun v => match s.lcq.closes[v] with
      | some m => !m.attempted
      | none => false) with
  | some v => .closeOf v
  | none => fifoOccupant (remaining s) 0 s.lcq.fifo

/-- A SET_OUTPUT goes out in the slot (01 R16). -/
def sendCommand (v : Fin 32) (k : CommandKind) (s : State) : State :=
  let a := decoderAddress s v
  let o := s.valves[v].active.output
  s.setSeq { s.seq with tx := .command v k a o false, ltx := setOutputFrame a o k }

/-- A PASS goes out in a double slot (01 R16). -/
def sendPass (i : Nat) (s : State) : State :=
  match s.lcq.fifo[i]? with
  | some (.pass a d _) =>
    (s.setQueue { s.lcq with fifo := s.lcq.fifo.set i (.pass a d true) }).setSeq
      { s.seq with tx := .pass a, ltx := passFrame a d, nextSlot := s.seq.nextSlot + 160 }
  | _ => s

/-- A command slot begins (01 R5, R16). -/
def beginCommandSlot (s : State) : State :=
  let t := s.setSeq { s.seq with phase := .commands, position := s.seq.nextSlot,
                                 nextSlot := s.seq.nextSlot + 160 }
  match occupant s with
  | .closeOf v => sendCommand v .closeValve t
  | .openOf v => sendCommand v .openValve t
  | .passOf i => sendPass i t
  | .nothing => t

/-! ## Ends of transactions -/

/-- Marks of a command after an unanswered transaction (01 R17). -/
def Marks.tried : Marks := { attempted := true, sent := true }

/-- The command that was in flight, answered, leaves its place (01 R17). -/
def commandLeaves (v : Fin 32) (k : CommandKind) (s : State) : State :=
  match k with
  | .closeValve => setClose v none s
  | .openValve => dropOpen v s

/-- The command that was in flight stays with its marks set (01 R17). -/
def commandStays (v : Fin 32) (k : CommandKind) (s : State) : State :=
  match k with
  | .closeValve => if s.lcq.closes[v].isSome then setClose v (some .tried) s else s
  | .openValve =>
    s.setQueue { s.lcq with fifo := s.lcq.fifo.map fun e => if e.opens v then .openValve v .tried else e }

/-- A SET_OUTPUT transaction ends; a detached outcome is discarded (01 R17, 07 R123). -/
def commandEnds (v : Fin 32) (k : CommandKind) (detached answered : Bool) (s : State) : State :=
  let t := echoGood (s.setSeq { s.seq with tx := .idle })
  if detached then t
  else valveOutcome v k answered (if answered then commandLeaves v k t else commandStays v k t)

/-- A PASS transaction ends (01 R18). -/
def passEnds (address : Byte) (answer : Option (List Byte)) (s : State) : State :=
  let t := dropPass (echoGood (s.setSeq { s.seq with tx := .idle }))
  match answer with
  | some d => offerPassReply (passReplyFrame address .answered d) t
  | none => offerPassReply (passReplyFrame address .noAnswer []) t

end Sys2Proof.Machine
end

