-- ==== Sys2Proof/Machine/Update.lean ====
section
/-! DEFINITION. Update Control: loading, discarding, the cross checks, swaps and their effects, the sweep, and the end
of a step, in which everything still owed is done (10 R164 to R176). -/

namespace Sys2Proof.Machine

/-! ## One entry -/

/-- The pending record becomes the active copy; both markers are cleared (10 R175). -/
def Entry.swap {α : Type} (e : Entry α) : Entry α :=
  { active := e.pending.getD e.active, pending := none, due := false }

/-- A record is written to the pending copy (10 R165). -/
def Entry.load {α : Type} (x : α) (e : Entry α) : Entry α := { e with pending := some x }

/-- UPDATE takes the entry (10 R169). -/
def Entry.mark {α : Type} (e : Entry α) : Entry α := { e with due := true }

/-- DISCARD of an entry that is not SWAP_DUE (10 R168). -/
def Entry.discard {α : Type} (e : Entry α) : Entry α := { e with pending := none }

/-- An operation on entries, whatever their records. -/
structure EntryOp where
  run : {α : Type} → Entry α → Entry α

/-- An entry changed in place. -/
def onSlot (f : EntryOp) (x : Slot) (s : State) : State :=
  match x with
  | .node i => { s with nodes := s.nodes.set i (f.run s.nodes[i]) }
  | .poll i => { s with polls := s.polls.set i (f.run s.polls[i]) }
  | .valve i => { s with valves := s.valves.set i (f.run s.valves[i]) }
  | .bed i => { s with beds := s.beds.set i (f.run s.beds[i]) }
  | .supply => { s with supplyRec := f.run s.supplyRec }
  | .line => { s with lineRec := f.run s.lineRec }
  | .weather => { s with weatherRec := f.run s.weatherRec }
  | .drying => { s with drying := f.run s.drying }
  | .lock i => { s with lockRecs := s.lockRecs.set i (f.run s.lockRecs[i]) }

/-- The entry's pending record becomes active (10 R175). -/
def activate (x : Slot) (s : State) : State := onSlot ⟨Entry.swap⟩ x s

/-- The entry becomes SWAP_DUE (10 R169). -/
def markDue (x : Slot) (s : State) : State := onSlot ⟨Entry.mark⟩ x s

/-- The entry's pending copy is cleared (10 R168). -/
def discardSlot (x : Slot) (s : State) : State := onSlot ⟨Entry.discard⟩ x s

/-- Length in bytes of a table's records (12.4). -/
def recordLength : Slot → Nat
  | .node _ => 10 | .poll _ => 5 | .valve _ => 5 | .bed _ => 32 | .supply => 12 | .line => 3 | .weather => 3
  | .drying => 32 | .lock _ => 7

/-- LOAD's record checks and its write; none on a range error (10 R165, R166). -/
def loadRecord (x : Slot) (bs : List Byte) (s : State) : Option State :=
  match x with
  | .node i => (NodeRec.parse bs).map fun r => { s with nodes := s.nodes.set i (s.nodes[i].load r) }
  | .poll i => (PollRec.parse bs).map fun r => { s with polls := s.polls.set i (s.polls[i].load r) }
  | .valve i => (ValveRec.parse bs).map fun r => { s with valves := s.valves.set i (s.valves[i].load r) }
  | .bed i => (BedRec.parse bs).map fun r => { s with beds := s.beds.set i (s.beds[i].load r) }
  | .supply => (SupplyRec.parse bs).map fun r => { s with supplyRec := s.supplyRec.load r }
  | .line => (LineRec.parse bs).map fun r => { s with lineRec := s.lineRec.load r }
  | .weather => (WeatherRec.parse bs).map fun r => { s with weatherRec := s.weatherRec.load r }
  | .drying => (DryingRec.parse bs).map fun r => { s with drying := s.drying.load r }
  | .lock i => (LockRec.parse i bs).map fun r => { s with lockRecs := s.lockRecs.set i (s.lockRecs[i].load r) }

/-- The bytes of an entry's active copy (12.4). -/
def activeBytes (s : State) : Slot → List Byte
  | .node i => s.nodes[i].active.bytes
  | .poll i => s.polls[i].active.bytes
  | .valve i => s.valves[i].active.bytes
  | .bed i => s.beds[i].active.bytes
  | .supply => s.supplyRec.active.bytes
  | .line => s.lineRec.active.bytes
  | .weather => s.weatherRec.active.bytes
  | .drying => s.drying.active.bytes
  | .lock i => s.lockRecs[i].active.bytes

/-- The bytes of an entry's pending copy, if it has one (10 R167). -/
def pendingBytes (s : State) : Slot → Option (List Byte)
  | .node i => s.nodes[i].pending.map NodeRec.bytes
  | .poll i => s.polls[i].pending.map PollRec.bytes
  | .valve i => s.valves[i].pending.map ValveRec.bytes
  | .bed i => s.beds[i].pending.map BedRec.bytes
  | .supply => s.supplyRec.pending.map SupplyRec.bytes
  | .line => s.lineRec.pending.map LineRec.bytes
  | .weather => s.weatherRec.pending.map WeatherRec.bytes
  | .drying => s.drying.pending.map DryingRec.bytes
  | .lock i => s.lockRecs[i].pending.map LockRec.bytes

/-- The live part that follows an ACTIVE node or valve record (03 R37, 07 R121, 12.4). -/
def livePart (s : State) : Slot → List Byte
  | .node i =>
    let l := s.nodeLive[i]
    put1 l.presence.code ++ put1 l.misses ++ putMark l.changed
  | .valve i =>
    let l := s.valveLive[i]
    put1 l.state.code ++ put1 l.mode.code ++
    put1 (match l.owner with
      | some b => b.val
      | none => 0xFF) ++
    putMark l.assumedOpen ++ put1 l.attempts ++ putMark l.latched
  | .poll _ | .bed _ | .supply | .line | .weather | .drying | .lock _ => []

/-! ## Cross checks (10 R170) -/

/-- No value occurs twice. -/
def distinct : List Nat → Bool
  | [] => true
  | x :: xs => !xs.contains x && distinct xs

/-- The used node entry that an index names. -/
def namedNode (s : State) (i : Nat) : Option NodeRec :=
  match nodeRef i with
  | some n => if s.nodes[n].active.used then some s.nodes[n].active else none
  | none => none

/-- The used node entries. -/
def usedNodes (s : State) : List NodeRec := (s.nodes.toList.map (·.active)).filter NodeRec.used

/-- The used bed entries. -/
def usedBedRecs (s : State) : List BedRec := (s.beds.toList.map (·.active)).filter (·.used)

/-- The addresses of used node entries are distinct, and at most one is of kind WEATHER. -/
def nodesConsistent (s : State) : Bool :=
  distinct ((usedNodes s).map (·.address)) && ((usedNodes s).filter fun r => r.kind == .weather).length ≤ 1

/-- Every used valve names a used decoder with enough outputs. -/
def valvesConsistent (s : State) : Bool :=
  s.valves.toList.all fun e =>
    !e.active.used || (match namedNode s e.active.decoder with
      | some r => r.kind == .valveDecoder && e.active.output ≤ r.outputs
      | none => false)

/-- Every used bed's valve, when set, is a used entry that no other used bed names. -/
def bedValvesConsistent (s : State) : Bool :=
  let named := (usedBedRecs s).filterMap fun r => valveRef r.valve
  named.all (fun v => s.valves[v].active.used) && distinct (named.map (·.val))

/-- Every probe a used bed names is a used SOIL_PROBE entry named once across all used beds. -/
def bedProbesConsistent (s : State) : Bool :=
  let named := (usedBedRecs s).flatMap fun r => [r.probeA, r.probeB].filterMap nodeRef
  named.all (fun n => s.nodes[n].active.kind == .soilProbe) && distinct (named.map (·.val))

/-- Every index in every poll entry names a used node entry. -/
def pollsConsistent (s : State) : Bool :=
  s.polls.toList.all fun e => e.active.nodes.all fun n => s.nodes[n].active.used

/-- Strictly ascending. -/
def ascending : List Int → Bool
  | x :: y :: xs => x < y && ascending (y :: xs)
  | _ => true

/-- The eight drying bounds are strictly ascending. -/
def dryingConsistent (s : State) : Bool := ascending (s.drying.active.bands.map (·.1))

/-- The active tables pass every cross check (10 R170). -/
def crossChecks (s : State) : Bool :=
  nodesConsistent s && valvesConsistent s && bedValvesConsistent s && bedProbesConsistent s && pollsConsistent s &&
  dryingConsistent s

/-- The entry whose application gives the first view that fails, if one does (10 R170). -/
def firstFailure : List Slot → State → Option Slot
  | [], _ => none
  | x :: xs, view =>
    let next := activate x view
    if crossChecks next then firstFailure xs next else some x

/-! ## Swaps (10 R175) -/

/-- A bed's live balance at its swap (05 R87, R88 step 2, R89). -/
def BedLive.afterSwap (old new : BedRec) (now : Nat) (l : Option BedLive) : Option BedLive :=
  if !new.used then none
  else
    match old.used, l with
    | true, some b =>
      let same := old.sameProbes new
      some { b with estimateValid := b.estimateValid && same,
                    probeStale := b.probeStale && same,
                    waterResidue := if old.area = new.area then b.waterResidue else 0 }
    | _, _ =>
      some { estimate := 0, estimateValid := false, deficit := 0, accrualResidue := 0, rainResidue := 0,
             waterResidue := 0, lastAccrual := now, holdEnd := none, probeStale := false,
             evaluateAt := now + 600 }

/-- A bed swap: accrual with the old entry, the new entry, its demand check (05 R87 to R89). -/
def bedSwapped (b : Fin 24) (old new : BedRec) (s : State) : State :=
  demandCheck b (activate (.bed b) (accrue b s) |>.setBedLive b
    (BedLive.afterSwap old new s.partTime (accrue b s).bedLive[b]))

/-- An input at a supply record swap (09 R163). -/
def inputSwapped (old new : InputAction) (now : Nat) (micros : Micros) (i : InputLive) : InputLive :=
  if old = new then i else InputLive.fresh i.level now micros

/-- The Supply Monitor at a supply record swap (09 R163). -/
def monitorSwapped (old new : SupplyRec) (now : Nat) (micros : Micros) (m : SupplyMonitor) : SupplyMonitor :=
  { m with
    inputA := inputSwapped old.actionA new.actionA now micros m.inputA
    inputB := inputSwapped old.actionB new.actionB now micros m.inputB
    window :=
      if new.hasFlow then
        some { start := now, count := 0, calmStart := m.lastChange + 20 ≤ now, changed := false }
      else none
    highCount := 0, lowCount := 0, leakCount := 0
    result := if new.hasFlow then m.result else none }

/-- A supply record swap: budget, inputs, window, RAIN_CONTACT and a grant pass (06 R97, 08 R143, 09 R163). -/
def supplySwapped (old new : SupplyRec) (s : State) : State :=
  pass (judgeContact (s.setMonitor (monitorSwapped old new s.partTime s.micros s.monitor)))

/-- A lock record swap: FREEZE and WIND are judged from the values handed, then the effective lock is recomputed (08
R142). -/
def lockSwapped (i : Fin 5) (s : State) : State :=
  let c := s.locks.cond
  let c' : Conditions :=
    match s.locks.handed with
    | none => c
    | some (t, v) =>
      if i = 2 then c.put .freeze (freezeNext s.lockRecs[2].active t c.freeze)
      else if i = 3 then c.put .wind (windNext s.lockRecs[3].active v c.wind)
      else c
  recomputeLock (s.setLocks { s.locks with cond := c' })

/-- A line settings swap: the measure is judged by the new trip level; where that ends it, an overcurrent that fell together
with the swap is still to be taken (02 R29, 10 R174). -/
def lineSwapped (s : State) : State :=
  let t := judgeMeasure s
  if s.mon.measureSince.isSome && t.mon.measureSince.isNone then t.setMon { t.mon with swapEnded := some s.now } else t

/-- The effects of an entry's swap, from the state before it (10 R175). -/
def swapEffects (x : Slot) (s : State) : State :=
  let t := activate x s
  match x with
  | .node n => nodeSwapped n s.nodes[n].active t.nodes[n].active t
  | .poll _ => t
  | .valve v => valveSwapped v s.valves[v].active t.valves[v].active t
  | .bed b => bedSwapped b s.beds[b].active t.beds[b].active s
  | .supply => supplySwapped s.supplyRec.active t.supplyRec.active t
  | .line => lineSwapped t
  | .weather => weatherRecSwapped s.weatherRec.active t.weatherRec.active t
  | .drying => recomputeRate t
  | .lock i => lockSwapped i t

/-- An entry swaps; the swap of the last SWAP_DUE entry sets UPDATE_DONE (10 R175, R176). -/
def swapSlot (x : Slot) (s : State) : State :=
  let t := swapEffects x s
  if (headDue t).isNone then setFlag .updateDone t else t

/-- One turn of a sweep: the head swaps if its condition holds, otherwise the sweep ends (10 R173). -/
def sweepTurn (s : State) : State :=
  match readyHead s with
  | some x => swapSlot x s
  | none => s.setWork { s.work with sweep := false }

/-- What the step still owes is done: the STOPPING examination, the grant pass of a freed FIFO entry, sweeps, then
grant passes that were put behind a sweep. `fuel` bounds the turns; 145 swaps and what they trigger fit (log 11). -/
def settleTurns : Nat → State → State
  | 0, s => s
  | fuel + 1, s =>
    if s.work.stop then settleTurns fuel (examineStop s)
    else if s.work.free then settleTurns fuel (pass (s.setWork { s.work with free := false }))
    else if s.work.sweep then settleTurns fuel (sweepTurn s)
    else if s.work.pass then settleTurns fuel (pass (s.setWork { s.work with pass := false }))
    else s

/-- The step's own effects are settled and the MV pin follows (07 R139). -/
def settle (s : State) : State :=
  let t := settleTurns 1024 s
  judgeMv (t.setWork { pass := false, free := false, sweep := false, stop := false, mark := false })

/-- The end of every step that has an effect: all is settled, and the upstream arbiter chooses (11 R184). -/
def complete (s : State) : State := arbitrate (settle s)

end Sys2Proof.Machine
end

