-- ==== Sys2Proof/Machine/Port.lean ====
section
/-! DEFINITION. The Hub Link Port: framer, intake, the taking of a request and its answer, the records answers carry,
and the resets (11 R178 to R191, 12.3, 12.4). -/

namespace Sys2Proof.Machine

/-! ## Answers -/

/-- Result codes (12.2). -/
inductive Result where
  | ok | busy | badIndex | badValue | badRef | refusedState | locked | notFound | unknownKind
  deriving DecidableEq, Repr

/-- Result codes (12.2). -/
def Result.code : Result → Byte
  | .ok => 0 | .busy => 1 | .badIndex => 2 | .badValue => 3 | .badRef => 4 | .refusedState => 5 | .locked => 6
  | .notFound => 7 | .unknownKind => 8

/-- What the block that owns a request hands back: the state after its effects, the result, and the body after the
result byte, built from the state in which everything has settled (11 R182). -/
structure Ruling where
  state : State
  result : Result
  body : State → List Byte

/-- A refusal that changes nothing. -/
def refuse (r : Result) (s : State) : Ruling := { state := s, result := r, body := fun _ => [] }

/-- OK with no further body. -/
def accept (s : State) : Ruling := { state := s, result := .ok, body := fun _ => [] }

/-- No answer is waiting to be sent or being sent (11 R182). -/
def portFree (h : HubPort) : Bool :=
  h.answer.isNone && match h.htx with
    | .answer _ => false
    | .idle | .notice _ | .report _ => true

/-- The request can be taken now: the port is free, and it stands at the head of the queue, or the queue is empty and
it arrives in this step (11 R181, R182, log 6). -/
def canTake (f : HubFrame) (s : State) : Bool :=
  portFree s.hub && match s.hub.requests with
    | [] => !s.hub.holdOff
    | g :: _ => g == f

/-- The queue with the request at its head. -/
def atHead (f : HubFrame) (s : State) : State :=
  if s.hub.requests.isEmpty then s.setHub { s.hub with requests := [f] } else s

/-- An answer is ready for the arbiter (11 R182). -/
def putAnswer (kind : Byte) (r : Result) (body : List Byte) (s : State) : State :=
  s.setHub { s.hub with answer := some { kind := kind + 0x80, body := r.code :: body } }

/-- A ruling is carried out: its effects settle, the answer is built after them, and the arbiter chooses. -/
def answerRuling (kind : Byte) (r : Ruling) : State :=
  let t := settle r.state
  arbitrate (putAnswer kind r.result (r.body t) t)

/-- A request is taken: a body of a length its layout does not allow is answered BAD_VALUE by the Port, every other
goes to its owner's rule (11 R182). A request that cannot be taken now changes nothing. -/
def takeRequest (kind : Byte) (lengths : Nat → Bool) (rule : List Byte → State → Ruling) (body : List Byte)
    (s : State) : State :=
  if canTake { kind := kind, body := body } s then
    let t := atHead { kind := kind, body := body } s
    answerRuling kind (if lengths body.length then rule body t else refuse .badValue t)
  else s

/-! ## Framer and intake (11 R179, R181) -/

/-- A good frame reaches request intake. -/
def intake (f : HubFrame) (s : State) : State :=
  if 0x80 ≤ f.kind.toNat then s
  else if 4 ≤ s.hub.requests.length then setFlag .linkOverrun s
  else s.setHub { s.hub with requests := s.hub.requests ++ [f] }

/-- The stored bytes of a whole frame (after START) are checked (11 R180). -/
def checkFrame (got : List Byte) (s : State) : State :=
  let n := get1 got 0
  let crc := crc16 (got.take (n + 1))
  if get2 got (n + 1) = crc.toNat then intake { kind := got.getD 1 0, body := (got.drop 2).take (n - 1) } s else s

/-- Stored bytes are those of a whole frame: LEN, LEN bytes and two of CRC (11 R178). -/
def frameWhole (got : List Byte) : Bool := got.length == get1 got 0 + 3

/-- The framer takes a byte (11 R179). -/
def framerByte (b : Byte) (s : State) : State :=
  match s.hub.framer with
  | .hunting => if b = 0xD3 then s.setHub { s.hub with framer := .receiving [] } else s
  | .receiving [] =>
    if 1 ≤ b.toNat ∧ b.toNat ≤ 240 then s.setHub { s.hub with framer := .receiving [b] }
    else s.setHub { s.hub with framer := .hunting }
  | .receiving (n :: got) =>
    let all := n :: got ++ [b]
    if frameWhole all then checkFrame all (s.setHub { s.hub with framer := .hunting })
    else s.setHub { s.hub with framer := .receiving all }

/-- The framer waits for exactly one more byte. -/
def lastByteDue (h : HubPort) : Bool :=
  match h.framer with
  | .hunting => false
  | .receiving got => !got.isEmpty && got.length + 1 == get1 got 0 + 3

/-! ## Records of the answers (12.3, 12.4) -/

/-- A part-time field that may be none (12 R192). -/
def putTime : Option Nat → List Byte
  | some t => put4 t
  | none => [0xFF, 0xFF, 0xFF, 0xFF]

/-- In force, mode, timing; 0 while no lock is in force (12.4). -/
def lockBytes (s : State) : List Byte :=
  match s.locks.effective with
  | none => [0, 0, 0]
  | some (m, t) => [1] ++ put1 m.code ++ put1 t.code

/-- One bit of a byte-wide set. -/
def bitAt (b : Bool) (i : Nat) : Nat := if b then 2 ^ i else 0

/-- The source conditions byte (12 R193). -/
def conditionByte (c : Conditions) : Nat :=
  bitAt c.rainContact 0 + bitAt c.rainHold 1 + bitAt c.freeze 2 + bitAt c.wind 3 + bitAt c.hub 4 + bitAt c.supply 5

/-- Contact level of an input (12.2). -/
def contactLevel (a : InputAction) (i : InputLive) : Nat :=
  match a, i.stable with
  | .rainContact, some .low => 1
  | .rainContact, some .high => 2
  | _, _ => 0

/-- Table and index of the head entry, or 0xFF, 0xFF (12.4). -/
def headBytes (s : State) : List Byte :=
  match headDue s with
  | some x => put1 x.table ++ put1 x.index
  | none => [0xFF, 0xFF]

/-- Present, measured, expected, settled (12.4). -/
def resultBytes : Option WindowResult → List Byte
  | some w => [1] ++ put2 w.measured ++ put2 w.expected ++ putMark w.settled
  | none => [0, 0, 0, 0, 0, 0]

/-- The status record, 40 bytes (11 R189, 12.4). -/
def statusRecord (s : State) : List Byte :=
  put4 s.notice.flags.toNat ++ put4 s.notice.mask.toNat ++ putMark s.notice.pending ++ put4 s.partTime ++
  put1 s.seq.state.code ++ put2 s.seq.cycle ++
  lockBytes s ++ put1 (conditionByte s.locks.cond) ++
  put1 (slotsInUse s) ++ put2 (flowInUse s) ++
  putMark s.clock.valid ++ put2 s.clock.minute ++ put1 s.clock.second ++
  put1 (dueCount s) ++ headBytes s ++
  resultBytes s.monitor.result ++
  put1 (contactLevel s.supplyRec.active.actionA s.monitor.inputA) ++
  put1 (contactLevel s.supplyRec.active.actionB s.monitor.inputB) ++
  put1 s.hub.reports.length ++ put1 s.hub.passWait.length

/-- A probe part of the bed state record; empty where no probe is named (12 R192). -/
def probePart (s : State) (ref : Nat) : List Byte :=
  match nodeRef ref with
  | none => [0xFF, 0xFF, 0, 0, 0, 0]
  | some n =>
    match s.probes[n] with
    | none => [0xFF, 0xFF, 0, 0, 0, 0]
    | some p => put1 n.val ++ put1 p.state.code ++ put1 p.rejects ++ putMark p.lastCount.isSome ++ put2 (p.lastCount.getD 0)

/-- The bed state record, 44 bytes (05 R86, 12.4). -/
def bedStateRecord (s : State) (b : Fin 24) (l : BedLive) : List Byte :=
  let r := s.beds[b].active
  put1 b.val ++ put1 r.mode ++
  put2 l.estimate ++ putMark l.estimateValid ++
  put2 l.deficit ++ put2 l.accrualResidue ++ put1 l.rainResidue ++ put2 l.waterResidue ++
  put4 l.lastAccrual ++ putTime l.holdEnd ++ putMark (inHold s b) ++
  put2 (effectiveRate s b) ++ putMark l.probeStale ++
  put1 (match findRun s b with
    | some q => q.state.code
    | none => 0) ++
  probePart s r.probeA ++ probePart s r.probeB ++
  put1 s.weather.status.code ++ putSigned2 s.weather.temperature ++ put2 s.weather.wind ++ put2 s.weather.rate

/-- The run flag byte (12.2). -/
def runFlags (r : Run) : Nat :=
  bitAt r.reasons.lock 0 + bitAt r.reasons.line 1 + bitAt r.reasons.valve 2 + bitAt r.stopAtPulseEnd 3 +
  bitAt r.plan.isSome 4

/-- A run record of 28 bytes (06 R114, 12.4). -/
def runRecord (position : Nat) (r : Run) : List Byte :=
  put1 position ++ put1 r.bed.val ++ put1 r.origin.code ++ put1 r.state.code ++ put2 r.planned ++ put2 r.delivered ++
  put2 r.volume ++ put2 r.pulseOn ++ put2 r.soak ++ put2 (r.plan.getD (0, 0)).1 ++ put2 (r.plan.getD (0, 0)).2 ++
  put1 r.skips ++ put1 (runFlags r) ++ putTime r.pulseStart ++ putTime r.expiry

/-- The RUN_LIST answer from a first position (06 R114). -/
def runListBody (first : Nat) (s : State) : List Byte :=
  let shown := (s.runs.drop first).take 8
  put1 s.runs.length ++ put1 (slotsInUse s) ++ put2 (flowInUse s) ++ put1 shown.length ++
  (shown.zipIdx first).flatMap fun x => runRecord x.2 x.1

/-! ## Resets (11 R190, R191) -/

/-- Every block in its power-on state, the pins, the queue of commands and the free-choice counter kept (log 17, 28);
an overcurrent measure runs from the reset where the pin is above the level (02 R20, R29). -/
def blocksReset (now : Nat) (micros : Micros) (clock : Clock) (s : State) : State :=
  judgeMeasure { State.reset with
    partTime := now
    micros := micros
    clock := clock
    mon := { State.reset.mon with sensed := s.mon.sensed }
    monitor := { State.reset.monitor with
      inputA := InputLive.fresh s.monitor.inputA.level now micros
      inputB := InputLive.fresh s.monitor.inputB.level now micros
      lastChange := now }
    hub := { State.reset.hub with holdOff := s.hub.holdOff }
    choice := s.choice
    pending := s.pending }

/-- The reset of an accepted RESET_PART: part time and the week clock continue (11 R190). -/
def partReset (s : State) : State := blocksReset s.partTime s.micros s.clock s

/-- The power-on reset: part time and the week clock start again (11 R191). -/
def powerOnReset (s : State) : State := blocksReset 0 0 State.reset.clock s

end Sys2Proof.Machine
end

