-- ==== Sys2Proof/Machine/HubEvents.lean ====
section
/-! DEFINITION. Meanings of the events of the hub link and of RESETN: POWER_ON_RESET, RECEIVE_FRAME,
HUB_BYTE_RECEIVED, FRAME_GAP_TIMEOUT, BREAK_BEGIN, BREAK_END, ANSWER_END, UPSTREAM_FRAME_END (11 R178 to R191). An event
whose condition does not stand has not occurred and changes nothing (log 1). -/

namespace Sys2Proof.Machine

/-- POWER_ON_RESET: the READY notice is sent at once unless a break holds it off (11 R191). -/
def execPowerOnReset (s : State) : Host.Outcome State Fault Refusal := .next (arbitrate (powerOnReset s))

/-- RECEIVE_FRAME: the last byte of a frame arrives (11 R179, R181). -/
def execReceiveFrame (last : Byte) (s : State) : Host.Outcome State Fault Refusal :=
  .next (if s.hub.holdOff = false ∧ lastByteDue s.hub = true then complete (framerByte last s) else s)

/-- HUB_BYTE_RECEIVED: a byte arrives on HRX, a framing error discards the frame in progress (11 R179); no byte arrives
while a break lasts (11 R183, log 25). -/
def execHubByteReceived (byte : Byte) (framingError : Bool) (s : State) : Host.Outcome State Fault Refusal :=
  .next
    (if s.hub.holdOff then s
     else if framingError then s.setHub { s.hub with framer := .hunting }
     else complete (framerByte byte s))

/-- FRAME_GAP_TIMEOUT: more than 50 ms pass inside a frame (11 R179). -/
def execFrameGapTimeout (s : State) : Host.Outcome State Fault Refusal :=
  .next
    (match s.hub.framer with
     | .hunting => s
     | .receiving _ => s.setHub { s.hub with framer := .hunting })

/-- BREAK_BEGIN: hold-off stands and the frame in progress is discarded (11 R183). -/
def execBreakBegin (s : State) : Host.Outcome State Fault Refusal :=
  .next (if s.hub.holdOff then s else s.setHub { s.hub with holdOff := true, framer := .hunting })

/-- BREAK_END: hold-off ends and the arbiter resumes (11 R183). -/
def execBreakEnd (s : State) : Host.Outcome State Fault Refusal :=
  .next (if s.hub.holdOff then arbitrate (s.setHub { s.hub with holdOff := false }) else s)

/-- ANSWER_END: the request leaves the queue (11 R182); a reset owed by RESET_PART takes place (11 R190). -/
def execAnswerEnd (s : State) : Host.Outcome State Fault Refusal :=
  .next
    (match s.hub.htx with
     | .answer _ =>
       let t := s.setHub { s.hub with htx := .idle, requests := s.hub.requests.tail }
       arbitrate (if s.hub.resetOwed then partReset t else t)
     | .idle | .notice _ | .report _ => s)

/-- UPSTREAM_FRAME_END: a NOTICE or a report frame has been sent (11 R184). -/
def execUpstreamFrameEnd (s : State) : Host.Outcome State Fault Refusal :=
  .next
    (match s.hub.htx with
     | .notice _ | .report _ => arbitrate (s.setHub { s.hub with htx := .idle })
     | .idle | .answer _ => s)

end Sys2Proof.Machine
end

