-- ==== Sys2Proof/Machine/RunRequests.lean ====
section
/-! DEFINITION. Meanings of the requests of the Week Clock, the Dispatcher, the Balance Engine and Valve Control:
TIME_SET, TIME_READ (06 R116, R119), RUN_START to RUN_LIST (06 R109 to R114), BED_STATE (05 R86), VALVE_MODE (07
R134). -/

namespace Sys2Proof.Machine

/-- A bed's window closes (06 R118). -/
def windowCloses (b : Fin 24) (s : State) : State :=
  match findRun s b with
  | none => s
  | some r =>
    if r.origin = .hub then s
    else if r.state = .on then putRun s { r with stopAtPulseEnd := true }
    else dropRun b s

/-- The bed's window is closed, and the bed has an AUTO run, on which a close acts (06 R118). -/
def closeActs (s : State) (b : Fin 24) : Bool :=
  !windowNow s b && (match findRun s b with
    | some r => r.origin == .auto
    | none => false)

/-- Every used bed's window judged afresh at the new minute, in any order (06 R117, R119, log 41). -/
def judgeWindows (s : State) : State := forBeds (closeActs s) windowCloses s

/-- The rule of TIME_SET: minute of week, second (06 R116). A minute transition that the old clock was about to make is not
made (06 R119, log 23). -/
def timeSetRule (body : List Byte) (s : State) : Ruling :=
  if 10079 < get2 body 0 ∨ 59 < get1 body 2 then refuse .badValue s
  else
    accept (demandAll (judgeWindows
      { s with clock := { valid := true, minute := get2 body 0, second := get1 body 2, turnDue := false } }))

/-- TIME_SET (06 R116). -/
def execTimeSet (body : List Byte) (s : State) : Host.Outcome State Fault Refusal :=
  .next (takeRequest 0x09 (fun n => n == 3) timeSetRule body s)

/-- The rule of TIME_READ (06 R116). -/
def timeReadRule (_ : List Byte) (s : State) : Ruling :=
  { state := s, result := .ok,
    body := fun t => putMark t.clock.valid ++ put2 t.clock.minute ++ put1 t.clock.second ++ put4 t.partTime }

/-- TIME_READ (06 R116). -/
def execTimeRead (body : List Byte) (s : State) : Host.Outcome State Fault Refusal :=
  .next (takeRequest 0x0A (fun n => n == 0) timeReadRule body s)

/-- A HUB run of so many planned seconds (06 R110). -/
def hubRun (s : State) (b : Fin 24) (v : Fin 32) (planned : Nat) : Run :=
  newRun s b .hub planned (min (flowOf s v * planned / 60) 65535)

/-- The OK ruling of RUN_START: the run is created, planned seconds and volume are answered (06 R110). -/
def startRun (r : Run) (s : State) : Ruling :=
  { state := createRun r s, result := .ok, body := fun _ => put2 r.planned ++ put2 r.volume }

/-- The rule of RUN_START: bed, seconds; the tests in their order (06 R109, R110). -/
def runStartRule (body : List Byte) (s : State) : Ruling :=
  let secs := get2 body 1
  match bedRef (get1 body 0) with
  | none => refuse .badIndex s
  | some b =>
    if 7200 < secs then refuse .badValue s
    else if s.beds[b].active.used = false then refuse .notFound s
    else if s.beds[b].active.takesHubRuns = false then refuse .refusedState s
    else if (findRun s b).isSome then refuse .refusedState s
    else
      match valveOf s b with
      | none => refuse .refusedState s
      | some v =>
        if s.valveLive[v].mode ≠ .auto then refuse .refusedState s
        else if cancelInForce s then refuse .locked s
        else if secs = 0 then
          let t := accrue b s
          if deficitOf t b ≤ s.beds[b].active.stopLevel then refuse .badValue t
          else startRun (hubRun t b v (sizedSeconds s.beds[b].active (deficitOf t b) (flowOf s v))) t
        else startRun (hubRun s b v secs) s

/-- RUN_START (06 R109, R110). -/
def execRunStart (body : List Byte) (s : State) : Host.Outcome State Fault Refusal :=
  .next (takeRequest 0x0B (fun n => n == 3) runStartRule body s)

/-- Done seconds of a run at its removal now (06 R111). -/
def deliveredAtRemoval (s : State) (r : Run) : Nat :=
  if r.state = .on then r.delivered + openSeconds s.partTime r else r.delivered

/-- The rule of RUN_STOP: bed (06 R111). -/
def runStopRule (body : List Byte) (s : State) : Ruling :=
  match bedRef (get1 body 0) with
  | none => refuse .badIndex s
  | some b =>
    match findRun s b with
    | none => refuse .notFound s
    | some r => { state := removeRun b s, result := .ok, body := fun _ => put2 (deliveredAtRemoval s r) }

/-- RUN_STOP (06 R111). -/
def execRunStop (body : List Byte) (s : State) : Host.Outcome State Fault Refusal :=
  .next (takeRequest 0x0C (fun n => n == 1) runStopRule body s)

/-- The rule of RUN_STOP_ALL: every run removed, in queue order (06 R112). -/
def runStopAllRule (_ : List Byte) (s : State) : Ruling :=
  { state := (s.runs.map (·.bed)).foldl (fun t b => removeRun b t) s, result := .ok,
    body := fun _ => put1 s.runs.length }

/-- RUN_STOP_ALL (06 R112). -/
def execRunStopAll (body : List Byte) (s : State) : Host.Outcome State Fault Refusal :=
  .next (takeRequest 0x0D (fun n => n == 0) runStopAllRule body s)

/-- The pair of pulse_on and soak lies in its ranges (06 R113). -/
def planOk (p k : Nat) : Bool := (p == 0 || (60 ≤ p && p ≤ 3600)) && (60 ≤ k && k ≤ 7200)

/-- The adjustment of a run (06 R113). -/
def Run.adjust (p k : Nat) (r : Run) : Run :=
  if r.state = .on then { r with plan := some (p, k) } else { r with pulseOn := p, soak := k, plan := none }

/-- The rule of RUN_ADJUST: bed, pulse_on, soak (06 R113). -/
def runAdjustRule (body : List Byte) (s : State) : Ruling :=
  match bedRef (get1 body 0) with
  | none => refuse .badIndex s
  | some b =>
    if planOk (get2 body 1) (get2 body 3) = false then refuse .badValue s
    else
      match findRun s b with
      | none => refuse .notFound s
      | some r => accept (putRun s (r.adjust (get2 body 1) (get2 body 3)))

/-- RUN_ADJUST (06 R113). -/
def execRunAdjust (body : List Byte) (s : State) : Host.Outcome State Fault Refusal :=
  .next (takeRequest 0x0E (fun n => n == 5) runAdjustRule body s)

/-- The rule of RUN_LIST: first position (06 R114). -/
def runListRule (body : List Byte) (s : State) : Ruling :=
  if 23 < get1 body 0 then refuse .badValue s
  else { state := s, result := .ok, body := runListBody (get1 body 0) }

/-- RUN_LIST (06 R114). -/
def execRunList (body : List Byte) (s : State) : Host.Outcome State Fault Refusal :=
  .next (takeRequest 0x0F (fun n => n == 1) runListRule body s)

/-- The rule of BED_STATE: bed (05 R86). -/
def bedStateRule (body : List Byte) (s : State) : Ruling :=
  match bedRef (get1 body 0) with
  | none => refuse .badIndex s
  | some b =>
    if s.beds[b].active.used = false then refuse .notFound s
    else
      { state := accrue b s, result := .ok,
        body := fun t => match t.bedLive[b] with
          | some l => bedStateRecord t b l
          | none => [] }

/-- BED_STATE (05 R86). -/
def execBedState (body : List Byte) (s : State) : Host.Outcome State Fault Refusal :=
  .next (takeRequest 0x10 (fun n => n == 1) bedStateRule body s)

/-- The rule of VALVE_MODE: valve, mode (07 R134). -/
def valveModeRule (body : List Byte) (s : State) : Ruling :=
  match valveRef (get1 body 0) with
  | none => refuse .badIndex s
  | some v =>
    match ValveMode.ofCode (get1 body 1) with
    | none => refuse .badValue s
    | some m =>
      if s.valves[v].active.used = false then refuse .notFound s
      else if submitsOpen s v m && openResult s v == .refused then refuse .busy s
      else
        { state := setValveMode v m s, result := .ok,
          body := fun t => put1 t.valveLive[v].state.code ++ put1 t.valveLive[v].mode.code }

/-- VALVE_MODE (07 R134). -/
def execValveMode (body : List Byte) (s : State) : Host.Outcome State Fault Refusal :=
  .next (takeRequest 0x11 (fun n => n == 2) valveModeRule body s)

end Sys2Proof.Machine
end

