-- ==== Sys2Proof/Machine/TimerEvents.lean ====
section
/-! DEFINITION. Meanings of the events of the timers and of the line current: OVERCURRENT, BACKOFF_EXPIRY,
SENSED_CURRENT_CHANGE (02 R29 to R33), BEACON_SILENCE_EXPIRY (07 R133), PULSE_EXPIRY, SOAK_EXPIRY (06 R103, R105),
EVALUATION_EXPIRY (05 R82), WEATHER_STALENESS_EXPIRY (04 R61), RAIN_HOLD_EXPIRY (08 R144), MINUTE_TRANSITION (06 R117).
An event whose condition does not stand has not occurred and changes nothing (log 1). -/

namespace Sys2Proof.Machine

/-- A timer that expires at `e` is due. -/
def due (s : State) (e : Option Nat) : Bool :=
  match e with
  | some t => t ≤ s.partTime
  | none => false

/-- The measure runs, or ran up to this moment, at which a line settings swap that is taken first ended it (02 R29, 10 R174,
log 37). -/
def measured (s : State) : Bool := s.mon.measureSince.isSome || s.mon.swapEnded == some s.now

/-- OVERCURRENT: the measure has run for 20 ms, which the sender asserts (02 R29, R30, log 4). -/
def execOvercurrent (s : State) : Host.Outcome State Fault Refusal :=
  .next (if s.lpwr = true ∧ measured s = true then complete (trip s) else s)

/-- BACKOFF_EXPIRY (02 R33). -/
def execBackoffExpiry (s : State) : Host.Outcome State Fault Refusal :=
  .next (if s.seq.state = .lineOff ∧ due s s.mon.backoff = true then complete (backoffEnds s) else s)

/-- SENSED_CURRENT_CHANGE: ISENSE takes another value (02 R29). -/
def execSensedCurrentChange (milliamps : Nat) (s : State) : Host.Outcome State Fault Refusal :=
  .next (judgeMeasure (s.setMon { s.mon with sensed := milliamps, swapEnded := none }))

/-- BEACON_SILENCE_EXPIRY (07 R133). -/
def execBeaconSilenceExpiry (s : State) : Host.Outcome State Fault Refusal :=
  .next (if due s s.beacon then complete (beaconExpires s) else s)

/-- The bed's run stands in a state with an expiry that is due. -/
def runDue (s : State) (b : Fin 24) (x : RunState) : Bool :=
  match findRun s b with
  | some r => r.state == x && due s r.expiry
  | none => false

/-- PULSE_EXPIRY (06 R103). -/
def execPulseExpiry (b : Fin 24) (s : State) : Host.Outcome State Fault Refusal :=
  .next (if runDue s b .on then complete (pulseExpires b s) else s)

/-- SOAK_EXPIRY (06 R105). -/
def execSoakExpiry (b : Fin 24) (s : State) : Host.Outcome State Fault Refusal :=
  .next (if runDue s b .soak then complete (soakExpires b s) else s)

/-- The bed's evaluation timer has expired (05 R82). -/
def evaluationDue (s : State) (b : Fin 24) : Bool :=
  match s.bedLive[b] with
  | some l => l.evaluateAt ≤ s.partTime
  | none => false

/-- EVALUATION_EXPIRY (05 R82). -/
def execEvaluationExpiry (b : Fin 24) (s : State) : Host.Outcome State Fault Refusal :=
  .next (if evaluationDue s b then complete (demandCheck b (evaluate b s)) else s)

/-- WEATHER_STALENESS_EXPIRY (04 R61). -/
def execWeatherStalenessExpiry (s : State) : Host.Outcome State Fault Refusal :=
  .next
    (if staleDue s then complete (setWeather { s.weather with status := .stale } (setFlag .weatherStale s)) else s)

/-- RAIN_HOLD_EXPIRY (08 R144). -/
def execRainHoldExpiry (s : State) : Host.Outcome State Fault Refusal :=
  .next
    (if due s s.locks.rainHold then
       complete (setCondition .rainHold false (s.setLocks { s.locks with rainHold := none }))
     else s)

/-- A bed's window was open at the old minute. -/
def windowBefore (old : Nat) (s : State) (b : Fin 24) : Bool := s.beds[b].active.windowOpen (old % 1440)

/-- A bed's window at the change of minute (06 R117). -/
def windowTransition (old : Nat) (b : Fin 24) (s : State) : State :=
  if !windowBefore old s b && windowNow s b then demandCheck b s
  else if windowBefore old s b && !windowNow s b then windowCloses b s
  else s

/-- The bed's window opens and its demand check asks for a run, or it closes on an AUTO run (06 R117). -/
def transitionActs (old : Nat) (s : State) (b : Fin 24) : Bool :=
  (!windowBefore old s b && (demandValve s b).isSome) || (windowBefore old s b && closeActs s b)

/-- The clock's next minute (06 R115). -/
def nextMinute (s : State) : State :=
  { s with clock := { s.clock with minute := (s.clock.minute + 1) % 10080, second := 0, turnDue := false } }

/-- MINUTE_TRANSITION, once second 59 has ended; a TIME_SET taken before it takes its place (06 R115, R117, R119, log 23). -/
def execMinuteTransition (s : State) : Host.Outcome State Fault Refusal :=
  .next
    (if s.clock.valid = true ∧ s.clock.turnDue = true then
       let t := nextMinute s
       complete (forBeds (transitionActs s.clock.minute t) (windowTransition s.clock.minute) t)
     else s)

end Sys2Proof.Machine
end

