-- ==== Sys2Proof/Machine/InputEvents.lean ====
section
/-! DEFINITION. Meanings of the events of the local inputs: INPUT_LEVEL_CHANGE, RAIN_TIP, CONTACT_STABLE, FLOW_EDGE,
FLOW_WINDOW_END (09 R153 to R162). An event whose condition does not stand has not occurred and changes
nothing (log 1) but the present, where it carries a moment (log 4). -/

namespace Sys2Proof.Machine

/-- The live state of an input. -/
def SupplyMonitor.input (m : SupplyMonitor) : InputId → InputLive
  | .a => m.inputA
  | .b => m.inputB

/-- An input's live state replaced. -/
def SupplyMonitor.putInput (m : SupplyMonitor) (x : InputId) (i : InputLive) : SupplyMonitor :=
  match x with
  | .a => { m with inputA := i }
  | .b => { m with inputB := i }

/-- The action of an input in the active supply record. -/
def actionOf (s : State) (x : InputId) : InputAction := s.supplyRec.active.action x

/-- The present reaches a moment within the second; a moment that lies behind it counts as the present (log 4). -/
def advance (moment : Micros) (s : State) : State := { s with micros := max s.micros moment }

/-- The moment at which an input's level last changed. -/
def InputLive.changed (i : InputLive) : Nat := momentOf i.since i.sinceMicros

/-- The input at a new level: the stable time runs from now, a high re-arms a rain gauge, and a rise waits to be judged
as an edge (09 R155, R156, R157). -/
def InputLive.move (l : Level) (now : Nat) (micros : Micros) (i : InputLive) : InputLive :=
  { i with level := l, since := now, sinceMicros := micros, armed := i.armed || l == .high, rising := l == .high }

/-- INPUT_LEVEL_CHANGE (09 R154). -/
def execInputLevelChange (a : InputAt) (l : Level) (s : State) : Host.Outcome State Fault Refusal :=
  let t := advance a.moment s
  let i := t.monitor.input a.input
  .next (if i.level = l then t else t.setMonitor (t.monitor.putInput a.input (i.move l t.partTime t.micros)))

/-- The moment at which a low that began with the input's last change has lasted 20 ms: the tip's moment (09 R155). -/
def InputLive.tipMoment (i : InputLive) : Nat := i.changed + 20000

/-- At least `spacing` µs have passed since the previous moment, if there is one. -/
def spaced (spacing now : Nat) : Option Nat → Bool
  | none => true
  | some t => t + spacing ≤ now

/-- A tip is counted: the input is a rain gauge, low, has been high since the last low counted, has been low for 20 ms, and
reached the 20 ms at least 200 ms after the previous tip; a low that reached them sooner is passed over, whatever time it is
now (09 R155). -/
def tipDue (s : State) (x : InputId) : Bool :=
  let i := s.monitor.input x
  actionOf s x == .rainTips && i.level == .low && i.armed && i.tipMoment ≤ s.now && spaced 200000 i.tipMoment i.lastTip

/-- RAIN_TIP (09 R155, 04 R66). -/
def execRainTip (a : InputAt) (s : State) : Host.Outcome State Fault Refusal :=
  let t := advance a.moment s
  let i := t.monitor.input a.input
  .next
    (if tipDue t a.input then
       complete (localTip (t.setMonitor (t.monitor.putInput a.input
         { i with armed := false, lastTip := some i.tipMoment })))
     else t)

/-- The level has stood for 2 s and differs from the stable level (09 R156). -/
def contactDue (s : State) (x : InputId) : Bool :=
  actionOf s x == .rainContact && (s.monitor.input x).changed + 2000000 ≤ s.now &&
  (s.monitor.input x).stable != some (s.monitor.input x).level

/-- CONTACT_STABLE (09 R156, 08 R143). -/
def execContactStable (a : InputAt) (s : State) : Host.Outcome State Fault Refusal :=
  let t := advance a.moment s
  let i := t.monitor.input a.input
  .next
    (if contactDue t a.input then
       complete (judgeContact (t.setMonitor (t.monitor.putInput a.input { i with stable := some i.level })))
     else t)

/-- A rising edge is judged: counted into the running window when 1 ms or more has passed since the previous counted
edge on the input, and passed over when not (09 R157). -/
def judgeEdge (x : InputId) (s : State) : State :=
  let i := { s.monitor.input x with rising := false }
  if spaced 1000 i.changed i.lastEdge then
    s.setMonitor
      { s.monitor.putInput x { i with lastEdge := some i.changed } with
        window := s.monitor.window.map fun w => { w with count := w.count + 1 } }
  else s.setMonitor (s.monitor.putInput x i)

/-- FLOW_EDGE: a rising edge on a FLOW input. At a low input the command is the rise itself; at a high one it is the rise
that INPUT_LEVEL_CHANGE reported, judged once (09 R157, log 22). -/
def execFlowEdge (a : InputAt) (s : State) : Host.Outcome State Fault Refusal :=
  let t := advance a.moment s
  let i := t.monitor.input a.input
  .next
    (if actionOf t a.input = .flow then
       match i.level with
       | .low => judgeEdge a.input (t.setMonitor (t.monitor.putInput a.input (i.move .high t.partTime t.micros)))
       | .high => if i.rising then judgeEdge a.input t else t
     else t)

/-! ## Flow windows -/

/-- Measured flow of a window (09 R158). -/
def measuredFlow (count pulsesPerLitre : Nat) : Nat := min (count * 60 / pulsesPerLitre) 2000

/-- Expected flow (09 R159). -/
def expectedFlow (s : State) : Nat :=
  min ((((List.finRange 32).filter fun v =>
    s.valves[v].active.used &&
    (s.valveLive[v].state == .opened || (s.valveLive[v].state == .fault && s.valveLive[v].assumedOpen))).map
      (flowOf s)).sum) 2000

/-- The result of the window that ends (09 R160 step 1). -/
def windowResult (s : State) (w : FlowWindow) : WindowResult :=
  { measured := measuredFlow w.count s.supplyRec.active.pulsesPerLitre
    expected := expectedFlow s
    settled := w.calmStart && !w.changed }

/-- The high-flow condition (09 R161). -/
def highFlow (r : SupplyRec) (w : WindowResult) : Bool :=
  0 < w.expected && w.expected * (100 + r.overMargin) / 100 < w.measured

/-- The low-flow condition (09 R162). -/
def lowFlow (r : SupplyRec) (w : WindowResult) : Bool := w.measured < w.expected * (100 - r.underMargin) / 100

/-- The leak condition (09 R162). -/
def leaks (s : State) (w : WindowResult) : Bool :=
  w.expected == 0 && !someValveMoving s && s.supplyRec.active.leakThreshold ≤ w.measured

/-- A count after a settled window; at its limit it returns to 0 (09 R160). -/
def countUp (met : Bool) (limit count : Nat) : Nat := if met then (if limit ≤ count + 1 then 0 else count + 1) else 0

/-- A count reaches its limit with this window (09 R160). -/
def alarms (met : Bool) (limit count : Nat) : Bool := met && limit ≤ count + 1

/-- Steps 1 to 3 of a window end (09 R160). -/
def judgeWindow (w : WindowResult) (s : State) : State :=
  let m := s.monitor
  let r := s.supplyRec.active
  if w.settled then
    let high := highFlow r w
    let low := lowFlow r w
    let leak := leaks s w
    let t := s.setMonitor { m with
      result := some w
      highCount := countUp high 2 m.highCount
      lowCount := countUp low 3 m.lowCount
      leakCount := countUp leak 3 m.leakCount }
    let t1 := if alarms low 3 m.lowCount then setFlag .lowFlow t else t
    let t2 := if alarms leak 3 m.leakCount then setFlag .leak t1 else t1
    if alarms high 2 m.highCount then raiseSupply (setFlag .supplyAlarm t2) else t2
  else s.setMonitor { m with result := some w, highCount := 0, lowCount := 0, leakCount := 0 }

/-- The next window starts (09 R158, R160 step 4). -/
def nextWindow (s : State) : State :=
  s.setMonitor { s.monitor with
    window := some { start := s.partTime, count := 0, calmStart := s.monitor.lastChange + 20 ≤ s.partTime,
                     changed := false } }

/-- The running window has lasted 10 s (09 R158). -/
def windowDue (s : State) : Bool :=
  match s.monitor.window with
  | some w => w.start + 10 ≤ s.partTime
  | none => false

/-- FLOW_WINDOW_END (09 R160). -/
def execFlowWindowEnd (s : State) : Host.Outcome State Fault Refusal :=
  .next
    (match s.monitor.window with
     | some w => if w.start + 10 ≤ s.partTime then complete (nextWindow (judgeWindow (windowResult s w) s)) else s
     | none => s)

end Sys2Proof.Machine
end

