-- ==== Sys2Proof/Machine/LineEvents.lean ====
section
/-! DEFINITION. Meanings of the events of the field line: CYCLE_MARK, POLL_PART_START, POLL_SLOT_START,
COMMAND_SLOT_START, POLL_OUTCOME, COMMAND_OUTCOME, PASS_OUTCOME, ECHO_MISMATCH, STEP_END (01 R3 to R18, 02 R23). An event
whose condition does not stand has not occurred and changes nothing (log 1); the sender of these events asserts that the
bit times before them have passed (log 4, 5). -/

namespace Sys2Proof.Machine

/-- No transaction is in progress. -/
def lineQuiet (s : State) : Bool := !s.seq.tx.inTransaction

/-- A mark may be sent: the sequencer marks, no transaction is in progress, and a STEP has sent none yet (01 R3, 02
R23). -/
def markReady (s : State) : Bool :=
  s.seq.state.marking && lineQuiet s && (s.seq.state != .step || s.seq.phase == .noCycle)

/-- The swap sweep at a mark about to be sent (10 R173). -/
def sweepAtMark (s : State) : State := settle (s.setWork { s.work with sweep := true, mark := true })

/-- CYCLE_MARK: the sweep, then the mark that opens the cycle, if the sequencer still marks (01 R3, 10 R173). -/
def execCycleMark (s : State) : Host.Outcome State Fault Refusal :=
  .next
    (if markReady s then
       let t := sweepAtMark (settleMark s)
       complete (if t.seq.state.marking then openCycle (clearAttempted t) else t)
     else s)

/-- POLL_PART_START: the mark's echo is judged good unless a mismatch was reported (01 R4, R9). -/
def execPollPartStart (s : State) : Host.Outcome State Fault Refusal :=
  .next
    (if s.seq.state.marking = true ∧ s.seq.phase = .marked ∧ lineQuiet s = true then
       complete (beginPolls (settleMark s))
     else s)

/-- POLL_SLOT_START: the next poll goes out (01 R6). -/
def execPollSlotStart (s : State) : Host.Outcome State Fault Refusal :=
  .next
    (if s.seq.state.marking = true ∧ s.seq.phase = .polling ∧ s.seq.tx = .idle then
       match s.seq.toPoll with
       | [] => s
       | n :: rest => complete (beginPollSlot n rest s)
     else s)

/-- A command slot may begin: the poll part is over and at least 200 bit times remain (01 R5). -/
def commandSlotDue (s : State) : Bool :=
  s.seq.state.marking && s.seq.tx == .idle &&
  ((s.seq.phase == .polling && s.seq.toPoll.isEmpty) || s.seq.phase == .commands) && 200 ≤ remaining s

/-- COMMAND_SLOT_START: the arbiter picks the slot's occupant (01 R5, R16). -/
def execCommandSlotStart (s : State) : Host.Outcome State Fault Refusal :=
  .next (if commandSlotDue s then complete (beginCommandSlot s) else s)

/-- POLL_OUTCOME: the poll in progress ends with a reply or none (03 R38). -/
def execPollOutcome (r : Reply) (s : State) : Host.Outcome State Fault Refusal :=
  .next
    (match s.seq.tx with
     | .poll n a =>
       let t := echoGood (s.setSeq { s.seq with tx := .idle })
       complete (payClearing s.seq.tx (pollDelivered n a (acceptReport a (singleSlot 30 s.seq.replyWindow) r) t))
     | .idle | .mark | .command _ _ _ _ _ | .pass _ => s)

/-- COMMAND_OUTCOME: the SET_OUTPUT in progress ends answered or not (01 R17). -/
def execCommandOutcome (r : Reply) (s : State) : Host.Outcome State Fault Refusal :=
  .next
    (match s.seq.tx with
     | .command v k a o d =>
       complete (payClearing s.seq.tx (commandEnds v k d (acceptAck a o k (singleSlot 40 s.seq.replyWindow) r) s))
     | .idle | .mark | .poll _ _ | .pass _ => s)

/-- PASS_OUTCOME: the PASS in progress ends (01 R18). -/
def execPassOutcome (r : Reply) (s : State) : Host.Outcome State Fault Refusal :=
  .next
    (match s.seq.tx with
     | .pass a =>
       complete (payClearing s.seq.tx (passEnds a
         (acceptPassAnswer a (doubleSlot (frameTime s.seq.ltx) s.seq.replyWindow) r) s))
     | .idle | .mark | .poll _ _ | .command _ _ _ _ _ => s)

/-- ECHO_MISMATCH: a byte of the transmission in progress reads back different (01 R9, 02 R27). -/
def execEchoMismatch (s : State) : Host.Outcome State Fault Refusal :=
  .next (if s.seq.tx = .idle then s else complete (payClearing s.seq.tx (countMismatch (abandonTx s))))

/-- STEP_END: the cycle of a STEP has run its L bit times (02 R23). -/
def execStepEnd (s : State) : Host.Outcome State Fault Refusal :=
  .next
    (if s.seq.state = .step ∧ s.seq.phase ≠ .noCycle ∧ lineQuiet s = true then complete (enterStopped s) else s)

end Sys2Proof.Machine
end

