-- ==== Sys2Proof/Machine/LineRequests.lean ====
section
/-! DEFINITION. Meanings of the requests that act on the line: SEQ_RUN, SEQ_STOP, SEQ_STEP, LINE_RESTORE (02 R22 to
R26) and PASS (01 R18). -/

namespace Sys2Proof.Machine

/-- A request without a body. -/
def noBody (n : Nat) : Bool := n == 0

/-- The rule of SEQ_RUN (02 R22). -/
def seqRunRule (_ : List Byte) (s : State) : Ruling :=
  match s.seq.state with
  | .stopped | .halted => accept (enterRunning 0 s)
  | .running | .step | .stopping => accept s
  | .lineOff => accept (s.setSeq { s.seq with resume := .running })
  | .lockedOut => refuse .refusedState s

/-- SEQ_RUN (02 R22). -/
def execSeqRun (body : List Byte) (s : State) : Host.Outcome State Fault Refusal :=
  .next (takeRequest 0x05 noBody seqRunRule body s)

/-- The rule of SEQ_STOP (02 R24). -/
def seqStopRule (_ : List Byte) (s : State) : Ruling :=
  match s.seq.state with
  | .running => accept (enterStopping s)
  | .step | .stopping | .stopped => accept s
  | .halted => accept (quiet .stopped s)
  | .lineOff => accept (s.setSeq { s.seq with resume := .stopped })
  | .lockedOut => refuse .refusedState s

/-- SEQ_STOP (02 R24). -/
def execSeqStop (body : List Byte) (s : State) : Host.Outcome State Fault Refusal :=
  .next (takeRequest 0x06 noBody seqStopRule body s)

/-- The rule of SEQ_STEP (02 R23). -/
def seqStepRule (_ : List Byte) (s : State) : Ruling :=
  match s.seq.state with
  | .stopped => accept (enterStep s)
  | .running | .step | .stopping | .halted | .lineOff | .lockedOut => refuse .refusedState s

/-- SEQ_STEP (02 R23). -/
def execSeqStep (body : List Byte) (s : State) : Host.Outcome State Fault Refusal :=
  .next (takeRequest 0x07 noBody seqStepRule body s)

/-- The rule of LINE_RESTORE (02 R26). -/
def lineRestoreRule (_ : List Byte) (s : State) : Ruling :=
  match s.seq.state with
  | .lockedOut => accept (restoreLine s)
  | .stopped | .running | .step | .stopping | .halted | .lineOff => refuse .refusedState s

/-- LINE_RESTORE (02 R26). -/
def execLineRestore (body : List Byte) (s : State) : Host.Outcome State Fault Refusal :=
  .next (takeRequest 0x08 noBody lineRestoreRule body s)

/-- The rule of PASS: address and 0 to 6 bytes (01 R18). -/
def passRule (body : List Byte) (s : State) : Ruling :=
  let a := get1 body 0
  if a < 1 ∨ 250 < a then refuse .badValue s
  else if s.seq.state.marking = false then refuse .refusedState s
  else if 16 ≤ s.lcq.fifo.length then refuse .busy s
  else accept (setFifo (s.lcq.fifo ++ [.pass (byteOf a) (body.drop 1) false]) s)

/-- A BODY of PASS: an address and at most 6 bytes (12.3). -/
def passLength (n : Nat) : Bool := 1 ≤ n && n ≤ 7

/-- A PASS waits at the head while 16 PASS entries are outstanding (11 R182). -/
def passWaits (s : State) : Bool := 16 ≤ passesQueued s + s.hub.passWait.length

/-- PASS (01 R18, 11 R182): a request whose body length is allowed waits at the head of the queue while 16 are
outstanding. -/
def execPass (body : List Byte) (s : State) : Host.Outcome State Fault Refusal :=
  .next
    (if passLength body.length && passWaits s then
       (if canTake { kind := 0x17, body := body } s then atHead { kind := 0x17, body := body } s else s)
     else takeRequest 0x17 passLength passRule body s)

end Sys2Proof.Machine
end

