-- ==== Sys2Proof/Machine/PartRequests.lean ====
section
/-! DEFINITION. Meanings of the requests of the Lock Unit, the Notice Unit and the Port: LOCK_SET, LOCK_CLEAR (08
R146), STATUS (11 R189), FLAGS_CLEAR (11 R187), NOTICE_MASK (11 R188), RESET_PART (11 R190) and a kind that is no
request (11 R182). -/

namespace Sys2Proof.Machine

/-- The HUB condition set, and the effective lock answered (08 R146). -/
def lockRule (active : Bool) (_ : List Byte) (s : State) : Ruling :=
  { state := setCondition .hub active s, result := .ok, body := lockBytes }

/-- LOCK_SET (08 R146). -/
def execLockSet (body : List Byte) (s : State) : Host.Outcome State Fault Refusal :=
  .next (takeRequest 0x12 (fun n => n == 0) (lockRule true) body s)

/-- LOCK_CLEAR (08 R146). -/
def execLockClear (body : List Byte) (s : State) : Host.Outcome State Fault Refusal :=
  .next (takeRequest 0x13 (fun n => n == 0) (lockRule false) body s)

/-- The rule of STATUS (11 R189). -/
def statusRule (_ : List Byte) (s : State) : Ruling := { state := s, result := .ok, body := statusRecord }

/-- STATUS (11 R189). -/
def execStatus (body : List Byte) (s : State) : Host.Outcome State Fault Refusal :=
  .next (takeRequest 0x14 (fun n => n == 0) statusRule body s)

/-- The set of flags that a four-byte field names (12 R193). -/
def flagSet (body : List Byte) : BitVec 32 := BitVec.ofNat 32 (get4 body 0)

/-- The named flags are cleared (11 R187). -/
def clearFlags (set : BitVec 32) (s : State) : State :=
  { s with notice := { s.notice with flags := s.notice.flags &&& ~~~set } }

/-- The change flags of all node entries are cleared (03 R40). -/
def clearChanges (s : State) : State :=
  { s with nodeLive := Vector.ofFn fun n => { s.nodeLive[n] with changed := false } }

/-- The fault-latched flags of all valves are cleared (07 R138). -/
def clearLatches (s : State) : State :=
  { s with valveLive := Vector.ofFn fun v => { s.valveLive[v] with latched := false } }

/-- The rule of FLAGS_CLEAR, with its three further effects (11 R187); the SUPPLY condition falls after the flags are
cleared (log 27). -/
def flagsClearRule (body : List Byte) (s : State) : Ruling :=
  let set := flagSet body
  if flagsOnly set = false then refuse .badValue s
  else
    let t := clearFlags set s
    let u := if namesFlag set .nodeChange then clearChanges t else t
    let w := if namesFlag set .valveFault then clearLatches u else u
    { state := if namesFlag set .supplyAlarm then setCondition .supply false w else w, result := .ok,
      body := fun t => put4 t.notice.flags.toNat }

/-- FLAGS_CLEAR (11 R187). -/
def execFlagsClear (body : List Byte) (s : State) : Host.Outcome State Fault Refusal :=
  .next (takeRequest 0x15 (fun n => n == 4) flagsClearRule body s)

/-- The rule of NOTICE_MASK (11 R188). -/
def noticeMaskRule (body : List Byte) (s : State) : Ruling :=
  if flagsOnly (flagSet body) = false then refuse .badValue s
  else
    { state := { s with notice := { s.notice with mask := flagSet body } }, result := .ok,
      body := fun t => put4 t.notice.mask.toNat }

/-- NOTICE_MASK (11 R188). -/
def execNoticeMask (body : List Byte) (s : State) : Host.Outcome State Fault Refusal :=
  .next (takeRequest 0x16 (fun n => n == 4) noticeMaskRule body s)

/-- The rule of RESET_PART: the reset is owed until the answer has left (11 R190). -/
def resetPartRule (_ : List Byte) (s : State) : Ruling :=
  match s.seq.state with
  | .stopped | .halted | .lockedOut => accept (s.setHub { s.hub with resetOwed := true })
  | .running | .step | .stopping | .lineOff => refuse .refusedState s

/-- RESET_PART (11 R190). -/
def execResetPart (body : List Byte) (s : State) : Host.Outcome State Fault Refusal :=
  .next (takeRequest 0x18 (fun n => n == 0) resetPartRule body s)

/-- A kind below 0x80 that is none of the 24 request codes is answered UNKNOWN_KIND (11 R182). -/
def execUnknownKind (kind : Byte) (body : List Byte) (s : State) : Host.Outcome State Fault Refusal :=
  .next
    (if 0x18 < kind.toNat ∧ kind.toNat < 0x80 ∨ kind = 0 then
       takeRequest kind (fun _ => true) (fun _ t => refuse .unknownKind t) body s
     else s)

end Sys2Proof.Machine
end

