-- ==== Sys2Proof/Machine/TableRequests.lean ====
section
/-! DEFINITION. Meanings of the table requests: LOAD, READ, UPDATE, DISCARD (10 R164 to R177). -/

namespace Sys2Proof.Machine

/-- The rule of LOAD: table, index, record (10 R165). -/
def loadRule (body : List Byte) (s : State) : Ruling :=
  match tableSize (get1 body 0) with
  | none => refuse .badValue s
  | some _ =>
    match slotOf (get1 body 0) (get1 body 1) with
    | none => refuse .badIndex s
    | some x =>
      if (body.drop 2).length ≠ recordLength x then refuse .badValue s
      else
        match loadRecord x (body.drop 2) s with
        | none => refuse .badValue s
        | some t => if slotDue s x then refuse .busy s else accept t

/-- LOAD (10 R165). -/
def execLoad (body : List Byte) (s : State) : Host.Outcome State Fault Refusal :=
  .next (takeRequest 0x01 (fun n => 2 ≤ n) loadRule body s)

/-- The rule of READ: table, index, copy (10 R167); a copy code not listed is BAD_VALUE (11 R182). That the copy code is
judged last, so that a bad index beside it gives BAD_INDEX, is a DESIGN CHOICE (log 35). -/
def readRule (body : List Byte) (s : State) : Ruling :=
  match tableSize (get1 body 0) with
  | none => refuse .badValue s
  | some _ =>
    match slotOf (get1 body 0) (get1 body 1) with
    | none => refuse .badIndex s
    | some x =>
      let head := fun (t : State) =>
        put1 x.table ++ put1 x.index ++ putMark (slotPending t x) ++ putMark (slotDue t x)
      if get1 body 2 = 0 then
        { state := s, result := .ok, body := fun t => head t ++ activeBytes t x ++ livePart t x }
      else if get1 body 2 = 1 then
        match pendingBytes s x with
        | none => refuse .notFound s
        | some bs => { state := s, result := .ok, body := fun t => head t ++ bs }
      else refuse .badValue s

/-- READ (10 R167). -/
def execRead (body : List Byte) (s : State) : Host.Outcome State Fault Refusal :=
  .next (takeRequest 0x02 (fun n => n == 3) readRule body s)

/-- The entries of the tables that a code names; none for a code that is neither a table nor ALL (10 R168, R169). -/
def namedSlots (code : Nat) : Option (List Slot) :=
  if code = 0xFF then some allSlots
  else (tableSize code).map fun _ => allSlots.filter fun x => x.table == code

/-- Entries become SWAP_DUE (10 R169). -/
def markAll (xs : List Slot) (s : State) : State := xs.foldl (fun t x => markDue x t) s

/-- The first sweep of an accepted UPDATE, up to the head that waits (10 R169, R173). -/
def firstSweep : Nat → State → State
  | 0, s => s
  | fuel + 1, s =>
    match readyHead s with
    | some x => firstSweep fuel (swapSlot x s)
    | none => s

/-- The rule of UPDATE: table or ALL (10 R169). -/
def updateRule (body : List Byte) (s : State) : Ruling :=
  match namedSlots (get1 body 0) with
  | none => refuse .badValue s
  | some xs =>
    if (headDue s).isSome then refuse .busy s
    else
      let taken := xs.filter (slotPending s)
      match firstFailure taken s with
      | some x => { state := s, result := .badRef, body := fun _ => put1 x.table ++ put1 x.index }
      | none =>
        if taken.isEmpty then { state := s, result := .ok, body := fun _ => [0, 0] }
        else
          let t := firstSweep 145 (oweSweep (markAll taken s))
          { state := t, result := .ok, body := fun _ => put1 taken.length ++ put1 (dueCount t) }

/-- UPDATE (10 R169). -/
def execUpdate (body : List Byte) (s : State) : Host.Outcome State Fault Refusal :=
  .next (takeRequest 0x03 (fun n => n == 1) updateRule body s)

/-- The rule of DISCARD: table or ALL (10 R168). -/
def discardRule (body : List Byte) (s : State) : Ruling :=
  match namedSlots (get1 body 0) with
  | none => refuse .badValue s
  | some xs =>
    let cleared := xs.filter fun x => slotPending s x && !slotDue s x
    { state := cleared.foldl (fun t x => discardSlot x t) s, result := .ok, body := fun _ => put1 cleared.length }

/-- DISCARD (10 R168). -/
def execDiscard (body : List Byte) (s : State) : Host.Outcome State Fault Refusal :=
  .next (takeRequest 0x04 (fun n => n == 1) discardRule body s)

end Sys2Proof.Machine
end

