-- ==== Sys2Proof/Machine/Dispatch.lean ====
section
/-! DEFINITION. The meaning of each command, one arm per constructor. -/

namespace Sys2Proof.Machine

def exec (i : Instr) (s : State) : Host.Outcome State Fault Refusal :=
  match i with
  | .powerOnReset => Sys2Proof.Machine.execPowerOnReset s
  | .receiveFrame last => Sys2Proof.Machine.execReceiveFrame last s
  | .frameGapTimeout => Sys2Proof.Machine.execFrameGapTimeout s
  | .breakBegin => Sys2Proof.Machine.execBreakBegin s
  | .breakEnd => Sys2Proof.Machine.execBreakEnd s
  | .load body => Sys2Proof.Machine.execLoad body s
  | .read body => Sys2Proof.Machine.execRead body s
  | .update body => Sys2Proof.Machine.execUpdate body s
  | .discard body => Sys2Proof.Machine.execDiscard body s
  | .seqRun body => Sys2Proof.Machine.execSeqRun body s
  | .seqStop body => Sys2Proof.Machine.execSeqStop body s
  | .seqStep body => Sys2Proof.Machine.execSeqStep body s
  | .lineRestore body => Sys2Proof.Machine.execLineRestore body s
  | .timeSet body => Sys2Proof.Machine.execTimeSet body s
  | .timeRead body => Sys2Proof.Machine.execTimeRead body s
  | .runStart body => Sys2Proof.Machine.execRunStart body s
  | .runStop body => Sys2Proof.Machine.execRunStop body s
  | .runStopAll body => Sys2Proof.Machine.execRunStopAll body s
  | .runAdjust body => Sys2Proof.Machine.execRunAdjust body s
  | .runList body => Sys2Proof.Machine.execRunList body s
  | .bedState body => Sys2Proof.Machine.execBedState body s
  | .valveMode body => Sys2Proof.Machine.execValveMode body s
  | .lockSet body => Sys2Proof.Machine.execLockSet body s
  | .lockClear body => Sys2Proof.Machine.execLockClear body s
  | .status body => Sys2Proof.Machine.execStatus body s
  | .flagsClear body => Sys2Proof.Machine.execFlagsClear body s
  | .noticeMask body => Sys2Proof.Machine.execNoticeMask body s
  | .pass body => Sys2Proof.Machine.execPass body s
  | .resetPart body => Sys2Proof.Machine.execResetPart body s
  | .unknownKind kind body => Sys2Proof.Machine.execUnknownKind kind body s
  | .answerEnd => Sys2Proof.Machine.execAnswerEnd s
  | .upstreamFrameEnd => Sys2Proof.Machine.execUpstreamFrameEnd s
  | .cycleMark => Sys2Proof.Machine.execCycleMark s
  | .pollPartStart => Sys2Proof.Machine.execPollPartStart s
  | .pollSlotStart => Sys2Proof.Machine.execPollSlotStart s
  | .commandSlotStart => Sys2Proof.Machine.execCommandSlotStart s
  | .pollOutcome reply => Sys2Proof.Machine.execPollOutcome reply s
  | .commandOutcome reply => Sys2Proof.Machine.execCommandOutcome reply s
  | .passOutcome reply => Sys2Proof.Machine.execPassOutcome reply s
  | .echoMismatch => Sys2Proof.Machine.execEchoMismatch s
  | .stepEnd => Sys2Proof.Machine.execStepEnd s
  | .overcurrent => Sys2Proof.Machine.execOvercurrent s
  | .backoffExpiry => Sys2Proof.Machine.execBackoffExpiry s
  | .beaconSilenceExpiry => Sys2Proof.Machine.execBeaconSilenceExpiry s
  | .pulseExpiry bed => Sys2Proof.Machine.execPulseExpiry bed s
  | .soakExpiry bed => Sys2Proof.Machine.execSoakExpiry bed s
  | .evaluationExpiry bed => Sys2Proof.Machine.execEvaluationExpiry bed s
  | .weatherStalenessExpiry => Sys2Proof.Machine.execWeatherStalenessExpiry s
  | .rainHoldExpiry => Sys2Proof.Machine.execRainHoldExpiry s
  | .inputLevelChange input level => Sys2Proof.Machine.execInputLevelChange input level s
  | .rainTip input => Sys2Proof.Machine.execRainTip input s
  | .contactStable input => Sys2Proof.Machine.execContactStable input s
  | .flowEdge input => Sys2Proof.Machine.execFlowEdge input s
  | .flowWindowEnd => Sys2Proof.Machine.execFlowWindowEnd s
  | .minuteTransition => Sys2Proof.Machine.execMinuteTransition s
  | .hubByteReceived byte err => Sys2Proof.Machine.execHubByteReceived byte err s
  | .sensedCurrentChange ma => Sys2Proof.Machine.execSensedCurrentChange ma s

end Sys2Proof.Machine
end

