-- ==== Sys2Proof/Decode.lean ====
section
/-! DEFINITION. From bits to commands. spec/opcode_table.json gives no bits for any row, so no word spells a command
(log 31); a request that stands in the request queue is read by its kind code (12.2). -/

namespace Sys2Proof

/-- The command that a word spells by the table's bits: the table gives bits for no row. -/
def decodeTableWord (_nbits _w : Nat) : Option Instr := none

/-- The command that takes a request frame, by its kind code (12.2). -/
def requestInstr (kind : Byte) (body : List Byte) : Instr :=
  match kind.toNat with
  | 0x01 => .load body
  | 0x02 => .read body
  | 0x03 => .update body
  | 0x04 => .discard body
  | 0x05 => .seqRun body
  | 0x06 => .seqStop body
  | 0x07 => .seqStep body
  | 0x08 => .lineRestore body
  | 0x09 => .timeSet body
  | 0x0A => .timeRead body
  | 0x0B => .runStart body
  | 0x0C => .runStop body
  | 0x0D => .runStopAll body
  | 0x0E => .runAdjust body
  | 0x0F => .runList body
  | 0x10 => .bedState body
  | 0x11 => .valveMode body
  | 0x12 => .lockSet body
  | 0x13 => .lockClear body
  | 0x14 => .status body
  | 0x15 => .flagsClear body
  | 0x16 => .noticeMask body
  | 0x17 => .pass body
  | 0x18 => .resetPart body
  | _ => .unknownKind kind body

end Sys2Proof
end

