-- ==== Sys2Proof/Machine/Time.lean ====
section
/-! DEFINITION. What the part does while no command waits (DESIGN CHOICE, log 2, 3): the arbiter sends, the head request
is taken, the timers that are due expire, and when nothing is due one second of part time passes. -/

namespace Sys2Proof.Machine

/-- The head request of the Port can be taken, and is not a PASS that waits (11 R182). -/
def headTakeable (s : State) : Option HubFrame :=
  match s.hub.requests with
  | [] => none
  | f :: _ =>
    if portFree s.hub && !(f.kind == 0x17 && passLength f.body.length && passWaits s) then some f else none

/-- A command in a list when its condition stands. -/
def raise (b : Bool) (c : Instr) : List Instr := if b then [c] else []

/-- The commands that are due at the present part time, in the order in which the model raises them (log 3). -/
def dueCommands (s : State) : List Instr :=
  (match headTakeable s with
   | some f => [requestInstr f.kind f.body]
   | none => []) ++
  raise (s.seq.state == .lineOff && due s s.mon.backoff) .backoffExpiry ++
  raise (due s s.beacon) .beaconSilenceExpiry ++
  (List.finRange 24).flatMap (fun b => raise (runDue s b .on) (.pulseExpiry b)) ++
  (List.finRange 24).flatMap (fun b => raise (runDue s b .soak) (.soakExpiry b)) ++
  (List.finRange 24).flatMap (fun b => raise (evaluationDue s b) (.evaluationExpiry b)) ++
  raise (staleDue s) .weatherStalenessExpiry ++
  raise (due s s.locks.rainHold) .rainHoldExpiry ++
  raise (contactDue s .a) (.contactStable ⟨.a, s.micros⟩) ++
  raise (contactDue s .b) (.contactStable ⟨.b, s.micros⟩) ++
  raise (windowDue s) .flowWindowEnd

/-- One second of part time passes, up to its start; where second 59 of a valid clock ends, the minute transition is due (06
R115, log 23). -/
def tick (s : State) : State :=
  let t := { s with partTime := s.partTime + 1, micros := 0 }
  if s.clock.valid then
    if s.clock.second < 59 then { t with clock := { s.clock with second := s.clock.second + 1 } }
    else { t with clock := { s.clock with turnDue := true }, pending := t.pending ++ [.minuteTransition] }
  else t

/-- The step of an empty command queue. -/
def idle (s : State) : State :=
  let t := arbitrate s
  match dueCommands t with
  | [] => tick t
  | cs => { t with pending := t.pending ++ cs }

end Sys2Proof.Machine
end

