-- ==== Sys2Proof/Safety.lean ====
section
/-! DEFINITION. What the manual calls the laws of the device, as predicates of one state: the terms in which a safe run is
judged. -/

namespace Sys2Proof.Machine

/-- 02 R20: LPWR is asserted in every state except LINE_OFF and LOCKED_OUT and deasserted in those two. -/
def PowerLaw (s : State) : Prop := s.lpwr = s.seq.state.powered

/-- 03 R37: a PRESENT node's miss count is below 3, and every miss count stays within 0..3. -/
def MissLaw (s : State) : Prop :=
  ∀ n : Fin 48, s.nodeLive[n].misses ≤ 3 ∧ (s.nodeLive[n].presence = .present → s.nodeLive[n].misses < 3)

/-- A bed record, used or not, within the ranges that the reading deficit of 05 R73 rests on: field-capacity wetness at
most 1000, holding capacity at most 2000, smoothing weight at most 8. -/
def BedRec.bounded (r : BedRec) : Prop := r.used = true → r.fieldCapacity ≤ 1000 ∧ r.holding ≤ 2000 ∧ r.smoothing ≤ 8

/-- 05 R71: every bed's deficit stays within 0..2000 and its estimate within 0..1000. -/
def BalanceLaw (s : State) : Prop :=
  ∀ b : Fin 24, ∀ l, s.bedLive[b] = some l → l.deficit ≤ 2000 ∧ l.estimate ≤ 1000

/-- Every bed record held, active or pending, is bounded (05 R68), and only a used bed has a live balance (05 R70). -/
def BedRecordsLaw (s : State) : Prop :=
  ∀ b : Fin 24, s.beds[b].active.bounded ∧ (∀ r, s.beds[b].pending = some r → r.bounded) ∧
    (s.bedLive[b].isSome = true → s.beds[b].active.used = true)

/-- 06 R93: at most one run record per bed. -/
def QueueLaw (s : State) : Prop := (s.runs.map (·.bed)).Nodup

/-- 06 R94: HUB runs stand at the front, AUTO runs behind them. -/
def SectionLaw (s : State) : Prop :=
  s.runs = (s.runs.filter fun r => r.origin == .hub) ++ (s.runs.filter fun r => r.origin != .hub)

/-- 06 R101: a run's done seconds never exceed its planned seconds; a pulse is in progress only while the run is
ON, and ends within them. -/
def SecondsLaw (s : State) : Prop :=
  ∀ r ∈ s.runs, r.delivered ≤ r.planned ∧
    ∀ t, r.pulseStart = some t → r.state = .on ∧ ∃ e, r.expiry = some e ∧ r.delivered + (e - t) ≤ r.planned

/-- 06 R99: the number of runs in ON never exceeds S_max. -/
def SlotLaw (s : State) : Prop := (bedsOn s).length ≤ s.supplyRec.active.maxSlots

/-- 06 R108: no run is in ON while the sequencer is in any state other than RUNNING, or while a lock with IMMEDIATE
timing is in force. -/
def OnLaw (s : State) : Prop :=
  ∀ r ∈ s.runs, r.state = .on →
    s.seq.state = .running ∧ ∀ m, s.locks.effective ≠ some (m, .immediate)

/-- 06 R95: an ON run owns its bed's valve, which is in mode AUTO and OPENING or OPEN. -/
def OwnerLaw (s : State) : Prop :=
  ∀ r ∈ s.runs, r.state = .on → ∃ v, valveOf s r.bed = some v ∧ s.valveLive[v].owner = some r.bed ∧
    s.valveLive[v].mode = .auto ∧ (s.valveLive[v].state = .opening ∨ s.valveLive[v].state = .opened)

/-- 06 R99: the nominal flows of the valves of the runs in ON never sum to more than Fcap. -/
def FlowLaw (s : State) : Prop :=
  ((bedsOn s).map fun b => match valveOf s b with
    | some v => flowOf s v
    | none => 0).sum ≤ s.supplyRec.active.flowCap

/-- 06 R95: an owned valve is owned by an ON run, and is the valve of that run's bed; so no run owns two. -/
def SoleOwnerLaw (s : State) : Prop :=
  ∀ (v : Fin 32) (b : Fin 24), s.valveLive[v].owner = some b →
    valveOf s b = some v ∧ ∃ r ∈ s.runs, r.bed = b ∧ r.state = .on

/-- A run's bed is used and has a valve (05 R83, 06 R109); a bed with a run is not swapped (10 R171). -/
def RunBedLaw (s : State) : Prop :=
  ∀ r ∈ s.runs, s.beds[r.bed].active.used = true ∧ (valveOf s r.bed).isSome = true

/-- 07 R123: a valve whose open waits in the FIFO is OPENING. -/
def OpenLaw (s : State) : Prop := ∀ v : Fin 32, (s.lcq.openMarks v).isSome = true → s.valveLive[v].state = .opening

/-- 07 R133, 01 R19: while marks are sent the beacon-silence timer is stopped and no clearing of the FIFO is owed. -/
def MarksLaw (s : State) : Prop := s.seq.state.marking = true → s.beacon = none ∧ s.lcq.clearOwed = false

/-- What marks stop left owed waits for the end of a transaction in progress, and an open in flight that is to be withdrawn at
its end belongs to a valve without owner (01 R19, log 13). -/
def WithdrawLaw (s : State) : Prop :=
  (s.lcq.clearOwed = true ∨ s.lcq.withdrawOwed = true → s.seq.tx.inTransaction = true) ∧
  (s.lcq.withdrawOwed = true → ∀ v a o, s.seq.tx = .command v .openValve a o false →
    (s.lcq.openMarks v).isSome = true → s.valveLive[v].owner = none)

/-- 07 R139: MV is asserted exactly under its conditions, so never while the SUPPLY lock is in force. -/
def MasterValveLaw (s : State) : Prop := s.mv = mvWanted s

/-- 01 R12: the FIFO never holds more than 16 entries. -/
def FifoLaw (s : State) : Prop := s.lcq.fifo.length ≤ 16

/-- 01 R12: a valve has at most one line command waiting, in the close set or in the FIFO. -/
def OneCommandLaw (s : State) : Prop :=
  ∀ v : Fin 32, (s.lcq.fifo.filter (FifoEntry.opens v)).length + (if s.lcq.closes[v].isSome then 1 else 0) ≤ 1

/-- 10 R170: the active tables pass the cross checks of UPDATE. -/
def TableLaw (s : State) : Prop := crossChecks s = true

/-- 10 R170: the active tables pass the cross checks, and so does every view that the swaps ahead bring, each SWAP_DUE
entry being a pending one. -/
def StagedLaw (s : State) : Prop :=
  TableLaw s ∧ (∀ x, slotDue s x = true → slotPending s x = true) ∧
  firstFailure (allSlots.filter (slotDue s)) s = none

/-- The laws of the device for ownership and for the budget (06 R95, R99, R108), with what keeps them. -/
def WateringLaw (s : State) : Prop :=
  (OwnerLaw s ∧ SoleOwnerLaw s ∧ SlotLaw s ∧ FlowLaw s) ∧
  QueueLaw s ∧ OnLaw s ∧ RunBedLaw s ∧ OneCommandLaw s ∧ OpenLaw s ∧ MarksLaw s ∧ WithdrawLaw s ∧ StagedLaw s

/-- 07 R121: the state is DETACHED exactly when the mode is DETACHED. -/
def DetachedLaw (s : State) : Prop :=
  ∀ v : Fin 32, s.valveLive[v].state = .detached ↔ s.valveLive[v].mode = .detached

/-- 08 R148: the effective lock is the one composed from the sources that are both enabled and active. -/
def LockLaw (s : State) : Prop := s.locks.effective = composeLock (termsInForce s)

/-- 03 R46, 11 R181, R184: the report FIFO holds at most 8 entries and the request queue at most 4. -/
def PortLaw (s : State) : Prop := s.hub.reports.length ≤ 8 ∧ s.hub.requests.length ≤ 4

/-- Some source that is enabled and active has this mode and this timing; SUPPLY is always enabled, with CANCEL and IMMEDIATE
(08 R142, R147, R148). -/
def InForce (s : State) (m : LockMode) (i : LockTiming) : Prop :=
  let source := fun (active : Bool) (r : LockRec) => active = true ∧ r.enabled = true ∧ r.mode = m ∧ r.timing = i
  let c := s.locks.cond
  source c.rainContact s.lockRecs[0].active ∨ source c.rainHold s.lockRecs[1].active ∨
  source c.freeze s.lockRecs[2].active ∨ source c.wind s.lockRecs[3].active ∨ source c.hub s.lockRecs[4].active ∨
  (c.supply = true ∧ m = .cancel ∧ i = .immediate)

/-- 08 R148, spelled: no lock is in force exactly when no source is enabled and active; otherwise the mode is CANCEL exactly
when the mode of one of them is, and the timing IMMEDIATE exactly when the timing of one of them is. -/
def LockComposed (s : State) : Prop :=
  (s.locks.effective = none ↔ ∀ m i, ¬ InForce s m i) ∧
  (∀ m i, s.locks.effective = some (m, i) →
    (m = .cancel ↔ ∃ i', InForce s .cancel i') ∧ (i = .immediate ↔ ∃ m', InForce s m' .immediate))

/-- 10 R170, spelled: the ten cross checks on the active tables of one view. -/
def TablesPass (s : State) : Prop :=
  let node := fun n : Fin 48 => s.nodes[n].active
  let bed := fun b : Fin 24 => s.beds[b].active
  let probes := fun (b : Fin 24) (n : Fin 48) => (bed b).used = true ∧ ((bed b).probeA = n.val ∨ (bed b).probeB = n.val)
  let waters := fun (b : Fin 24) (v : Fin 32) => (bed b).used = true ∧ (bed b).valve = v.val
  (∀ n m : Fin 48, (node n).kind ≠ .unused → (node m).kind ≠ .unused → (node n).address = (node m).address → n = m) ∧
  (∀ n m : Fin 48, (node n).kind = .weather → (node m).kind = .weather → n = m) ∧
  (∀ v : Fin 32, s.valves[v].active.used = true → ∃ n : Fin 48, s.valves[v].active.decoder = n.val ∧
    (node n).kind = .valveDecoder ∧ s.valves[v].active.output ≤ (node n).outputs) ∧
  (∀ b v, waters b v → s.valves[v].active.used = true) ∧
  (∀ b c v, waters b v → waters c v → b = c) ∧
  (∀ b n, probes b n → (node n).kind = .soilProbe) ∧
  (∀ b n, probes b n → ¬ ((bed b).probeA = n.val ∧ (bed b).probeB = n.val)) ∧
  (∀ b c n, probes b n → probes c n → b = c) ∧
  (∀ i : Fin 32, ∀ n ∈ s.polls[i].active.nodes, (node n).kind ≠ .unused) ∧
  (s.drying.active.bands.map (·.1)).Pairwise (· < ·)

/-- The view after some entries have been applied, one after another (10 R170). -/
def viewAfter (s : State) (xs : List Slot) : State := xs.foldl (fun u x => activate x u) s

/-- 10 R171, spelled: the swap condition of an entry outside a CYCLE_MARK that is about to be sent. Mark: no marks are sent;
valve settled; bed without run; supply quiet; none. -/
def SwapCondition (s : State) : Slot → Prop
  | .node _ | .poll _ | .line =>
      s.seq.state = .stopped ∨ s.seq.state = .halted ∨ s.seq.state = .lineOff ∨ s.seq.state = .lockedOut
  | .valve v => s.valveLive[v].owner = none ∧ (s.valveLive[v].state = .closed ∨ s.valveLive[v].state = .detached ∨
      s.valveLive[v].state = .fault ∧ s.valveLive[v].assumedOpen = false)
  | .bed b => ∀ r ∈ s.runs, r.bed ≠ b
  | .supply => (∀ r ∈ s.runs, r.state ≠ .on) ∧ ∀ v : Fin 32, s.valves[v].active.used = true →
      s.valveLive[v].state ≠ .opening ∧ s.valveLive[v].state ≠ .opened ∧ s.valveLive[v].state ≠ .closing
  | .weather | .drying | .lock _ => True

/-- 11 R182, R184: the PASSes in the FIFO and the PASS_REPLYs that wait are at most 16 together; a PASS in flight still has its
place in the FIFO, which it leaves as its reply is handed over. -/
def PassLaw (s : State) : Prop :=
  passesQueued s + s.hub.passWait.length ≤ 16 ∧
  ∀ a, s.seq.tx = .pass a → ∃ b d, FifoEntry.pass b d true ∈ s.lcq.fifo

/-- Between steps nothing is owed (the model's own field). -/
def WorkLaw (s : State) : Prop :=
  s.work = { pass := false, free := false, sweep := false, stop := false, mark := false }

/-! ## The terms in which claims about commands are stated -/

/-- The state between two steps: nothing is owed, and MV stands as its conditions say. -/
def Rested (s : State) : Prop := WorkLaw s ∧ MasterValveLaw s

/-- No entry of any table is SWAP_DUE: no staged update is in progress (10 R164). -/
def NoSwapDue (s : State) : Prop := ∀ x : Slot, slotDue s x = false

/-- A poll's transaction ends and the Node Table takes no outcome of it: a good echo, the end of what marks stop left owed, and
`choices` as the choice counter (log 36). -/
def PollEndsAlone (choices : Nat) (s t : State) : Prop :=
  t.nodeLive = s.nodeLive ∧ t.probes = s.probes ∧ t.weather = s.weather ∧ t.locks.handed = s.locks.handed ∧
  (Rested s → s.lcq.clearOwed = false →
    t = arbitrate { s with
      choice := choices
      lcq := { s.lcq with withdrawOwed := false }
      seq := { s.seq with tx := .idle, echoFailures := 0 } })

/-- The outcome of a poll sent to address `a`, lost as a free value says: its entry swapped to another address inside the poll's
slot (10 R171, log 36). -/
def PollLost (n : Fin 48) (a : Byte) (s t : State) : Prop :=
  byteOf s.nodes[n].active.address ≠ a ∧ PollEndsAlone (s.choice + 1) s t

/-- The answer being sent or waiting to be sent (11 R182). -/
def answerOf (s : State) : Option HubFrame :=
  match s.hub.htx with
  | .answer f => some f
  | .idle | .notice _ | .report _ => s.hub.answer

/-- The request of kind `kind` with body `body` stands at the head of the request queue, its answer (result `r`, then
`tail`) is ready, and the upstream arbiter has chosen (11 R182, R184); all else is as in `s`. -/
def answered (kind : Byte) (r : Result) (tail body : List Byte) (s : State) : State :=
  arbitrate (putAnswer kind r tail (atHead { kind := kind, body := body } s))

/-- `n` lies between two bounds, both included. -/
def Between (lo n hi : Nat) : Prop := lo ≤ n ∧ n ≤ hi

/-- The bytes of a record of the right length for the entry hold a value in range in every field that LOAD checks, and
keep the record's own relations (10 R166, by 03 R36, 03 R42, 07 R120, 05 R68, 06 R97, 09 R153, 01 R2, 02 R29, 04 R57, 08
R142; places by 12.4). -/
def RecordInRange (x : Slot) (bs : List Byte) : Prop :=
  let one := get1 bs
  let two := get2 bs
  match x with
  | .node _ => one 0 ≤ 4 ∧
    (one 0 ≠ 0 → Between 1 (one 1) 250 ∧ one 3 ≤ 2 ∧ (one 3 = 2 → 1 ≤ two 4) ∧ (one 0 = 1 → Between 1 (one 2) 2) ∧
      (one 0 = 2 → two 8 + 64 ≤ two 6))
  | .poll _ => one 0 ≤ 4 ∧ ∀ i, i < one 0 → one (i + 1) ≤ 47
  | .valve _ => one 0 ≤ 1 ∧ (one 0 = 1 → one 1 ≤ 47 ∧ Between 1 (one 2) 2 ∧ Between 1 (two 3) 1000)
  | .bed _ => one 0 ≤ 1 ∧
    (one 0 = 1 → one 1 ≤ 2 ∧ (one 2 ≤ 31 ∨ one 2 = 255) ∧ (one 3 ≤ 47 ∨ one 3 = 255) ∧ (one 4 ≤ 47 ∨ one 4 = 255) ∧
      Between 1 (two 5) 10000 ∧ Between 100 (two 7) 1000 ∧ Between 10 (two 9) 2000 ∧ Between 1 (one 11) 8 ∧
      one 12 ≤ 150 ∧ one 13 ≤ 100 ∧ two 14 ≤ 400 ∧ Between 1 (two 16) 2000 ∧ two 18 < two 16 ∧
      Between 10 (two 20) 600 ∧ Between 60 (two 22) 7200 ∧ two 20 ≤ two 22 ∧
      (two 24 = 0 ∨ Between 60 (two 24) 3600) ∧ Between 60 (two 26) 7200 ∧ two 28 ≤ 1439 ∧ two 30 ≤ 1439)
  | .supply => Between 1 (one 0) 4 ∧ Between 10 (two 1) 2000 ∧ one 3 ≤ 3 ∧ one 4 ≤ 3 ∧ Between 1 (two 5) 1000 ∧
    Between 10 (one 7) 200 ∧ Between 10 (one 8) 90 ∧ Between 1 (two 9) 2000 ∧ one 11 ≤ 1
  | .line => one 0 ≤ 127 ∧ Between 1 (one 1) 15 ∧ Between 8 (one 2) 40
  | .weather => one 0 ≤ 20 ∧ one 1 ≤ 2 ∧ Between 1 (one 2) 10
  | .drying => ∀ i, i < 8 → -400 ≤ signed16 (two (4 * i)) ∧ signed16 (two (4 * i)) ≤ 600 ∧ two (4 * i + 2) ≤ 400
  | .lock i => one 0 ≤ 1 ∧ one 1 ≤ 1 ∧ one 2 ≤ 1 ∧
    (i = 1 → Between 1 (two 3) 50 ∧ Between 10 (two 5) 2880) ∧
    (i = 2 → -400 ≤ signed16 (two 3) ∧ signed16 (two 3) ≤ 599 ∧ two 5 ≤ 100 ∧ signed16 (two 3) + two 5 ≤ 600) ∧
    (i = 3 → Between 1 (two 3) 600 ∧ two 5 ≤ 100 ∧ two 5 ≤ two 3)

/-- `bs` are the bytes received of a reply that begins in the window, from bit time `opens` of the slot up to, not
including, `closes`: as many as follow with at most 10 bit times of idle before each and are complete by the slot's end
(01 R1, R6). -/
def Heard (opens closes length : Nat) (reply : Reply) (bs : List Byte) : Prop :=
  ∃ (start : Nat) (b : Byte) (rest : List (Nat × Byte)) (k : Nat), reply = .frame ((start, b) :: rest) ∧
    opens ≤ start ∧ start < closes ∧ start + 10 ≤ length ∧ k ≤ rest.length ∧ bs = b :: (rest.take k).map (·.2) ∧
    let fits := fun i => ∀ x, rest[i]? = some x →
      x.1 ≤ 10 ∧ start + 10 + ((rest.take (i + 1)).map fun y => y.1 + 10).sum ≤ length
    (∀ i, i < k → fits i) ∧ (k < rest.length → ¬ fits k)

/-- A received frame begins with these bytes and the CRC over them; what follows is no part of it (01 R7, log 19). -/
def StartsWith (body bs : List Byte) : Prop := body ++ [crc8 body] <+: bs

/-- The reply to a POLL of `address`, with reply window `w`, brings a REPORT of kind `k` with this payload (01 R6 to R8,
12 R194). -/
def ReportHeard (address : Byte) (w : Nat) (reply : Reply) (k : NodeKind) (payload : List Byte) : Prop :=
  ∃ bs, Heard 30 (40 + w) 160 reply bs ∧ k ≠ .unused ∧
    payload.length = (match k with
      | .valveDecoder => 1 | .soilProbe => 2 | .weather => 6 | .other => 4 | .unused => 0) ∧
    StartsWith (byteOf (0x50 + k.code) :: address :: payload) bs

/-- The reply to a SET_OUTPUT is an OUTPUT_ACK of `address` that shows the output in the commanded state (01 R6 to R8, 12
R194). -/
def AckHeard (address : Byte) (output : Nat) (kind : CommandKind) (w : Nat) (reply : Reply) : Prop :=
  ∃ bs state, Heard 40 (40 + w) 160 reply bs ∧ StartsWith [0x60, address, state] bs ∧
    (state.toNat / 2 ^ (output - 1) % 2 = 1 ↔ kind = .openValve)

/-- The reply to a PASS to `address`, whose frame took `sent` bit times, is a PASS_ANSWER with these bytes (01 R6 to R8, 12
R194). -/
def PassAnswerHeard (address : Byte) (sent w : Nat) (reply : Reply) (data : List Byte) : Prop :=
  ∃ bs, Heard sent (90 + w) 320 reply bs ∧ data.length ≤ 6 ∧ StartsWith (byteOf (0x70 + data.length) :: address :: data) bs

/-- The reports on their way to the hub, in order: the one being sent, the report FIFO, the PASS_REPLYs that wait (11
R184). -/
def reportsHeld (s : State) : List HubFrame :=
  (match s.hub.htx with
   | .report f => [f]
   | .idle | .answer _ | .notice _ => []) ++ s.hub.reports ++ s.hub.passWait

/-- The PASS_REPLYs of LINE_DOWN for the PASSes among some FIFO entries (01 R19). -/
def lineDowns (es : List FifoEntry) : List HubFrame :=
  es.filterMap fun e => match e with
    | .openValve _ _ => none
    | .pass a _ _ => some { kind := 0xE2, body := [a, 2] }

/-- The FIFO of `s` has been cleared at marks stop in `t`: every PASS among `passes` is answered LINE_DOWN beside `frames`,
an OPENING valve that `opens` names is CLOSED when its open was never sent, and otherwise CLOSING with a close waiting, and
the closes that `closes` names are kept (01 R19, 07 R127). -/
def FifoCleared (passes : List FifoEntry) (frames : List HubFrame) (opens closes : Fin 32 → Prop) (s t : State) : Prop :=
  t.lcq.fifo = [] ∧ t.lcq.clearOwed = false ∧ t.lcq.withdrawOwed = false ∧
  (reportsHeld t).Perm (reportsHeld s ++ frames ++ lineDowns passes) ∧
  (∀ w m, opens w → s.valveLive[w].state = .opening → s.lcq.openMarks w = some m →
    (m.sent = false → t.valveLive[w] = { s.valveLive[w] with state := .closed, attempts := 0 }) ∧
    (m.sent = true → t.valveLive[w] = { s.valveLive[w] with state := .closing, attempts := 0 } ∧
      t.lcq.closes[w].isSome = true)) ∧
  (∀ w : Fin 32, closes w → s.lcq.closes[w].isSome = true → t.lcq.closes[w] = s.lcq.closes[w])

/-- `rate` is the drying rate that the bands, the wind factor, T and V give: the base rate of the first band whose bound is
at least T, or of the last, raised by the wind, at most 400 (04 R59). -/
def RateIs (bands : List (Int × Nat)) (factor : Nat) (temp : Int) (wind rate : Nat) : Prop :=
  let raised := fun base : Nat => min (base * (100 + factor * (wind / 10)) / 100) 400
  (∀ pre b post, bands = pre ++ b :: post → (∀ x ∈ pre, x.1 < temp) → temp ≤ b.1 → rate = raised b.2) ∧
  (∀ pre b, bands = pre ++ [b] → (∀ x ∈ pre, x.1 < temp) → rate = raised b.2)

/-- A valve between `s` and `t` whose decoder is lost, by MISSING or by a swap (07 R129, R131, R138): OPENING, OPEN and
CLOSING go FAULT without owner, with no command waiting, and assumed open unless an open never left the part; a FAULT one
keeps what is assumed and loses its waiting command; CLOSED and DETACHED stay. -/
def DecoderLost (v : Fin 32) (s t : State) : Prop :=
  let l := s.valveLive[v]
  let faulted := fun assumed : Bool =>
    t.valveLive[v] = { l with state := .fault, assumedOpen := assumed, attempts := 0, owner := none, latched := true } ∧
    commandWaits t v = false ∧ t.notice.isSet .valveFault = true ∧
    ∀ b, l.owner = some b → ∀ r ∈ t.runs, r.bed = b → r.state ≠ .on
  (l.state = .opening → faulted (flying s v .openValve || (match s.lcq.openMarks v with
    | some m => m.sent
    | none => false))) ∧
  (l.state = .opened ∨ l.state = .closing → faulted true) ∧
  (l.state = .fault → commandWaits t v = false ∧
    t.valveLive[v] = if commandWaits s v = true then { l with attempts := 0 } else l) ∧
  (l.state = .closed ∨ l.state = .detached → t.valveLive[v] = l)

/-- Commands one after another. -/
def execAll : List Instr → State → Option State
  | [], s => some s
  | c :: cs, s =>
    match exec c s with
    | .next t => execAll cs t
    | .fault _ => none
    | .refused _ => none

/-- The upstream arbiter's choice at an idle HTX without hold-off: the answer, otherwise a notice, otherwise the report
FIFO's head, whose place the oldest waiting PASS_REPLY takes at the tail (11 R184, R186). The chosen frame goes out as
START, LEN, KIND, BODY and CRC (11 R178, R180). -/
def Chooses (s t : State) : Prop :=
  match s.hub.answer, s.notice.pending, s.hub.reports with
  | some a, _, _ => t = { s with hub := { s.hub with htx := .answer a, wire := 0xD3 :: frameTail a, answer := none } }
  | none, true, _ => t = { s with hub := { s.hub with htx := .notice (noticeFrame s.notice),
                                                      wire := 0xD3 :: frameTail (noticeFrame s.notice) },
                                  notice := { s.notice with pending := false } }
  | none, false, f :: fs => t = { s with hub := { s.hub with
      htx := .report f, wire := 0xD3 :: frameTail f, reports := fs ++ s.hub.passWait.take 1
      passWait := s.hub.passWait.drop 1 } }
  | none, false, [] => t = s

/-- Which body lengths the layout of a request allows (12.3); for LOAD at least table and index. -/
def bodyLengthAllowed (kind n : Nat) : Bool :=
  match kind with
  | 0x01 => 2 ≤ n
  | 0x02 => n == 3
  | 0x03 | 0x04 | 0x0C | 0x0F | 0x10 => n == 1
  | 0x09 | 0x0B => n == 3
  | 0x0E => n == 5
  | 0x11 => n == 2
  | 0x15 | 0x16 => n == 4
  | 0x17 => 1 ≤ n && n ≤ 7
  | _ => n == 0

/-- A PASS_REPLY handed over: at the report FIFO's tail if it has room and none waits, otherwise at the tail of the
wait list (11 R184). -/
def PassReplyPlaced (f : HubFrame) (s t : State) : Prop :=
  t = { s with hub :=
    if s.hub.reports.length < 8 ∧ s.hub.passWait = [] then { s.hub with reports := s.hub.reports ++ [f] }
    else { s.hub with passWait := s.hub.passWait ++ [f] } }

/-- The request can be taken now: no answer is waiting or being sent, and it stands at the head of the request queue, or
arrives at an empty queue while no hold-off stands (11 R182, log 6). -/
def Takes (kind : Byte) (body : List Byte) (s : State) : Prop := canTake { kind := kind, body := body } s = true

/-- Every block at its power-on values at part time `now`, with a given week clock; the pins, the waiting commands and
the choice counter as in `s` (11 R190, R191, log 17). While no break holds it off the READY notice is being sent, otherwise
it is pending. -/
def ResetTo (now : Nat) (micros : Micros) (clock : Clock) (s t : State) : Prop :=
  let u := { State.reset with
    partTime := now
    micros := micros
    clock := clock
    mon := { State.reset.mon with
      sensed := s.mon.sensed, measureSince := if 500 < s.mon.sensed then some now else none }
    monitor := { State.reset.monitor with
      inputA := InputLive.fresh s.monitor.inputA.level now micros
      inputB := InputLive.fresh s.monitor.inputB.level now micros
      lastChange := now }
    hub := { State.reset.hub with holdOff := s.hub.holdOff }
    choice := s.choice
    pending := s.pending }
  if s.hub.holdOff = true then t = u
  else
    let ready : HubFrame := { kind := 0xE0, body := [1, 0, 0, 0, 1, 0, 0, 0] }
    t = { u with hub := { u.hub with htx := .notice ready, wire := 0xD3 :: frameTail ready }
                 notice := { u.notice with pending := false } }

/-- The nine loaded tables may differ between `s` and `t`; nothing else does. -/
def OnlyTablesChange (s t : State) : Prop :=
  t = { s with
    nodes := t.nodes, polls := t.polls, valves := t.valves, beds := t.beds, supplyRec := t.supplyRec
    lineRec := t.lineRec, weatherRec := t.weatherRec, drying := t.drying, lockRecs := t.lockRecs }

/-- `t` differs from `s` at most in runs, live valves and balances, waiting line commands and the detached tag of the
transaction in progress, the Supply Monitor, status flags and the notice, MV, the upstream half of the port and the
choice counter: all that a step may change which only waters, stops watering or moves valves. -/
def OnlyWaterChanges (s t : State) : Prop :=
  t = { s with
    runs := t.runs, valveLive := t.valveLive, bedLive := t.bedLive, lcq := t.lcq, monitor := t.monitor, mv := t.mv
    notice := t.notice, choice := t.choice, work := t.work
    seq := { s.seq with tx := t.seq.tx }
    hub := { s.hub with htx := t.hub.htx, wire := t.hub.wire, answer := t.hub.answer, requests := t.hub.requests,
                        reports := t.hub.reports, passWait := t.hub.passWait } }

/-- 05 R68, spelled: the watering window of a bed record is open at minute of day `m`. -/
def WindowOpen (r : BedRec) (m : Nat) : Prop :=
  r.windowStart = r.windowEnd ∨
  r.windowStart < r.windowEnd ∧ r.windowStart ≤ m ∧ m < r.windowEnd ∨
  r.windowEnd < r.windowStart ∧ (r.windowStart ≤ m ∨ m < r.windowEnd)

/-- 05 R83, spelled: a demand check of bed `b`, with live balance `l`, asks for a run in `s`. -/
def Asks (s : State) (b : Fin 24) (l : BedLive) : Prop :=
  let rec0 := s.beds[b].active
  rec0.used = true ∧ rec0.mode = 1 ∧
  (∃ v : Fin 32, rec0.valve = v.val ∧ s.valveLive[v].mode = .auto ∧ s.valveLive[v].state ≠ .fault) ∧
  s.clock.valid = true ∧ WindowOpen rec0 (s.clock.minute % 1440) ∧
  (∀ i, s.locks.effective ≠ some (.cancel, i)) ∧ (∀ r ∈ s.runs, r.bed ≠ b) ∧ rec0.startThreshold ≤ l.deficit

/-- 05 R84, R85, 06 R93: `q` is the AUTO run that a demand check of bed `b` makes in `s`, sized by the deficit of `l`, and
QUEUED or granted since. -/
def AskedRun (s : State) (b : Fin 24) (l : BedLive) (q : Run) : Prop :=
  let rec0 := s.beds[b].active
  let volume := min ((l.deficit - rec0.stopLevel) * rec0.area / 10) 65535
  (q.state = .queued ∨ q.state = .on) ∧ (∃ v : Fin 32, rec0.valve = v.val ∧
    q.planned = min (max ((volume * 60 + s.valves[v].active.flow - 1) / s.valves[v].active.flow) rec0.minRun) rec0.maxRun) ∧
  q = { bed := b, origin := .auto, state := q.state, planned := q.planned, delivered := 0, volume := volume
        pulseOn := rec0.pulseOn, soak := rec0.soak, plan := none, skips := q.skips
        reasons := { lock := false, line := false, valve := false }, stopAtPulseEnd := false
        pulseStart := none, expiry := none }

/-- Demand checks of the beds have been taken in `s`, in any order, with the live balances of `t`: behind the runs kept the queue
of `t` has one AUTO run for each bed that `asks` names, and for no other (05 R81 to R85, 06 R94). -/
def DemandsMade (asks : Fin 24 → BedLive → Prop) (kept : List (Fin 24)) (s t : State) : Prop :=
  ∃ added : List (Fin 24), t.runs.map (·.bed) = kept ++ added ∧ added.Nodup ∧
    ∀ b : Fin 24, (b ∈ added ↔ ∃ l, t.bedLive[b] = some l ∧ asks b l) ∧
      (b ∈ added → ∀ l, t.bedLive[b] = some l → ∃ q, findRun t b = some q ∧ AskedRun s b l q)

/-- The effective lock of `t` is the one composed in `t`, and its difference from that of `s` has acted: LOCK_CHANGE is
set; a rise to IMMEDIATE leaves no run ON, a rise to CANCEL none but ON runs; a fall that leaves a lock in force moves no run;
a lock that left force leaves no run HELD for LOCK, and a demand check has been taken for every used bed (08 R148 to
R150). -/
def LockMoved (s t : State) : Prop :=
  t.locks.effective = composeLock (termsInForce t) ∧
  (t.locks.effective ≠ s.locks.effective → t.notice.isSet .lockChange = true) ∧
  (∀ m i, t.locks.effective = some (m, i) → lockRises s.locks.effective (some (m, i)) = true →
    (i = .immediate → bedsOn t = []) ∧ (m = .cancel → ∀ r ∈ t.runs, r.state = .on)) ∧
  (t.locks.effective ≠ s.locks.effective → t.locks.effective ≠ none →
    lockRises s.locks.effective t.locks.effective = false → t.runs = s.runs) ∧
  (s.locks.effective ≠ none → t.locks.effective = none →
    (∀ r ∈ t.runs, r.state = .held → r.reasons.lock = false) ∧
    DemandsMade (Asks { s with locks := t.locks }) (s.runs.map (·.bed)) s t)

/-- The beds that `closed` names have no AUTO run but one that is ON and ends with its pulse (06 R118). -/
def ClosedWindowsStop (closed : Fin 24 → Prop) (t : State) : Prop :=
  ∀ b : Fin 24, t.beds[b].active.used = true → closed b →
    ∀ r ∈ t.runs, r.bed = b → r.origin = .auto → r.state = .on ∧ r.stopAtPulseEnd = true

/-- From `s` to `t` the clock has moved, the windows of the beds that `closed` names have closed, and the beds that `opened` names
have had their demand checks; every run in the queue keeps its place but AUTO runs of closed windows that were not ON (06
R117 to R119). -/
def WindowsJudged (opened closed : Fin 24 → Prop) (s t : State) : Prop :=
  ClosedWindowsStop closed t ∧
  ∃ kept : List (Fin 24), kept.Sublist (s.runs.map (·.bed)) ∧
    (∀ r ∈ s.runs, ¬ closed r.bed ∨ r.origin = .hub ∨ r.state = .on → r.bed ∈ kept) ∧
    DemandsMade (fun b l => opened b ∧ Asks { s with clock := t.clock } b l) kept s t

end Sys2Proof.Machine
end

