-- ==== Sys2Proof/Certificates/Slice0/Obligations.lean ====
section
/-! DEFINITION. The statements for the provers. `Rested` and `NoSwapDue` are premises about the state between two steps;
that a step keeps a state rested is stated with the law of MV below. -/

open Sys2Proof Sys2Proof.Machine

/-! ## The step -/

/-- The command at the front of the queue is run with the queue's rest. -/
def Obligations.StepRunsFrontCommand : Prop :=
  ∀ (c : Instr) (rest : List Instr) (s : State), s.pending = c :: rest → step s = exec c { s with pending := rest }

/-- The model's choice for an empty queue (log 2, 3): the arbiter sends, what is due is raised, otherwise one second
passes; where it ends second 59 of the week clock, the minute transition is due and waits (log 23). -/
def Obligations.IdleStepRaisesDueCommandsOrCountsOneSecond : Prop :=
  ∀ s : State, s.pending = [] →
    (dueCommands (arbitrate s) ≠ [] →
      step s = .next { arbitrate s with pending := dueCommands (arbitrate s) }) ∧
    (dueCommands (arbitrate s) = [] →
      step s = .next { arbitrate s with
        partTime := s.partTime + 1
        micros := 0
        clock := if s.clock.valid = false then s.clock
                 else if s.clock.second < 59 then { s.clock with second := s.clock.second + 1 }
                 else { s.clock with turnDue := true }
        pending := if s.clock.valid = true ∧ ¬ s.clock.second < 59 then [.minuteTransition] else [] })

/-- Every command completes, whatever the state; it leaves the queue of waiting commands alone, and part time too but
for a power-on reset. Both are the model's: that a command whose event's condition does not stand completes too, and changes
nothing (log 1), and that the waiting commands outlive POWER_ON_RESET (log 28). -/
def Obligations.EveryCommandAnswersNextAndKeepsQueueAndTime : Prop :=
  ∀ (c : Instr) (s : State), ∃ t, exec c s = .next t ∧ t.pending = s.pending ∧
    (c ≠ .powerOnReset → t.partTime = s.partTime)

/-! ## Resets -/

/-- 01 R2, 02 R20, 03 R36, 04 R57, 06 R93, R97, R115, 07 R121, 08 R141, R142, 09 R153, 11 R185, R186. -/
def Obligations.ResetHoldsTheSpecValues : Prop :=
  let s := State.reset
  s.partTime = 0 ∧ s.micros = 0 ∧
  s.seq.state = .stopped ∧ s.lpwr = true ∧ s.seq.cycle = 0 ∧ s.seq.echoFailures = 0 ∧ s.seq.resume = .stopped ∧
  s.seq.rollCount = 0 ∧ s.mon.faults = [] ∧ s.mon.backoff = none ∧
  s.lineRec.active = { trim := 64, trip := 10, replyWindow := 16 } ∧
  s.lcq.fifo = [] ∧ (∀ v : Fin 32, s.lcq.closes[v] = none) ∧
  (∀ n : Fin 48, s.nodes[n].active.kind = .unused ∧
    s.nodeLive[n] = { presence := .absent, misses := 0, changed := false, forwarded := none }) ∧
  s.rollPtr = 0 ∧ (∀ i : Fin 32, s.polls[i].active.nodes = []) ∧
  s.weather.status = .noNode ∧ s.weather.temperature = 0 ∧ s.weather.wind = 0 ∧ s.weather.rate = 0 ∧
  s.weather.reference = none ∧ s.weather.baseline = none ∧
  s.weatherRec.active = { windFactor := 0, source := .unused, tipSize := 2 } ∧
  s.drying.active.bands = [(-100, 0), (0, 0), (100, 0), (200, 0), (300, 0), (400, 0), (500, 0), (600, 0)] ∧
  (∀ b : Fin 24, s.beds[b].active.used = false ∧ s.bedLive[b] = none) ∧
  s.runs = [] ∧ s.mv = false ∧
  s.supplyRec.active = {
    maxSlots := 1, flowCap := 200, actionA := .unused, actionB := .unused, pulsesPerLitre := 450, overMargin := 30
    underMargin := 50, leakThreshold := 20, masterValve := false } ∧
  (∀ v : Fin 32, s.valves[v].active.used = false ∧ s.valveLive[v] =
    { state := .closed, mode := .auto, owner := none, assumedOpen := false, attempts := 0, latched := false }) ∧
  s.beacon = none ∧
  s.locks.cond = { rainContact := false, rainHold := false, freeze := false, wind := false, hub := false,
                   supply := false } ∧
  s.locks.rainHold = none ∧ s.locks.effective = none ∧ s.locks.handed = none ∧
  (∀ i : Fin 5, s.lockRecs[i].active.enabled = false ∧ s.lockRecs[i].active.mode = .pause ∧
    s.lockRecs[i].active.timing = .immediate ∧ s.lockRecs[i].active.terms = none) ∧
  s.lockRecs[1].active.first = 1 ∧ s.lockRecs[1].active.second = 120 ∧
  s.lockRecs[2].active.freezeThreshold = 20 ∧ s.lockRecs[2].active.second = 10 ∧
  s.lockRecs[3].active.first = 100 ∧ s.lockRecs[3].active.second = 20 ∧
  s.monitor.window = none ∧ s.monitor.result = none ∧ s.monitor.lastChange = 0 ∧
  s.monitor.highCount = 0 ∧ s.monitor.lowCount = 0 ∧ s.monitor.leakCount = 0 ∧
  s.clock = { valid := false, minute := 0, second := 0, turnDue := false } ∧
  s.hub.framer = .hunting ∧ s.hub.requests = [] ∧ s.hub.reports = [] ∧ s.hub.passWait = [] ∧
  (∀ f : Flag, s.notice.isSet f = decide (f = .ready)) ∧ s.notice.mask = Flag.ready.mask ∧ s.notice.pending = true ∧
  (∀ x : Slot, slotPending s x = false ∧ slotDue s x = false)

/-- Every law of the device that is stated below as kept by each step holds at reset. -/
def Obligations.LawsHoldAtReset : Prop :=
  let s := State.reset
  WorkLaw s ∧ MasterValveLaw s ∧ PowerLaw s ∧ MissLaw s ∧ FifoLaw s ∧ OneCommandLaw s ∧ PortLaw s ∧ QueueLaw s ∧
  SectionLaw s ∧ SecondsLaw s ∧ BedRecordsLaw s ∧ BalanceLaw s ∧ LockLaw s ∧ OnLaw s ∧ DetachedLaw s ∧ TableLaw s ∧
  PassLaw s ∧ WateringLaw s ∧ NoSwapDue s

/-- POWER_ON_RESET, RESET_PART and the ANSWER_END that lets an accepted RESET_PART take place (11 R190, R191): HTX is idle
then, so the READY notice goes out at once unless a break holds it off. The pins kept, the queue of waiting commands and the
choice counter are the model's choices (log 16, 17, 28). -/
def Obligations.ResetsReturnEveryBlockToItsPowerOnState : Prop :=
  (∀ s : State, ∃ t, exec .powerOnReset s = .next t ∧
    ResetTo 0 0 { valid := false, minute := 0, second := 0, turnDue := false } s t) ∧
  (∀ (f : HubFrame) (s : State), s.hub.htx = .answer f → s.hub.resetOwed = true →
    ∃ t, exec .answerEnd s = .next t ∧ ResetTo s.partTime s.micros s.clock s t) ∧
  (∀ s : State, Takes 0x18 [] s → Rested s →
    (s.seq.state = .stopped ∨ s.seq.state = .halted ∨ s.seq.state = .lockedOut →
      exec (.resetPart []) s = .next (answered 0x18 .ok [] [] (s.setHub { s.hub with resetOwed := true }))) ∧
    (s.seq.state = .running ∨ s.seq.state = .step ∨ s.seq.state = .stopping ∨ s.seq.state = .lineOff →
      exec (.resetPart []) s = .next (answered 0x18 .refusedState [] [] s)))

/-! ## The hub link -/

/-- Every frame the hub can form, sent byte by byte, comes out of the framer as the request it was: the request queue's
new tail, or dropped with LINK_OVERRUN when the queue is full, or discarded when it is no request (11 R178 to R181). -/
def Obligations.FrameSentByteByByteIsReadBack : Prop :=
  ∀ (f : HubFrame) (s : State), f.body.length ≤ 239 → s.hub.framer = .hunting → s.hub.holdOff = false →
    ∃ t, execAll ((0xD3 :: frameTail f).map fun b => .hubByteReceived b false) s = some t ∧
      t.hub.framer = .hunting ∧
      (0x80 ≤ f.kind.toNat → t.hub.requests = s.hub.requests) ∧
      (f.kind.toNat < 0x80 → s.hub.requests.length < 4 → t.hub.requests = s.hub.requests ++ [f]) ∧
      (f.kind.toNat < 0x80 → 4 ≤ s.hub.requests.length →
        t.hub.requests = s.hub.requests ∧ t.notice.isSet .linkOverrun = true)

/-- HUB_BYTE_RECEIVED before a frame's last byte, FRAME_GAP_TIMEOUT, a framing error and BREAK_BEGIN (11 R179, R183);
RECEIVE_FRAME: the last byte of a frame arrives and its CRC is judged, and a bad frame changes nothing but the framer (11
R179 to R181). -/
def Obligations.FramerFollowsItsTable : Prop :=
  (∀ s : State, s.hub.holdOff = false →
     (s.hub.framer = .hunting → ∀ b : Byte, Rested s →
       exec (.hubByteReceived b false) s = .next (arbitrate
         (s.setHub { s.hub with framer := if b = 0xD3 then .receiving [] else .hunting }))) ∧
     (s.hub.framer = .receiving [] → ∀ b : Byte, Rested s →
       exec (.hubByteReceived b false) s = .next (arbitrate
         (s.setHub { s.hub with framer := if 1 ≤ b.toNat ∧ b.toNat ≤ 240 then .receiving [b] else .hunting }))) ∧
     (∀ (n : Byte) (got : List Byte), s.hub.framer = .receiving (n :: got) → got.length + 2 < n.toNat + 3 →
       ∀ b : Byte, Rested s →
       exec (.hubByteReceived b false) s = .next (arbitrate
         (s.setHub { s.hub with framer := .receiving (n :: got ++ [b]) }))) ∧
     (∀ got : List Byte, s.hub.framer = .receiving got →
       (∀ b : Byte, exec (.hubByteReceived b true) s = .next (s.setHub { s.hub with framer := .hunting })) ∧
       exec .frameGapTimeout s = .next (s.setHub { s.hub with framer := .hunting })) ∧
     exec .breakBegin s = .next (s.setHub { s.hub with framer := .hunting, holdOff := true })) ∧
  (∀ (f : HubFrame) (last : Byte) (s : State), f.body.length ≤ 239 → s.hub.holdOff = false →
     s.hub.framer = .receiving (frameTail f).dropLast →
     ∃ t, exec (.receiveFrame last) s = .next t ∧ t.hub.framer = .hunting ∧
       (last = (frameTail f).getLastD 0 → 0x80 ≤ f.kind.toNat → t.hub.requests = s.hub.requests) ∧
       (last = (frameTail f).getLastD 0 → f.kind.toNat < 0x80 → s.hub.requests.length < 4 →
         t.hub.requests = s.hub.requests ++ [f]) ∧
       (last = (frameTail f).getLastD 0 → f.kind.toNat < 0x80 → 4 ≤ s.hub.requests.length →
         t.hub.requests = s.hub.requests ∧ t.notice.isSet .linkOverrun = true) ∧
       (last ≠ (frameTail f).getLastD 0 → Rested s →
         t = arbitrate (s.setHub { s.hub with framer := .hunting })))

/-- UPSTREAM_FRAME_END, BREAK_END and ANSWER_END: HTX becomes idle or hold-off ends, and the arbiter chooses, or waits
while hold-off stands (11 R182 to R184, R186). A notice becomes pending each time a flag of the mask goes from clear to set;
a flag outside the mask, or one already set, makes none pending (11 R186). -/
def Obligations.ArbiterChoosesInItsOrder : Prop :=
  (∀ (f : HubFrame) (s : State), s.hub.htx = .notice f ∨ s.hub.htx = .report f →
    (s.hub.holdOff = false →
      ∃ t, exec .upstreamFrameEnd s = .next t ∧ Chooses (s.setHub { s.hub with htx := .idle }) t) ∧
    (s.hub.holdOff = true → exec .upstreamFrameEnd s = .next (s.setHub { s.hub with htx := .idle }))) ∧
  (∀ s : State, s.hub.holdOff = true →
    (s.hub.htx = .idle → ∃ t, exec .breakEnd s = .next t ∧ Chooses (s.setHub { s.hub with holdOff := false }) t) ∧
    (s.hub.htx ≠ .idle → exec .breakEnd s = .next (s.setHub { s.hub with holdOff := false }))) ∧
  (∀ (f : HubFrame) (s : State), s.hub.htx = .answer f → s.hub.resetOwed = false →
    (s.hub.holdOff = false → ∃ t, exec .answerEnd s = .next t ∧
      Chooses (s.setHub { s.hub with htx := .idle, requests := s.hub.requests.tail }) t) ∧
    (s.hub.holdOff = true →
      exec .answerEnd s = .next (s.setHub { s.hub with htx := .idle, requests := s.hub.requests.tail }))) ∧
  (∀ (f : Flag) (s : State), let t := setFlag f s
    t = { s with notice := t.notice } ∧ t.notice.mask = s.notice.mask ∧
    (∀ g : Flag, t.notice.isSet g = true ↔ s.notice.isSet g = true ∨ g = f) ∧
    (t.notice.pending = true ↔ s.notice.pending = true ∨
      s.notice.isSet f = false ∧ s.notice.mask.getLsbD f.bit = true))

/-- Every request that is taken is answered with its kind plus 0x80 and a result code, and keeps its place at the head
of the queue until its answer has been sent; a PASS that waits is not taken (11 R181, R182). -/
def Obligations.EveryTakenRequestIsAnswered : Prop :=
  ∀ (kind : Byte) (body : List Byte) (s : State), kind.toNat < 0x80 → Takes kind body s →
    ¬ (kind = 0x17 ∧ bodyLengthAllowed 0x17 body.length = true ∧ 16 ≤ passesQueued s + s.hub.passWait.length) →
    ∃ (t : State) (r : Result) (tail : List Byte), exec (requestInstr kind body) s = .next t ∧
      answerOf t = some { kind := kind + 0x80, body := r.code :: tail } ∧
      t.hub.requests.head? = some { kind := kind, body := body }

/-- The Port's own checks: a wrong body length, a kind that is no request (UNKNOWN_KIND), and a PASS that finds 16
outstanding (11 R182). That the command of a request whose turn has not come changes nothing, and that a waiting PASS only
places itself at the head, are the model's choices (log 6, 33). -/
def Obligations.PortMakesItsOwnChecks : Prop :=
  ∀ (kind : Byte) (body : List Byte) (s : State),
    (1 ≤ kind.toNat → kind.toNat ≤ 0x18 → bodyLengthAllowed kind.toNat body.length = false → Takes kind body s →
      Rested s → exec (requestInstr kind body) s = .next (answered kind .badValue [] body s)) ∧
    (kind = 0 ∨ 0x18 < kind.toNat ∧ kind.toNat < 0x80 → Takes kind body s → Rested s →
      exec (.unknownKind kind body) s = .next (answered kind .unknownKind [] body s)) ∧
    (kind.toNat < 0x80 → ¬ Takes kind body s → exec (requestInstr kind body) s = .next s) ∧
    (1 ≤ body.length → body.length ≤ 7 → 16 ≤ passesQueued s + s.hub.passWait.length → Takes 0x17 body s →
      exec (.pass body) s = .next (atHead { kind := 0x17, body := body } s))

/-! ## Table loading and staged update -/

/-- LOAD, judged in the order of 10 R165: the first failing test gives the answer, and otherwise the record becomes the
entry's pending copy, byte for byte but for a poll entry's slots past its count, which are ignored and kept as 0xFF (12.4),
and nothing else changes. The ranges and relations are those of 10 R166, by bytes. -/
def Obligations.LoadIsJudgedInOrder : Prop :=
  ∀ (table index : Byte) (bs : List Byte) (s : State),
    let body := table :: index :: bs
    let kept := if table.toNat = 1 then bs.take (get1 bs 0 + 1) ++ List.replicate (4 - get1 bs 0) 0xFF else bs
    Takes 0x01 body s → Rested s →
    (tableSize table.toNat = none → exec (.load body) s = .next (answered 0x01 .badValue [] body s)) ∧
    (∀ n, tableSize table.toNat = some n → n ≤ index.toNat →
      exec (.load body) s = .next (answered 0x01 .badIndex [] body s)) ∧
    (∀ x : Slot, x.table = table.toNat → x.index = index.toNat →
      (bs.length ≠ recordLength x → exec (.load body) s = .next (answered 0x01 .badValue [] body s)) ∧
      (bs.length = recordLength x → ¬ RecordInRange x bs →
        exec (.load body) s = .next (answered 0x01 .badValue [] body s)) ∧
      (bs.length = recordLength x → RecordInRange x bs →
        (slotDue s x = true → exec (.load body) s = .next (answered 0x01 .busy [] body s)) ∧
        (slotDue s x = false →
          ∃ u, exec (.load body) s = .next (answered 0x01 .ok [] body u) ∧
            slotPending u x = true ∧ pendingBytes u x = some kept ∧ OnlyTablesChange s u ∧
            (∀ y, y ≠ x → pendingBytes u y = pendingBytes s y) ∧
            (∀ y, activeBytes u y = activeBytes s y ∧ slotDue u y = slotDue s y))))

/-- UPDATE, judged in the order of 10 R169. The accepted entries become SWAP_DUE and swap in swap order, each before those
behind it: none where the first must wait, at least the first where it need not, and every leading entry whose condition
holds whatever the swaps before it do; the answer counts those still due after the first sweep, and the last swap sets
UPDATE_DONE (10 R171 to R173, R176). The swap conditions are spelled. -/
def Obligations.UpdateIsJudgedInOrder : Prop :=
  ∀ (code : Byte) (s : State), Takes 0x03 [code] s → Rested s →
    (∀ z : Slot, slotReady s z = true ↔ SwapCondition s z) ∧
    (namedSlots code.toNat = none → exec (.update [code]) s = .next (answered 0x03 .badValue [] [code] s)) ∧
    (∀ xs, namedSlots code.toNat = some xs →
      (¬ NoSwapDue s → exec (.update [code]) s = .next (answered 0x03 .busy [] [code] s)) ∧
      (NoSwapDue s →
        (∀ x, firstFailure (xs.filter (slotPending s)) s = some x →
          exec (.update [code]) s = .next (answered 0x03 .badRef [byteOf x.table, byteOf x.index] [code] s)) ∧
        (xs.filter (slotPending s) = [] → exec (.update [code]) s = .next (answered 0x03 .ok [0, 0] [code] s)) ∧
        (∀ y ys, xs.filter (slotPending s) = y :: ys → firstFailure (y :: ys) s = none → slotReady s y = false →
          ∃ u, exec (.update [code]) s =
              .next (answered 0x03 .ok [byteOf (ys.length + 1), byteOf (ys.length + 1)] [code] u) ∧
            OnlyTablesChange s u ∧ headDue u = some y ∧
            (∀ z, slotDue u z = decide (z ∈ y :: ys)) ∧
            (∀ z, activeBytes u z = activeBytes s z ∧ pendingBytes u z = pendingBytes s z)) ∧
        (∀ y ys, xs.filter (slotPending s) = y :: ys → firstFailure (y :: ys) s = none →
          let taken := y :: ys
          let free := fun z : Slot => z = .weather ∨ z = .drying ∨ (∃ i, z = .lock i) ∨
            s.seq.state.marking = false ∧ (z = .line ∨ (∃ i, z = .node i) ∨ ∃ i, z = .poll i)
          ∃ (t : State) (first swapped : Nat), exec (.update [code]) s = .next t ∧
            answerOf t = some { kind := 0x83, body := [0, byteOf taken.length, byteOf (taken.length - first)] } ∧
            first ≤ swapped ∧ swapped ≤ taken.length ∧ (slotReady s y = true → 1 ≤ first) ∧
            (∀ i, i ≤ taken.length → (∀ z ∈ taken.take i, free z) → i ≤ first) ∧
            (∀ z, slotDue t z = decide (z ∈ taken.drop swapped)) ∧
            (∀ z ∈ taken.take swapped, pendingBytes t z = none ∧ pendingBytes s z = some (activeBytes t z)) ∧
            (∀ z, z ∉ taken.take swapped →
              activeBytes t z = activeBytes s z ∧ pendingBytes t z = pendingBytes s z) ∧
            (swapped = taken.length → t.notice.isSet .updateDone = true)) ∧
        (∀ r, xs.filter (slotPending s) = [.weather] → s.weatherRec.pending = some r → TableLaw s →
          ∃ t, exec (.update [code]) s = .next t ∧ answerOf t = some { kind := 0x83, body := [0, 1, 0] } ∧
            t.weatherRec = { active := r, pending := none, due := false } ∧ NoSwapDue t ∧
            t.notice.isSet .updateDone = true)))

/-- DISCARD (10 R168). -/
def Obligations.DiscardClearsPendingCopies : Prop :=
  ∀ (code : Byte) (s : State), Takes 0x04 [code] s → Rested s →
    (namedSlots code.toNat = none → exec (.discard [code]) s = .next (answered 0x04 .badValue [] [code] s)) ∧
    (∀ xs, namedSlots code.toNat = some xs →
      ∃ u, exec (.discard [code]) s = .next (answered 0x04 .ok
          [byteOf (xs.filter fun x => slotPending s x && !slotDue s x).length] [code] u) ∧
        OnlyTablesChange s u ∧
        (∀ x, pendingBytes u x = if x ∈ xs ∧ slotDue s x = false then none else pendingBytes s x) ∧
        (∀ x, activeBytes u x = activeBytes s x ∧ slotDue u x = slotDue s x))

/-- Loaded and read back: the bytes of a record that LOAD accepts are those that READ sends; of a poll entry, whose slots
past the count are ignored, the bytes sent are accepted as the same entry (10 R166, R167, 12.4). -/
def Obligations.RecordsReadBackAsLoaded : Prop :=
  ∀ bs : List Byte,
    (bs.length = 10 → ∀ r, NodeRec.parse bs = some r → r.bytes = bs) ∧
    (bs.length = 5 → ∀ r, PollRec.parse bs = some r → r.bytes.length = 5 ∧ PollRec.parse r.bytes = some r) ∧
    (bs.length = 5 → ∀ r, ValveRec.parse bs = some r → r.bytes = bs) ∧
    (bs.length = 32 → ∀ r, BedRec.parse bs = some r → r.bytes = bs) ∧
    (bs.length = 12 → ∀ r, SupplyRec.parse bs = some r → r.bytes = bs) ∧
    (bs.length = 3 → ∀ r, LineRec.parse bs = some r → r.bytes = bs) ∧
    (bs.length = 3 → ∀ r, WeatherRec.parse bs = some r → r.bytes = bs) ∧
    (bs.length = 32 → ∀ r, DryingRec.parse bs = some r → r.bytes = bs) ∧
    (bs.length = 7 → ∀ i r, LockRec.parse i bs = some r → r.bytes = bs)

/-! ## Sequencer and line power -/

/-- SEQ_RUN by the state it finds (02 R22): the first cycle's figures, marks start and RUNNING entered on entry to
RUNNING; the first mark itself is the next CYCLE_MARK command (log 5). -/
def Obligations.SeqRunActsByState : Prop :=
  ∀ s : State, Takes 0x05 [] s → Rested s →
    (s.seq.state = .stopped ∨ s.seq.state = .halted →
      ∃ t, exec (.seqRun []) s = .next t ∧ answerOf t = some { kind := 0x85, body := [0] } ∧
        t.seq.state = .running ∧ t.seq.echoFailures = 0 ∧ t.seq.position = 0 ∧ t.seq.phase = .noCycle ∧
        t.seq.rollCount = 0 ∧ t.seq.cycle = s.seq.cycle ∧ t.beacon = none ∧
        (QueueLaw s → ∀ r ∈ t.runs, r.state = .held → r.reasons.line = false) ∧
        (∀ f, s.notice.isSet f = true → t.notice.isSet f = true)) ∧
    (s.seq.state = .running ∨ s.seq.state = .step ∨ s.seq.state = .stopping →
      exec (.seqRun []) s = .next (answered 0x05 .ok [] [] s)) ∧
    (s.seq.state = .lineOff →
      exec (.seqRun []) s = .next (answered 0x05 .ok [] [] (s.setSeq { s.seq with resume := .running }))) ∧
    (s.seq.state = .lockedOut → exec (.seqRun []) s = .next (answered 0x05 .refusedState [] [] s))

/-- SEQ_STOP by the state it finds (02 R24, R25): from RUNNING no run stays ON, and the sequencer is STOPPING while some
AUTO valve is not settled, otherwise STOPPED with the beacon-silence timer started. -/
def Obligations.SeqStopActsByState : Prop :=
  ∀ s : State, Takes 0x06 [] s → Rested s →
    (s.seq.state = .running → NoSwapDue s →
      ∃ t, exec (.seqStop []) s = .next t ∧ answerOf t = some { kind := 0x86, body := [0] } ∧ bedsOn t = [] ∧
        (t.seq.state = .stopping ∧ fieldSettled t = false ∧ t.seq.cycle = s.seq.cycle ∧ t.beacon = s.beacon ∨
         t.seq.state = .stopped ∧ t.seq.phase = .noCycle ∧ t.beacon = some (s.partTime + 10))) ∧
    (s.seq.state = .step ∨ s.seq.state = .stopping ∨ s.seq.state = .stopped →
      exec (.seqStop []) s = .next (answered 0x06 .ok [] [] s)) ∧
    (s.seq.state = .halted → NoSwapDue s →
      exec (.seqStop []) s = .next (answered 0x06 .ok [] []
        (s.setSeq { s.seq with state := .stopped, phase := .noCycle, rollCount := 0, toPoll := [] }))) ∧
    (s.seq.state = .lineOff →
      exec (.seqStop []) s = .next (answered 0x06 .ok [] [] (s.setSeq { s.seq with resume := .stopped }))) ∧
    (s.seq.state = .lockedOut → exec (.seqStop []) s = .next (answered 0x06 .refusedState [] [] s))

/-- SEQ_STEP enters STEP from STOPPED alone; the first mark itself is the next CYCLE_MARK command (log 5). Where the stop left
no clearing of the FIFO owed it moves no run; an owed one is made at the start of marks (log 13), and its reports may reach
held runs. STEP_END, at the end of the step's one cycle, enters STOPPED with marks stop: the FIFO is cleared, its PASSes
answered LINE_DOWN, its opens withdrawn, the closes kept, and the beacon-silence timer starts (01 R19, 02 R23, 07 R133). -/
def Obligations.StepRunsOneCycle : Prop :=
  (∀ s : State, Takes 0x07 [] s → Rested s →
    (s.seq.state = .stopped →
      ∃ t, exec (.seqStep []) s = .next t ∧ answerOf t = some { kind := 0x87, body := [0] } ∧
        t.seq.state = .step ∧ t.seq.echoFailures = 0 ∧ t.seq.position = 0 ∧ t.seq.phase = .noCycle ∧
        t.seq.cycle = s.seq.cycle ∧ t.beacon = none ∧ (NoSwapDue s → s.lcq.clearOwed = false → t.runs = s.runs)) ∧
    (s.seq.state ≠ .stopped → exec (.seqStep []) s = .next (answered 0x07 .refusedState [] [] s))) ∧
  (∀ s : State, s.seq.state = .step → s.seq.phase ≠ .noCycle → s.seq.tx = .idle ∨ s.seq.tx = .mark → NoSwapDue s →
    ∃ t, exec .stepEnd s = .next t ∧ t.seq.state = .stopped ∧ t.seq.phase = .noCycle ∧ t.seq.tx = .idle ∧
      t.seq.cycle = s.seq.cycle ∧ t.beacon = some (s.partTime + 10) ∧
      FifoCleared s.lcq.fifo [] (fun _ => True) (fun _ => True) s t)

/-- LINE_RESTORE (02 R26). -/
def Obligations.LineRestoreActsInLockedOutOnly : Prop :=
  ∀ s : State, Takes 0x08 [] s → Rested s →
    (s.seq.state = .lockedOut → NoSwapDue s →
      exec (.lineRestore []) s = .next (answered 0x08 .ok [] []
        { s with
          lpwr := true
          mon := { s.mon with
            faults := [], backoff := none, swapEnded := none
            measureSince := if 50 * s.lineRec.active.trip < s.mon.sensed then some s.partTime else none }
          seq := { s.seq with state := .stopped, phase := .noCycle, rollCount := 0, toPoll := [] } })) ∧
    (s.seq.state ≠ .lockedOut → exec (.lineRestore []) s = .next (answered 0x08 .refusedState [] [] s))

/-- OVERCURRENT (02 R30 to R32): power is cut, the fault is listed, the state is LINE_OFF with a backoff of 30 s and a
resume target, or LOCKED_OUT on the third fault of the window; the queue is empty, every used node ABSENT, every used
valve but the detached ones CLOSED, and no run stays ON that was ON in RUNNING. The trip follows too where a line settings
swap of this moment ended the measure before it (10 R174, log 37). -/
def Obligations.OvercurrentCutsLinePower : Prop :=
  ∀ s : State, s.lpwr = true →
    s.mon.measureSince.isSome = true ∨ s.mon.swapEnded = some (s.partTime * 1000000 + s.micros.val) → NoSwapDue s →
    let faults := match s.mon.faults with
      | [] => [s.partTime]
      | f :: fs => if s.partTime - f < 600 then f :: fs ++ [s.partTime] else [s.partTime]
    ∃ t, exec .overcurrent s = .next t ∧ t.lpwr = false ∧ t.notice.isSet .lineFault = true ∧
      t.mon.faults = faults ∧ t.mon.measureSince = none ∧ t.mon.swapEnded = none ∧
      (faults.length < 3 → t.seq.state = .lineOff ∧ t.mon.backoff = some (s.partTime + 30) ∧
        (s.seq.state = .running → t.seq.resume = .running) ∧
        (s.seq.state = .step ∨ s.seq.state = .stopping ∨ s.seq.state = .stopped → t.seq.resume = .stopped) ∧
        (s.seq.state = .halted → t.seq.resume = .halted)) ∧
      (3 ≤ faults.length → t.seq.state = .lockedOut ∧ t.notice.isSet .lineLockout = true ∧
        t.mon.backoff = s.mon.backoff ∧ t.seq.resume = s.seq.resume) ∧
      t.seq.rollCount = 0 ∧ t.seq.echoFailures = s.seq.echoFailures ∧ t.seq.tx = .idle ∧ t.beacon = none ∧
      t.lcq.fifo = [] ∧ (∀ v : Fin 32, t.lcq.closes[v] = none) ∧
      (∀ n : Fin 48, s.nodes[n].active.used = true → t.nodeLive[n].presence = .absent ∧ t.nodeLive[n].misses = 0 ∧
        t.nodeLive[n].forwarded = none ∧
        (s.nodeLive[n].presence ≠ .absent → t.nodeLive[n].changed = true ∧ t.notice.isSet .nodeChange = true)) ∧
      (∀ v : Fin 32, s.valves[v].active.used = true → s.valveLive[v].mode ≠ .detached →
        t.valveLive[v].state = .closed ∧ t.valveLive[v].assumedOpen = false ∧ t.valveLive[v].attempts = 0) ∧
      (s.seq.state = .running → bedsOn t = [])

/-- BACKOFF_EXPIRY (02 R33, R34) and SENSED_CURRENT_CHANGE (02 R29). That a change of the current ends the memory of a measure
that a line settings swap of this moment ended, so that no OVERCURRENT follows from it, is DEDUCED (log 37). -/
def Obligations.PowerReturnsAndCurrentIsMeasured : Prop :=
  (∀ (e : Nat) (s : State), s.seq.state = .lineOff → s.mon.backoff = some e → e ≤ s.partTime → NoSwapDue s →
    ∃ t, exec .backoffExpiry s = .next t ∧ t.lpwr = true ∧ t.mon.backoff = none ∧ t.mon.faults = s.mon.faults ∧
      t.seq.cycle = s.seq.cycle ∧
      (s.seq.resume = .running → t.seq.state = .running ∧ t.seq.echoFailures = 0 ∧ t.seq.rollCount = 16 ∧
        t.seq.position = 0 ∧ t.beacon = none) ∧
      (s.seq.resume = .stopped → t.seq.state = .stopped ∧ t.seq.rollCount = 0) ∧
      (s.seq.resume = .halted → t.seq.state = .halted ∧ t.seq.rollCount = 0)) ∧
  (∀ (ma : Nat) (s : State),
    exec (.sensedCurrentChange ma) s = .next (s.setMon { s.mon with
      sensed := ma
      swapEnded := none
      measureSince :=
        if s.lpwr = true ∧ 50 * s.lineRec.active.trip < ma then
          (match s.mon.measureSince with
           | some t => some t
           | none => some s.partTime)
        else none }))

/-- BEACON_SILENCE_EXPIRY while no marks are sent (07 R133): every used valve but the detached ones is CLOSED, and no
valve command waits. -/
def Obligations.BeaconSilenceClosesTheField : Prop :=
  ∀ (e : Nat) (s : State), s.beacon = some e → e ≤ s.partTime → s.seq.state.marking = false → NoSwapDue s →
    ∃ t, exec .beaconSilenceExpiry s = .next t ∧ t.beacon = none ∧
      (∀ v : Fin 32, commandWaits t v = false) ∧
      (∀ v : Fin 32, s.valves[v].active.used = true → s.valveLive[v].mode ≠ .detached →
        t.valveLive[v].state = .closed ∧ t.valveLive[v].assumedOpen = false ∧ t.valveLive[v].attempts = 0 ∧
        t.valveLive[v].mode = s.valveLive[v].mode) ∧
      (∀ v : Fin 32, s.valves[v].active.used = false ∨ s.valveLive[v].mode = .detached →
        t.valveLive[v] = s.valveLive[v]) ∧
      t.seq.state = s.seq.state ∧ t.nodeLive = s.nodeLive

/-! ## The cycle -/

/-- CYCLE_MARK (01 R2, R3, 02 R34, 12 R194): the next cycle number, the mark on the line, L and W_r of the active line
settings, the roll-call judgement, and every attempted-this-cycle mark cleared. While an update is in progress the sweep comes
first: the leading SWAP_DUE entries of condition mark or none swap, and the cycle is the first to use them (10 R171, R173).
That a mark whose echo no mismatch was reported for is judged good here, which sets the echo-failure count to 0, is DEDUCED
(log 21). -/
def Obligations.CycleMarkOpensTheNextCycle : Prop :=
  ∀ s : State, s.seq.state = .running ∨ s.seq.state = .stopping ∨ (s.seq.state = .step ∧ s.seq.phase = .noCycle) →
    s.seq.tx = .idle ∨ s.seq.tx = .mark → Rested s →
    let next := if s.seq.cycle % 1024 = 1023 then 0 else s.seq.cycle % 1024 + 1
    (∀ first : List Slot, first <+: allSlots.filter (slotDue s) →
      (∀ z ∈ first, (∃ n, z = .node n) ∨ (∃ i, z = .poll i) ∨ z = .line ∨ z = .weather ∨ z = .drying ∨ ∃ i, z = .lock i) →
      ∃ t, exec .cycleMark s = .next t ∧
        (∀ z ∈ first, slotDue t z = false ∧ pendingBytes t z = none ∧
          ∀ bs, pendingBytes s z = some bs → activeBytes t z = bs) ∧
        (t.seq.state.marking = true → t.seq.tx = .mark ∧ t.seq.phase = .marked ∧ t.seq.cycle = next ∧
          t.seq.cycleLength = 1936 + t.lineRec.active.trim ∧ t.seq.replyWindow = t.lineRec.active.replyWindow)) ∧
    (NoSwapDue s → ∃ (q : Sequencer) (l : LineQueue), exec .cycleMark s = .next (arbitrate { s with seq := q, lcq := l }) ∧
      q.cycle = next ∧
      q.state = s.seq.state ∧ q.resume = s.seq.resume ∧ q.position = 0 ∧ q.phase = .marked ∧ q.tx = .mark ∧
      q.ltx = [0x10, byteOf q.cycle, byteOf (q.cycle / 256), crc8 [0x10, byteOf q.cycle, byteOf (q.cycle / 256)]] ∧
      q.cycleLength = 1936 + s.lineRec.active.trim ∧ q.replyWindow = s.lineRec.active.replyWindow ∧
      q.echoFailures = (if s.seq.tx = .mark then 0 else s.seq.echoFailures) ∧
      (0 < s.seq.rollCount → (∃ n : Fin 48, s.nodes[n].active.used = true ∧ s.nodeLive[n].presence ≠ .present) →
        q.rollCount = s.seq.rollCount - 1 ∧ q.rollCycle = true) ∧
      (s.seq.rollCount = 0 ∨ (∀ n : Fin 48, s.nodes[n].active.used = true → s.nodeLive[n].presence = .present) →
        q.rollCount = 0 ∧ q.rollCycle = decide (q.cycle % 64 = 0)) ∧
      l.clearOwed = s.lcq.clearOwed ∧
      (∀ v : Fin 32, l.closes[v] = (s.lcq.closes[v]).map fun m => { m with attempted := false }) ∧
      l.fifo = s.lcq.fifo.map fun e => match e with
        | .openValve v m => .openValve v { m with attempted := false }
        | .pass a d f => .pass a d f)

/-- POLL_PART_START and POLL_SLOT_START (01 R4, R6, R9, 03 R42, R43, 12 R194). The roll-call choice takes used entries that
are not PRESENT, none twice, at most four and all of them when they are fewer, those nearest the pointer and in the order of
their distance from it. That the mark's echo
is judged good at POLL_PART_START unless a mismatch was reported is DEDUCED (log 21). -/
def Obligations.PollPartSendsItsPolls : Prop :=
  (∀ s : State, s.seq.state.marking = true → s.seq.phase = .marked → s.seq.tx = .idle ∨ s.seq.tx = .mark → Rested s →
    let chosen := if s.seq.rollCycle = true then rollCallChoice s
      else s.polls[(⟨s.seq.cycle % 32, Nat.mod_lt _ (by decide)⟩ : Fin 32)].active.nodes
    exec .pollPartStart s = .next (arbitrate { s with
      seq := { s.seq with
        phase := .polling, position := 40, nextSlot := 40, toPoll := chosen, tx := .idle
        echoFailures := if s.seq.tx = .mark then 0 else s.seq.echoFailures }
      rollPtr := match s.seq.rollCycle, chosen.getLast? with
        | true, some n => n + 1
        | _, _ => s.rollPtr })) ∧
  (∀ (n : Fin 48) (rest : List (Fin 48)) (s : State), s.seq.state.marking = true → s.seq.phase = .polling →
    s.seq.tx = .idle → s.seq.toPoll = n :: rest → Rested s →
    let a := byteOf s.nodes[n].active.address
    exec .pollSlotStart s = .next (arbitrate (s.setSeq { s.seq with
      position := s.seq.nextSlot, nextSlot := s.seq.nextSlot + 160, toPoll := rest, tx := .poll n a
      ltx := [0x20, a, crc8 [0x20, a]] }))) ∧
  (∀ s : State,
     let distance := fun m : Fin 48 => (m.val + 48 - s.rollPtr.val) % 48
     (rollCallChoice s).length ≤ 4 ∧ (rollCallChoice s).Nodup ∧
     (rollCallChoice s).Pairwise (fun m n => distance m < distance n) ∧
     (∀ n ∈ rollCallChoice s, s.nodes[n].active.used = true ∧ s.nodeLive[n].presence ≠ .present) ∧
     ((rollCallChoice s).length < 4 →
       ∀ n : Fin 48, s.nodes[n].active.used = true → s.nodeLive[n].presence ≠ .present → n ∈ rollCallChoice s) ∧
     (∀ n : Fin 48, s.nodes[n].active.used = true → s.nodeLive[n].presence ≠ .present → n ∉ rollCallChoice s →
       ∀ m ∈ rollCallChoice s, distance m < distance n))

/-- COMMAND_SLOT_START: the command-slot arbiter of 01 R16. The lowest valve with a close not attempted this cycle goes
first; otherwise the first FIFO entry that is an open not attempted, or a PASS with 360 bit times left; otherwise the
slot idles. The frames are spelled: SET_OUTPUT with the output in bits 0..1 of its command byte and bit 7 set for OPEN, no
more said of that byte (log 38), and PASS (12 R194). -/
def Obligations.CommandSlotArbiterPicksTheOccupant : Prop :=
  ∀ s : State, s.seq.state.marking = true → s.seq.tx = .idle →
    s.seq.phase = .commands ∨ (s.seq.phase = .polling ∧ s.seq.toPoll = []) →
    200 ≤ s.seq.cycleLength - s.seq.nextSlot → Rested s →
    let left := s.seq.cycleLength - s.seq.nextSlot
    let at160 := { s.seq with phase := .commands, position := s.seq.nextSlot, nextSlot := s.seq.nextSlot + 160 }
    let ripe := fun v : Fin 32 => ∃ m, s.lcq.closes[v] = some m ∧ m.attempted = false
    let passedOver := fun e : FifoEntry => match e with
      | .openValve _ m => m.attempted
      | .pass _ _ _ => decide (left < 360)
    let frame := fun bs : List Byte => bs ++ [crc8 bs]
    let sends := fun (v : Fin 32) (k : CommandKind) => ∃ c : Byte, c.toNat % 4 = s.valves[v].active.output % 4 ∧
      (128 ≤ c.toNat ↔ k = .openValve) ∧
      exec .commandSlotStart s = .next (arbitrate (s.setSeq { at160 with
        tx := .command v k (decoderAddress s v) s.valves[v].active.output false
        ltx := frame [0x30, decoderAddress s v, c] }))
    (∀ (v : Fin 32) (n : Fin 48), s.valves[v].active.decoder = n.val →
      decoderAddress s v = byteOf s.nodes[n].active.address) ∧
    (∀ v, ripe v → (∀ w, w < v → ¬ ripe w) → sends v .closeValve) ∧
    ((∀ v, ¬ ripe v) →
      (∀ pre v m post, s.lcq.fifo = pre ++ .openValve v m :: post → (∀ e ∈ pre, passedOver e = true) → m.attempted = false →
        sends v .openValve) ∧
      (∀ pre a d f post, s.lcq.fifo = pre ++ .pass a d f :: post → (∀ e ∈ pre, passedOver e = true) → 360 ≤ left →
        exec .commandSlotStart s = .next (arbitrate
          ((s.setQueue { s.lcq with fifo := pre ++ .pass a d true :: post }).setSeq { at160 with
            tx := .pass a, ltx := frame (byteOf (0x40 + d.length) :: a :: d), nextSlot := s.seq.nextSlot + 320 }))) ∧
      ((∀ e ∈ s.lcq.fifo, passedOver e = true) → exec .commandSlotStart s = .next (arbitrate (s.setSeq at160))))

/-- POLL_OUTCOME moves the polled entry as 03 R39 tells, and no other entry; a report of another kind, and no accepted
report, is a miss (03 R38). The poll's echo was good, so the echo-failure count is 0 (01 R9). A report is accepted by the
bytes heard (01 R6 to R8; where the rules leave its borders open, log 19). A good reply is offered to the report FIFO by the
entry's policy and is entered, which sets the last forwarded value, or dropped with REPORT_LOST (03 R44 to R46); where no
clearing of the FIFO is owed, no other report is handed over. An entry that swapped inside the poll's slot (10 R171) takes the
outcome as it then stands; an unused one takes none (03 R36), and one of another address takes it or loses it, as a free value
says (log 36). -/
def Obligations.PollOutcomeMovesPresence : Prop :=
  ∀ (n : Fin 48) (a : Byte) (reply : Reply) (s : State), s.seq.tx = .poll n a → NoSwapDue s →
    let l := s.nodeLive[n]
    let good := ∃ payload,
      acceptReport a (singleSlot 30 s.seq.replyWindow) reply = some (s.nodes[n].active.kind, payload)
    (∀ k payload, acceptReport a (singleSlot 30 s.seq.replyWindow) reply = some (k, payload) ↔
      ReportHeard a s.seq.replyWindow reply k payload) ∧
    ∃ t, exec (.pollOutcome reply) s = .next t ∧ t.seq.tx = .idle ∧ t.seq.echoFailures = 0 ∧
      (s.nodes[n].active.used = false → PollEndsAlone s.choice s t) ∧
      (s.nodes[n].active.used = true → PollLost n a s t ∨
        (good → t.nodeLive[n].presence = .present ∧ t.nodeLive[n].misses = 0 ∧
          (l.presence = .present → t.nodeLive[n].changed = l.changed) ∧
          (l.presence ≠ .present → t.nodeLive[n].changed = true ∧ t.notice.isSet .nodeChange = true)) ∧
        (¬ good → l.presence = .absent → t.nodeLive[n] = { l with misses := min 3 (l.misses + 1) }) ∧
        (¬ good → l.presence = .missing → t.nodeLive[n] = { l with misses := 3 }) ∧
        (¬ good → l.presence = .present → l.misses + 1 < 3 → t.nodeLive[n] = { l with misses := l.misses + 1 }) ∧
        (¬ good → l.presence = .present → 3 ≤ l.misses + 1 →
          t.nodeLive[n] = { presence := .missing, misses := 3, changed := true, forwarded := none } ∧
          t.notice.isSet .nodeChange = true) ∧
        (∀ m : Fin 48, m ≠ n → t.nodeLive[m] = s.nodeLive[m]) ∧
        (¬ good → s.lcq.clearOwed = false → s.seq.state ≠ .stopping → reportsHeld t = reportsHeld s) ∧
        (∀ payload, acceptReport a (singleSlot 30 s.seq.replyWindow) reply = some (s.nodes[n].active.kind, payload) →
          s.lcq.clearOwed = false → s.seq.state ≠ .stopping →
          let r := s.nodes[n].active
          let value : Int := match r.kind with
            | .weather => signed16 (get2 payload 0)
            | .valveDecoder => ((get1 payload 0 % 4 : Nat) : Int)
            | .soilProbe | .other | .unused => (get2 payload 0 : Int)
          let offered := r.forward = 1 ∨ r.forward = 2 ∧ ∀ last, l.forwarded = some last → r.delta ≤ (value - last).natAbs
          let fits := s.hub.reports.length < 8 ∧ s.hub.passWait = []
          let frame : HubFrame :=
            { kind := 0xE1, body := [byteOf n.val, byteOf r.address, byteOf r.kind.code] ++ put4 s.partTime ++ payload }
          (¬ offered → reportsHeld t = reportsHeld s ∧ t.nodeLive[n].forwarded = l.forwarded) ∧
          (offered → fits → reportsHeld t = reportsHeld s ++ [frame] ∧ t.nodeLive[n].forwarded = some value) ∧
          (offered → ¬ fits → reportsHeld t = reportsHeld s ∧ t.nodeLive[n].forwarded = l.forwarded ∧
            t.notice.isSet .reportLost = true)))

/-- COMMAND_OUTCOME (01 R17, 07 R123, R124, 06 R101); a detached outcome is discarded. While RUNNING the pass that follows
may grant the valve that just closed, and in STOPPING the last close may end the state (02 R25). Where entry to STOPPED left
the clearing of the FIFO owed, the outcome is delivered first and the FIFO is then cleared (01 R19); where marks have started
again since, the open in flight alone is withdrawn, if its outcome left it there (log 13). The acknowledgement is judged by
the bytes heard (log 19). -/
def Obligations.CommandOutcomeMovesTheValve : Prop :=
  ∀ (v : Fin 32) (k : CommandKind) (a : Byte) (o : Nat) (d : Bool) (reply : Reply) (s : State),
    s.seq.tx = .command v k a o d → Rested s → NoSwapDue s →
    let l := s.valveLive[v]
    let ended := { s.seq with tx := .idle, echoFailures := 0 }
    let answered := acceptAck a o k (singleSlot 40 s.seq.replyWindow) reply
    (answered = true ↔ AckHeard a o k s.seq.replyWindow reply) ∧
    (s.lcq.clearOwed = true → s.seq.state.marking = false →
      ∃ t, exec (.commandOutcome reply) s = .next t ∧ t.seq = ended ∧
        FifoCleared s.lcq.fifo [] (fun w => w ≠ v ∨ d = true ∨ k = .closeValve) (fun w => w ≠ v ∨ d = true) s t ∧
        (d = false → k = .openValve → l.state = .opening → (s.lcq.openMarks v).isSome = true →
          (answered = true → t.valveLive[v] = { l with state := .opened, attempts := 0 }) ∧
          (answered = false → l.attempts + 1 < 3 →
            t.valveLive[v] = { l with state := .closing, attempts := 0 } ∧ t.lcq.closes[v].isSome = true))) ∧
    (s.lcq.clearOwed = false → s.lcq.withdrawOwed = true → d = false → k = .openValve → l.state = .opening →
      (s.lcq.openMarks v).isSome = true → answered = false → l.attempts + 1 < 3 →
      ∃ t, exec (.commandOutcome reply) s = .next t ∧ t.valveLive[v].state = .closing ∧ t.lcq.openMarks v = none ∧
        t.lcq.closes[v].isSome = true ∧ t.lcq.withdrawOwed = false) ∧
    (s.lcq.clearOwed = false → s.lcq.withdrawOwed = false → d = true →
      exec (.commandOutcome reply) s = .next (arbitrate (s.setSeq ended))) ∧
    (s.lcq.clearOwed = false → s.lcq.withdrawOwed = false → d = false →
      ∃ t, exec (.commandOutcome reply) s = .next t ∧ (s.seq.state ≠ .stopping → t.seq = ended) ∧
        (k = .openValve → l.state = .opening → answered = true →
          t.valveLive[v] = { l with state := .opened, attempts := 0 } ∧ t.lcq.openMarks v = none ∧
          (QueueLaw s → s.seq.state = .running → ∀ b r, l.owner = some b → findRun s b = some r → r.state = .on →
            findRun t b = some { r with
              pulseStart := some s.partTime
              expiry := some (s.partTime + if r.pulseOn = 0 then r.planned - r.delivered
                                           else min r.pulseOn (r.planned - r.delivered)) })) ∧
        (k = .closeValve → l.state = .closing → answered = true → s.seq.state ≠ .running ∨ l.mode ≠ .auto →
          t.valveLive[v] = { l with state := .closed, attempts := 0, assumedOpen := false } ∧
          t.lcq.closes[v] = none) ∧
        (k = .closeValve → l.state = .fault → answered = true →
          t.valveLive[v] = { l with attempts := 0, assumedOpen := false } ∧ t.lcq.closes[v] = none) ∧
        (k = .openValve ∧ l.state = .opening ∨ k = .closeValve ∧ (l.state = .closing ∨ l.state = .fault) →
          answered = false →
          (l.attempts + 1 < 3 → t.valveLive[v] = { l with attempts := l.attempts + 1 } ∧
            (k = .closeValve → s.lcq.closes[v].isSome = true →
              t.lcq.closes[v] = some { attempted := true, sent := true }) ∧
            (k = .openValve → (s.lcq.openMarks v).isSome = true →
              t.lcq.openMarks v = some { attempted := true, sent := true })) ∧
          (3 ≤ l.attempts + 1 →
            t.valveLive[v] = { l with
              state := .fault, assumedOpen := true, attempts := 3, owner := none, latched := true } ∧
            commandWaits t v = false ∧ t.notice.isSet .valveFault = true ∧
            (QueueLaw s → ∀ b, l.owner = some b → l.state ≠ .fault → ∀ r ∈ t.runs, r.bed = b → r.state ≠ .on))))

/-- PASS_OUTCOME (01 R18): the PASS in flight leaves the FIFO and its PASS_REPLY is handed over, ANSWERED with the
answer's bytes or NO_ANSWER; while RUNNING the place it frees in a full FIFO lets a grant pass run (01 R12). Where entry to
STOPPED left the clearing of the FIFO owed, it follows (01 R19); where marks have started again since, the transaction's end
pays what was owed (log 13). The answer is judged by the bytes heard (log 19). -/
def Obligations.PassOutcomeIsReplied : Prop :=
  ∀ (a : Byte) (reply : Reply) (s : State), s.seq.tx = .pass a → Rested s →
    let waiting := fun e : FifoEntry => match e with
      | .openValve _ _ => true
      | .pass _ _ flying => !flying
    let frame : HubFrame :=
      match acceptPassAnswer a (doubleSlot (10 * s.seq.ltx.length) s.seq.replyWindow) reply with
      | some bytes => { kind := 0xE2, body := a :: 0 :: bytes }
      | none => { kind := 0xE2, body := [a, 1] }
    let ended := (s.setSeq { s.seq with tx := .idle, echoFailures := 0 }).setQueue { s.lcq with
      fifo := s.lcq.fifo.filter waiting, withdrawOwed := false }
    (∀ bytes, acceptPassAnswer a (doubleSlot (10 * s.seq.ltx.length) s.seq.replyWindow) reply = some bytes ↔
      PassAnswerHeard a (10 * s.seq.ltx.length) s.seq.replyWindow reply bytes) ∧
    (s.lcq.clearOwed = false →
      ∃ t u, exec (.passOutcome reply) s = .next (arbitrate t) ∧ PassReplyPlaced frame ended u ∧
        (s.lcq.fifo.length < 16 ∨ s.seq.state ≠ .running → t = u) ∧ (NoSwapDue s → OnlyWaterChanges u t)) ∧
    (s.lcq.clearOwed = true → s.seq.state.marking = false → NoSwapDue s →
      ∃ t, exec (.passOutcome reply) s = .next t ∧ t.seq = ended.seq ∧
        FifoCleared (s.lcq.fifo.filter waiting) [frame] (fun _ => True) (fun _ => True) s t)

/-- ECHO_MISMATCH (01 R9, 02 R27): the transmission is abandoned and counted; a poll and a valve command leave nothing
behind, a PASS is answered LINE_DOWN, and the third mismatch halts the sequencer. -/
def Obligations.EchoMismatchIsCountedAndHalts : Prop :=
  ∀ s : State, s.seq.tx ≠ .idle → s.lcq.clearOwed = false → Rested s → NoSwapDue s →
    (s.seq.echoFailures < 2 → s.lcq.withdrawOwed = false → (∀ a, s.seq.tx ≠ .pass a) →
      exec .echoMismatch s = .next (arbitrate
        (s.setSeq { s.seq with tx := .idle, echoFailures := s.seq.echoFailures + 1 }))) ∧
    (s.seq.echoFailures < 2 → s.lcq.fifo.length < 16 ∨ s.seq.state ≠ .running → ∀ a, s.seq.tx = .pass a →
      ∃ t, exec .echoMismatch s = .next (arbitrate t) ∧
        PassReplyPlaced { kind := 0xE2, body := [a, 2] }
          ((s.setSeq { s.seq with tx := .idle, echoFailures := s.seq.echoFailures + 1 }).setQueue { s.lcq with
            withdrawOwed := false
            fifo := s.lcq.fifo.filter fun e => match e with
              | .openValve _ _ => true
              | .pass _ _ flying => !flying }) t) ∧
    (2 ≤ s.seq.echoFailures → s.seq.state.marking = true →
      ∃ t, exec .echoMismatch s = .next t ∧ t.seq.state = .halted ∧ t.seq.echoFailures = 3 ∧
        t.seq.phase = .noCycle ∧ t.seq.tx = .idle ∧ t.seq.cycle = s.seq.cycle ∧ t.lpwr = s.lpwr ∧
        t.notice.isSet .seqHalted = true ∧ t.beacon = some (s.partTime + 10) ∧ t.lcq.fifo = [] ∧
        (s.seq.state = .running → bedsOn t = []))

/-! ## Runs -/

/-- PULSE_EXPIRY (06 R102, R103): open seconds are credited and added to done, a pending plan applies, the valve is
stopped, and the run is removed, held or soaks. R108 keeps ON runs out of STOPPING. The water credit is that of 05 R79. -/
def Obligations.PulseExpiryEndsThePulse : Prop :=
  (∀ (seconds flow area : Nat) (l : BedLive),
    let given := flow * seconds + l.waterResidue
    let credit := given / (6 * area)
    BedLive.water seconds flow area l = { l with
      deficit := if credit ≤ l.deficit then l.deficit - credit else 0, waterResidue := given % (6 * area) }) ∧
  ∀ (b : Fin 24) (r : Run) (v : Fin 32) (p e : Nat) (l : BedLive) (s : State),
    findRun s b = some r → r.state = .on → r.pulseStart = some p → r.expiry = some e → p ≤ e → e ≤ s.partTime →
    valveOf s b = some v → s.valveLive[v].state = .opened → s.bedLive[b] = some l →
    QueueLaw s → NoSwapDue s → s.seq.state ≠ .stopping →
    let r' := { r with
      delivered := r.delivered + (e - p), pulseStart := none, plan := none
      pulseOn := (r.plan.getD (r.pulseOn, r.soak)).1, soak := (r.plan.getD (r.pulseOn, r.soak)).2 }
    let credited := BedLive.water (e - p) (flowOf s v) s.beds[b].active.area
      (BedLive.accrue (effectiveRate s b) s.beds[b].active.dryingExposure s.partTime l)
    let gone := fun t : State =>
      findRun t b = none ∧ t.bedLive[b] = some { credited with holdEnd := some (s.partTime + 1800) }
    let stays := fun (t : State) (q : Run) => findRun t b = some q ∧ t.bedLive[b] = some credited
    ∃ t, exec (.pulseExpiry b) s = .next t ∧ OnlyWaterChanges s t ∧
      t.valveLive[v] = { s.valveLive[v] with state := .closing, owner := none, attempts := 0 } ∧
      (commandWaits s v = false → t.lcq.closes[v] = some { attempted := false, sent := false }) ∧
      (r'.delivered = r.planned → gone t ∧ t.notice.isSet .runDone = true) ∧
      (r'.delivered ≠ r.planned → r.stopAtPulseEnd = true → gone t) ∧
      (r'.delivered ≠ r.planned → r.stopAtPulseEnd = false →
        (∀ i, s.locks.effective = some (.cancel, i) → gone t) ∧
        (∀ i, s.locks.effective = some (.pause, i) →
          stays t { r' with state := .held, expiry := none
                            reasons := { lock := true, line := false, valve := false } }) ∧
        (s.locks.effective = none →
          stays t { r' with state := .soak, expiry := some (s.partTime + r'.soak) })) ∧
      (∀ c : Fin 24, c ≠ b → t.bedLive[c] = s.bedLive[c]) ∧
      (∀ q ∈ s.runs, q.bed ≠ b → q.state = .on → q ∈ t.runs)

/-- SOAK_EXPIRY (06 R105): a run that no hold condition fails enters QUEUED, where the pass that follows may grant it;
every other enters HELD with the reasons that fail. -/
def Obligations.SoakExpiryQueuesOrHolds : Prop :=
  ∀ (b : Fin 24) (r : Run) (e : Nat) (s : State),
    findRun s b = some r → r.state = .soak → r.expiry = some e → e ≤ s.partTime →
    QueueLaw s → Rested s → NoSwapDue s →
    let valveFails := ∃ v, valveOf s b = some v ∧ (s.valveLive[v].state = .fault ∨ s.valveLive[v].mode ≠ .auto)
    (s.locks.effective = none → s.seq.state = .running → ¬ valveFails →
      ∃ (t : State) (q : Run), exec (.soakExpiry b) s = .next t ∧ OnlyWaterChanges s t ∧ findRun t b = some q ∧
        (q = { r with state := .queued, expiry := none, skips := q.skips } ∨
         q = { r with state := .on, expiry := none, skips := 0 }) ∧
        t.bedLive = s.bedLive) ∧
    (∀ f : HeldReasons, (f.lock = true ↔ s.locks.effective ≠ none) → (f.line = true ↔ s.seq.state ≠ .running) →
      (f.valve = true ↔ valveFails) → (s.locks.effective ≠ none ∨ s.seq.state ≠ .running ∨ valveFails) →
      exec (.soakExpiry b) s =
        .next (arbitrate (putRun s { r with state := .held, reasons := f, expiry := none })))

/-- RUN_START, judged in the order of 06 R109; an accepted one puts its run behind the last HUB run (06 R94, R110). The
run then waits, or the grant pass that follows grants it. -/
def Obligations.RunStartIsJudgedInOrder : Prop :=
  ∀ (i lo hi : Byte) (s : State),
    let body := [i, lo, hi]
    let secs := lo.toNat + 256 * hi.toNat
    Takes 0x0B body s → Rested s → NoSwapDue s →
    let refused := fun (r : Result) (u : State) =>
      exec (.runStart body) s = .next (answered 0x0B r [] body u)
    let started := fun (b : Fin 24) (planned volume : Nat) (balance : Option BedLive) =>
      ∃ (t : State) (q : Run), exec (.runStart body) s = .next t ∧ OnlyWaterChanges s t ∧
        answerOf t = some { kind := 0x8B, body := 0 :: (put2 planned ++ put2 volume) } ∧
        t.runs.map (·.bed) = (s.runs.filter fun r => r.origin == .hub).map (·.bed) ++ b ::
          (s.runs.filter fun r => r.origin != .hub).map (·.bed) ∧
        q ∈ t.runs ∧ (q.state = .queued ∨ q.state = .on) ∧
        q = { bed := b, origin := .hub, state := q.state, planned := planned, delivered := 0, volume := volume
              pulseOn := s.beds[b].active.pulseOn, soak := s.beds[b].active.soak, plan := none, skips := q.skips
              reasons := { lock := false, line := false, valve := false }, stopAtPulseEnd := false
              pulseStart := none, expiry := none } ∧
        t.bedLive[b] = balance
    (24 ≤ i.toNat → refused .badIndex s) ∧
    (∀ b : Fin 24, i.toNat = b.val →
      let rec0 := s.beds[b].active
      (7200 < secs → refused .badValue s) ∧
      (secs ≤ 7200 → rec0.used = false → refused .notFound s) ∧
      (secs ≤ 7200 → rec0.used = true → rec0.mode ≠ 1 → rec0.mode ≠ 2 → refused .refusedState s) ∧
      (secs ≤ 7200 → rec0.used = true → rec0.mode = 1 ∨ rec0.mode = 2 →
        ((∃ r ∈ s.runs, r.bed = b) ∨ valveOf s b = none → refused .refusedState s) ∧
        (∀ v : Fin 32, valveOf s b = some v →
          (s.valveLive[v].mode ≠ .auto → refused .refusedState s) ∧
          (s.valveLive[v].mode = .auto → (∀ r ∈ s.runs, r.bed ≠ b) →
            (∀ t, s.locks.effective = some (.cancel, t) → refused .locked s) ∧
            ((∀ t, s.locks.effective ≠ some (.cancel, t)) →
              (secs ≠ 0 → started b secs (min (flowOf s v * secs / 60) 65535) s.bedLive[b]) ∧
              (secs = 0 → ∀ l, s.bedLive[b] = some l →
                let l' := BedLive.accrue (effectiveRate s b) rec0.dryingExposure s.partTime l
                let litres := min ((l'.deficit - rec0.stopLevel) * rec0.area / 10) 65535
                let planned := min (max ((litres * 60 + flowOf s v - 1) / flowOf s v) rec0.minRun) rec0.maxRun
                (l'.deficit ≤ rec0.stopLevel → refused .badValue (s.setBedLive b (some l'))) ∧
                (rec0.stopLevel < l'.deficit →
                  started b planned (min (flowOf s v * planned / 60) 65535) (some l'))))))))

/-- RUN_STOP, RUN_STOP_ALL and RUN_ADJUST (06 R96, R111 to R113). An ON run that is stopped has its open seconds, none before its
pulse has begun, added to its done seconds and credited to its bed (06 R102, R104, 05 R79); that they end with the pulse's
expiry is DEDUCED (log 24). Its valve closes; an open that never left the part is withdrawn instead (07 R126). R108 keeps ON
runs out of STOPPING. A QUEUED run that RUN_STOP_ALL reaches may have been granted by the pass after an earlier removal; it is
then ended as an ON run. -/
def Obligations.RunsAreStoppedAndAdjusted : Prop :=
  let openFor := fun (s : State) (r : Run) => match r.pulseStart, r.expiry with
    | none, _ => 0
    | some p, none => s.partTime - p
    | some p, some e => (if s.partTime ≤ e then s.partTime else e) - p
  let ended := fun (s : State) (b : Fin 24) (v : Fin 32) (secs : Nat) (l : BedLive) =>
    { BedLive.water secs (flowOf s v) s.beds[b].active.area
        (BedLive.accrue (effectiveRate s b) s.beds[b].active.dryingExposure s.partTime l) with
      holdEnd := some (s.partTime + 1800) }
  (∀ (i : Byte) (s : State), Takes 0x0C [i] s → Rested s →
    (24 ≤ i.toNat → exec (.runStop [i]) s = .next (answered 0x0C .badIndex [] [i] s)) ∧
    (∀ b : Fin 24, i.toNat = b.val →
      (findRun s b = none → exec (.runStop [i]) s = .next (answered 0x0C .notFound [] [i] s)) ∧
      (∀ (r : Run) (l : BedLive), findRun s b = some r → s.bedLive[b] = some l → NoSwapDue s → QueueLaw s →
        (s.seq.state = .stopping → r.state ≠ .on) →
        let done := if r.state = .on then r.delivered + openFor s r else r.delivered
        ∃ t, exec (.runStop [i]) s = .next t ∧ OnlyWaterChanges s t ∧
          answerOf t = some { kind := 0x8C, body := 0 :: put2 done } ∧ findRun t b = none ∧
          (r.state ≠ .on → t.bedLive[b] = some { l with holdEnd := some (s.partTime + 1800) }) ∧
          (r.state = .on → ∀ v, valveOf s b = some v → t.bedLive[b] = some (ended s b v (openFor s r) l)) ∧
          (∀ c : Fin 24, c ≠ b → t.bedLive[c] = s.bedLive[c]) ∧
          (done = r.planned → t.notice.isSet .runDone = true) ∧
          (r.state = .on → ∀ v, valveOf s b = some v → s.valveLive[v].state = .opened →
            t.valveLive[v].state = .closing ∧ t.valveLive[v].owner = none) ∧
          (r.state = .on → ∀ v, valveOf s b = some v → s.valveLive[v].state = .opening → TableLaw s → RunBedLaw s →
            (s.lcq.closes[v] = none → flying s v .openValve = false →
              (∃ m, s.lcq.openMarks v = some m ∧ m.sent = false) →
              t.valveLive[v] = { s.valveLive[v] with state := .closed, owner := none } ∧ commandWaits t v = false) ∧
            (flying s v .openValve = true ∨ s.lcq.openMarks v = none ∨ (∃ m, s.lcq.openMarks v = some m ∧ m.sent = true) →
              t.valveLive[v] = { s.valveLive[v] with state := .closing, owner := none, attempts := 0 } ∧
              t.lcq.closes[v].isSome = true)) ∧
          (∀ q ∈ s.runs, q.bed ≠ b → q.state ≠ .queued → q.state ≠ .held → q ∈ t.runs)))) ∧
  (∀ s : State, Takes 0x0D [] s → Rested s → NoSwapDue s → QueueLaw s → (s.seq.state = .stopping → bedsOn s = []) →
    ∃ t, exec (.runStopAll []) s = .next t ∧ OnlyWaterChanges s t ∧ t.runs = [] ∧
      answerOf t = some { kind := 0x8D, body := [0, byteOf s.runs.length] } ∧
      (∀ r ∈ s.runs, ∀ l, s.bedLive[r.bed] = some l →
        (r.state = .on → ∀ v, valveOf s r.bed = some v → t.bedLive[r.bed] = some (ended s r.bed v (openFor s r) l)) ∧
        (r.state ≠ .on → r.state = .soak ∨ s.seq.state ≠ .running ∨ r.state = .held ∧ TableLaw s ∧ RunBedLaw s →
          t.bedLive[r.bed] = some { l with holdEnd := some (s.partTime + 1800) }) ∧
        (r.state ≠ .on → t.bedLive[r.bed] = some { l with holdEnd := some (s.partTime + 1800) } ∨
          ∃ v, valveOf s r.bed = some v ∧ t.bedLive[r.bed] = some (ended s r.bed v (openFor s r) l)))) ∧
  (∀ (i plo phi klo khi : Byte) (s : State),
    let body := [i, plo, phi, klo, khi]
    let p := plo.toNat + 256 * phi.toNat
    let k := klo.toNat + 256 * khi.toNat
    Takes 0x0E body s → Rested s →
    (24 ≤ i.toNat → exec (.runAdjust body) s = .next (answered 0x0E .badIndex [] body s)) ∧
    (∀ b : Fin 24, i.toNat = b.val →
      (¬ ((p = 0 ∨ 60 ≤ p ∧ p ≤ 3600) ∧ 60 ≤ k ∧ k ≤ 7200) →
        exec (.runAdjust body) s = .next (answered 0x0E .badValue [] body s)) ∧
      ((p = 0 ∨ 60 ≤ p ∧ p ≤ 3600) ∧ 60 ≤ k ∧ k ≤ 7200 →
        (findRun s b = none → exec (.runAdjust body) s = .next (answered 0x0E .notFound [] body s)) ∧
        (∀ r, findRun s b = some r → exec (.runAdjust body) s = .next (answered 0x0E .ok [] body
          (putRun s (if r.state = .on then { r with plan := some (p, k) }
                     else { r with pulseOn := p, soak := k, plan := none })))))))

/-- A demand check makes an AUTO run at the queue's tail, sized by deficit, exactly when every condition of 05 R83 holds,
and otherwise changes nothing (05 R68, R83 to R85, 06 R94). A bed without live balance is not a used one. -/
def Obligations.DemandCheckAsksForARun : Prop :=
  ∀ (b : Fin 24) (s : State),
    (s.bedLive[b] = none → demandCheck b s = s) ∧
    (∀ l, s.bedLive[b] = some l →
      (¬ Asks s b l → demandCheck b s = s) ∧
      (Asks s b l → DemandsMade (fun c _ => c = b) (s.runs.map (·.bed)) s (demandCheck b s)))

/-- A grant pass keeps the budget, grants only while RUNNING without a lock, and every run it grants was QUEUED with its
valve CLOSED, in mode AUTO and its decoder PRESENT (06 R98, R99). A run that may be granted and fits is granted where every
run before it is stepped over or passed, and each run passed is skipped once more; one that does not fit at skip count 8
blocks (06 R100). A pass finds the tables consistent and every run's bed used. -/
def Obligations.GrantPassKeepsBudget : Prop :=
  ∀ s : State, QueueLaw s → TableLaw s → RunBedLaw s →
    let t := grantPass s
    let open_ := s.seq.state = .running ∧ s.locks.effective = none ∧ s.lcq.fifo.length < 16
    let eligible := fun (r : Run) (v : Fin 32) => r.state = .queued ∧ valveOf s r.bed = some v ∧
      s.valveLive[v].state = .closed ∧ s.valveLive[v].mode = .auto ∧ decoderPresence s v = .present ∧
      flowOf s v ≤ s.supplyRec.active.flowCap
    let fits := fun v : Fin 32 =>
      slotsInUse s + 1 ≤ s.supplyRec.active.maxSlots ∧ flowInUse s + flowOf s v ≤ s.supplyRec.active.flowCap
    let counted := (List.finRange 32).filter fun v => decide (s.valves[v].active.used = true ∧
      s.valveLive[v].mode ≠ .detached ∧
      (s.valveLive[v].state = .opening ∨ s.valveLive[v].state = .opened ∨ s.valveLive[v].state = .closing ∨
        s.valveLive[v].state = .fault ∧ s.valveLive[v].assumedOpen = true ∨ s.valveLive[v].mode = .forcedOpen))
    slotsInUse s = counted.length ∧ flowInUse s = (counted.map fun v => s.valves[v].active.flow).sum ∧
    slotsInUse t ≤ max (slotsInUse s) s.supplyRec.active.maxSlots ∧
    flowInUse t ≤ max (flowInUse s) s.supplyRec.active.flowCap ∧
    (¬ open_ → t = s) ∧
    t.runs.map (·.bed) = s.runs.map (·.bed) ∧
    (∀ q ∈ t.runs, q.state = .on → q ∉ s.runs →
      q.skips = 0 ∧ (∃ r ∈ s.runs, r.bed = q.bed ∧ r.state = .queued) ∧
      ∃ v, valveOf s q.bed = some v ∧ s.valveLive[v].state = .closed ∧ s.valveLive[v].mode = .auto ∧
        decoderPresence s v = .present ∧ t.valveLive[v].state = .opening ∧ t.valveLive[v].owner = some q.bed) ∧
    (∀ q ∈ t.runs, q.state ≠ .on → ∃ r ∈ s.runs, q = { r with skips := q.skips } ∧ q.skips ≤ r.skips + 1) ∧
    (∀ pre r post v, s.runs = pre ++ r :: post → open_ → eligible r v →
      (∀ q ∈ pre, ∀ w, eligible q w → ¬ fits w ∧ q.skips < 8) →
      (fits v → findRun t r.bed = some { r with state := .on, skips := 0 } ∧ (t.lcq.openMarks v).isSome = true ∧
        ∀ q ∈ pre, findRun t q.bed = some (if ∃ w, eligible q w then { q with skips := q.skips + 1 } else q)) ∧
      (¬ fits v → 8 ≤ r.skips → t = s)) ∧
    ((∀ r ∈ s.runs, ∀ v, eligible r v → ¬ fits v) → t = s)

/-! ## The water balance, weather and probes -/

/-- EVALUATION_EXPIRY (05 R82): the timer restarts, the probes named are judged, PROBE_STALE is derived, the bed is
accrued, and no other bed's balance changes; the demand check then asks for the bed's run exactly under the conditions of 05
R83. WEATHER_STALENESS_EXPIRY (04 R61, 05 R77): STALE with WEATHER_STALE set, T, V and R kept; where the status was FRESH every
used bed is first accrued at R, and a demand check of each follows, in any order. Flag 12 makes a notice pending where it was
clear and in the mask (11 R186). The accrual is that of 05 R75, at the rate of 05 R77. -/
def Obligations.EvaluationAndStalenessAccrueBeds : Prop :=
  (∀ (rate exposure now : Nat) (l : BedLive),
    let minutes := (now - l.lastAccrual) / 60
    let drying := rate * exposure * minutes + l.accrualResidue
    let deficit := l.deficit + drying / 60000
    BedLive.accrue rate exposure now l = { l with
      lastAccrual := l.lastAccrual + 60 * minutes
      deficit := if 2000 < deficit then 2000 else deficit
      accrualResidue := if 2000 < deficit then 0 else drying % 60000 }) ∧
  (∀ (b : Fin 24) (s : State),
    (s.weather.status = .fresh → effectiveRate s b = s.weather.rate) ∧
    (s.weather.status ≠ .fresh → effectiveRate s b = s.beds[b].active.defaultRate)) ∧
  (∀ (b : Fin 24) (l : BedLive) (s : State),
     s.bedLive[b] = some l → l.evaluateAt ≤ s.partTime → Rested s → NoSwapDue s →
     let named := fun n : Fin 48 => s.beds[b].active.probeA = n.val ∨ s.beds[b].active.probeB = n.val
     ∃ t, exec (.evaluationExpiry b) s = .next t ∧ OnlyWaterChanges { s with probes := t.probes } t ∧
       (∃ x, t.bedLive[b] = some (BedLive.accrue (effectiveRate s b) s.beds[b].active.dryingExposure s.partTime
           { l with evaluateAt := l.evaluateAt + 600, probeStale := x }) ∧
         (x = true ↔ (∃ n, named n) ∧ ∀ n, named n → ∀ p, t.probes[n] = some p → p.state ≠ .ok)) ∧
       (∀ n : Fin 48, ¬ named n → t.probes[n] = s.probes[n]) ∧
       (∀ n : Fin 48, named n → ∀ p, s.probes[n] = some p →
         t.probes[n] = some (if p.state = .ok ∧ p.reference + 10800 ≤ s.partTime then { p with state := .stale }
                             else p)) ∧
       (∀ c : Fin 24, c ≠ b → t.bedLive[c] = s.bedLive[c]) ∧
       DemandsMade (fun c l' => c = b ∧ Asks s b l') (s.runs.map (·.bed)) s t ∧
       (∀ l', t.bedLive[b] = some l' → ¬ Asks s b l' → t.runs = s.runs ∧ t.valveLive = s.valveLive)) ∧
  (∀ (ref : Nat) (s : State), s.weather.reference = some ref → ref + 21600 ≤ s.partTime → Rested s → NoSwapDue s →
     (s.weather.status = .waiting →
       exec .weatherStalenessExpiry s = .next (arbitrate { s with
         weather := { s.weather with status := .stale }
         notice := { s.notice with
           flags := s.notice.flags ||| 4096#32
           pending := s.notice.pending || !s.notice.flags.getLsbD 12 && s.notice.mask.getLsbD 12 } })) ∧
     (s.weather.status = .fresh →
       ∃ t, exec .weatherStalenessExpiry s = .next t ∧ t.weather = { s.weather with status := .stale } ∧
         OnlyWaterChanges { s with weather := t.weather } t ∧ t.notice.isSet .weatherStale = true ∧
         DemandsMade (Asks s) (s.runs.map (·.bed)) s t ∧
         (∀ b : Fin 24, s.beds[b].active.used = true → ∀ l, s.bedLive[b] = some l →
           t.bedLive[b] =
             some (BedLive.accrue s.weather.rate s.beds[b].active.dryingExposure s.partTime l))))

/-- A POLL_OUTCOME that brings a count from a SOIL_PROBE entry (04 R51, R52, R54, 05 R72, R73, R74): the probe's live
state, and the balance of the one bed that names it, whose demand check follows (05 R81). Hold is judged by 05 R74, at the
moment of a pulse end that leaves the run HELD too (log 40). Where the entry swapped to another address inside the poll's
slot, the outcome may be lost, as a free value says (log 36). -/
def Obligations.ProbeReadingMovesEstimateAndDeficit : Prop :=
  ∀ (n : Fin 48) (a : Byte) (reply : Reply) (payload : List Byte) (p : ProbeLive) (s : State),
    s.seq.tx = .poll n a → s.nodes[n].active.kind = .soilProbe →
    acceptReport a (singleSlot 30 s.seq.replyWindow) reply = some (.soilProbe, payload) →
    s.probes[n] = some p → NoSwapDue s → QueueLaw s →
    let c := get2 payload 0
    let dry := s.nodes[n].active.dry
    let wet := s.nodes[n].active.wet
    let p0 := if s.nodeLive[n].presence = .missing ∧ p.state = .faulted then { p with state := .ok, rejects := 0 }
              else p
    let plausible := wet ≤ c + (dry - wet) / 4 ∧ c ≤ dry + (dry - wet) / 4
    let w := if dry ≤ c then 0 else if c ≤ wet then 1000 else 1000 * (dry - c) / (dry - wet)
    ∃ t, exec (.pollOutcome reply) s = .next t ∧
      (PollLost n a s t ∨
        (p0.state = .faulted → t.probes[n] = some { p0 with lastCount := some c } ∧ t.bedLive = s.bedLive) ∧
        (p0.state ≠ .faulted → ¬ plausible → t.bedLive = s.bedLive ∧
          t.probes[n] = some { p0 with
            lastCount := some c, rejects := p0.rejects + 1
            state := if 3 ≤ p0.rejects + 1 then .faulted else p0.state } ∧
          (3 ≤ p0.rejects + 1 → t.notice.isSet .probeFault = true)) ∧
        (p0.state ≠ .faulted → plausible →
          t.probes[n] = some { state := .ok, rejects := 0, lastCount := some c, reference := s.partTime } ∧
          ((∀ b : Fin 24, s.beds[b].active.used = true → s.beds[b].active.names n = false) → t.bedLive = s.bedLive) ∧
          (∀ (b : Fin 24) (l : BedLive), s.beds[b].active.used = true → s.beds[b].active.names n = true →
            (∀ d : Fin 24, s.beds[d].active.used = true → s.beds[d].active.names n = true → d = b) →
            s.bedLive[b] = some l →
            let e : Int := l.estimate
            let estimate := if l.estimateValid = true then
                (e + (((w : Int) - e) * s.beds[b].active.smoothing).tdiv 8).toNat else w
            let inHold := (∃ r ∈ s.runs, r.bed = b ∧ (r.state = .on ∨ r.state = .soak)) ∨
              ∃ h, l.holdEnd = some h ∧ s.partTime < h
            (∀ d : Fin 24, d ≠ b → t.bedLive[d] = s.bedLive[d]) ∧
            (inHold → t.bedLive[b] = some { l with estimate := estimate, estimateValid := true }) ∧
            (¬ inHold → t.bedLive[b] = some { l with
              estimate := estimate, estimateValid := true, accrualResidue := 0, lastAccrual := s.partTime
              deficit := (s.beds[b].active.fieldCapacity - estimate) * s.beds[b].active.holding / 1000 }))) ∧
        (s.lcq.clearOwed = false → DemandsMade (fun b l => p0.state ≠ .faulted ∧ plausible ∧
          (s.beds[b].active.probeA = n.val ∨ s.beds[b].active.probeB = n.val) ∧
          (∀ d : Fin 24, d < b → s.beds[d].active.used = true →
            s.beds[d].active.probeA ≠ n.val ∧ s.beds[d].active.probeB ≠ n.val) ∧ Asks s b l)
          (s.runs.map (·.bed)) s t) ∧
        (∀ m : Fin 48, m ≠ n → t.probes[m] = s.probes[m]))

/-- A POLL_OUTCOME that brings a report from the WEATHER entry (04 R58, R59, R62, R64, R65, 08 R144, R145). Where the report
moves no enabled lock condition, and so nothing but the Balance Engine moves a bed, every used bed is accrued at the old
rate when R_eff changes, and takes a rain delta of 1 to 400 tips after accrual; a demand check of every used bed follows each of
the two, in any order (04 R67, 05 R77, R78, R81). Where the entry swapped to another address inside the poll's slot, the
outcome may be lost, as a free value says (log 36). -/
def Obligations.WeatherReportIsTaken : Prop :=
  ∀ (n : Fin 48) (a : Byte) (reply : Reply) (payload : List Byte) (s : State),
    s.seq.tx = .poll n a → s.nodes[n].active.kind = .weather →
    acceptReport a (singleSlot 30 s.seq.replyWindow) reply = some (.weather, payload) → NoSwapDue s →
    let temp := max (-400) (min (signed16 (get2 payload 0)) 600)
    let wind := min (get2 payload 2) 600
    let count := get2 payload 4
    let bands := s.drying.active.bands
    let rate := fun base : Nat => min (base * (100 + s.weatherRec.active.windFactor * (wind / 10)) / 100) 400
    let baseline := if s.nodeLive[n].presence = .present then s.weather.baseline else none
    let freeze := s.lockRecs[2].active
    let gale := s.lockRecs[3].active
    let rain := s.lockRecs[1].active
    ∃ t, exec (.pollOutcome reply) s = .next t ∧
      (PollLost n a s t ∨
        t.weather.status = .fresh ∧ t.weather.temperature = temp ∧ t.weather.wind = wind ∧
        t.weather.reference = some s.partTime ∧ t.locks.handed = some (temp, wind) ∧
        (∀ pre b post, bands = pre ++ b :: post → (∀ x ∈ pre, x.1 < temp) → temp ≤ b.1 → t.weather.rate = rate b.2) ∧
        (∀ pre b, bands = pre ++ [b] → (∀ x ∈ pre, x.1 < temp) → t.weather.rate = rate b.2) ∧
        (s.locks.cond.freeze = false → (t.locks.cond.freeze = true ↔ temp ≤ freeze.freezeThreshold)) ∧
        (s.locks.cond.freeze = true → (t.locks.cond.freeze = false ↔
          if freeze.second = 0 then freeze.freezeThreshold < temp
          else freeze.freezeThreshold + freeze.second ≤ temp)) ∧
        (s.locks.cond.wind = false → (t.locks.cond.wind = true ↔ gale.first ≤ wind)) ∧
        (s.locks.cond.wind = true → (t.locks.cond.wind = false ↔
          if gale.second = 0 then wind < gale.first else wind + gale.second ≤ gale.first)) ∧
        (s.weatherRec.active.source ≠ .weather → t.weather.baseline = baseline ∧ t.locks.rainHold = s.locks.rainHold) ∧
        (s.weatherRec.active.source = .weather → baseline = none →
          t.weather.baseline = some count ∧ t.locks.rainHold = s.locks.rainHold) ∧
        (s.weatherRec.active.source = .weather → ∀ base, baseline = some base → base < 65536 →
          let d := (count + 65536 - base) % 65536
          t.weather.baseline = some count ∧
          (400 < d → t.notice.isSet .rainSuspect = true ∧ t.locks.rainHold = s.locks.rainHold) ∧
          (d < rain.first → t.locks.rainHold = s.locks.rainHold) ∧
          (1 ≤ d → d ≤ 400 → rain.first ≤ d →
            t.locks.rainHold = some (s.partTime + rain.second * 60) ∧ t.locks.cond.rainHold = true)) ∧
        (LockLaw s → freeze.enabled = false ∨ t.locks.cond.freeze = s.locks.cond.freeze →
          gale.enabled = false ∨ t.locks.cond.wind = s.locks.cond.wind →
          let delta := fun d : Nat => s.weatherRec.active.source = .weather ∧
            ∃ base, baseline = some base ∧ base < 65536 ∧ d = (count + 65536 - base) % 65536
          let noRain := s.weatherRec.active.source ≠ .weather ∨ baseline = none ∨ ∃ d, delta d ∧ (d = 0 ∨ 400 < d)
          let drier := s.weather.status ≠ .fresh ∨ s.weather.rate ≠ t.weather.rate
          let rains := fun d : Nat => delta d ∧ 1 ≤ d ∧ d ≤ 400 ∧
            (d < rain.first ∨ rain.enabled = false ∨ s.locks.cond.rainHold = true)
          (∀ (b : Fin 24) (l : BedLive), s.beds[b].active.used = true → s.bedLive[b] = some l →
            let accrued := BedLive.accrue (effectiveRate s b) s.beds[b].active.dryingExposure s.partTime l
            (noRain → t.bedLive[b] = some (if drier then accrued else l)) ∧
            (∀ d, rains d → t.bedLive[b] =
              some (BedLive.rain d s.weatherRec.active.tipSize s.beds[b].active.rainExposure accrued))) ∧
          (s.lcq.clearOwed = false →
            (noRain → DemandsMade (fun b l => drier ∧ Asks s b l) (s.runs.map (·.bed)) s t) ∧
            (∀ d, rains d → ¬ drier → DemandsMade (Asks s) (s.runs.map (·.bed)) s t))))

/-! ## Valves -/

/-- A POLL_OUTCOME that brings the outputs of a PRESENT decoder (07 R128): FAULT is never left, an OPEN valve reported
closed goes FAULT, a CLOSED valve reported open is closed by command, each judged at its state when the report is taken,
whatever the grant passes that follow do (07 R128, note). A POLL_OUTCOME whose miss makes the decoder MISSING takes its
valves as lost (07 R129, R138), and one that brings it back from MISSING lifts FAULT before the report is reconciled (07
R130). Where the entry swapped to another address inside the poll's slot, the outcome may be lost, as a free value says (log
36). Said where a valve is owned by its own bed's run alone (06 R95) and no clearing is owed while marks are sent (01 R19),
two laws that every step keeps within the law of watering. -/
def Obligations.DecoderReportReconciles : Prop :=
  ∀ (n : Fin 48) (a : Byte) (reply : Reply) (v : Fin 32) (s : State),
    s.seq.tx = .poll n a → s.nodes[n].active.kind = .valveDecoder →
    s.valves[v].active.used = true → s.valves[v].active.decoder = n.val → NoSwapDue s → QueueLaw s →
    SoleOwnerLaw s → MarksLaw s →
    let l := s.valveLive[v]
    (∀ payload, acceptReport a (singleSlot 30 s.seq.replyWindow) reply = some (.valveDecoder, payload) →
      s.nodeLive[n].presence = .present →
      let isOpen := get1 payload 0 / 2 ^ (s.valves[v].active.output - 1) % 2 = 1
      ∃ t, exec (.pollOutcome reply) s = .next t ∧
        (PollLost n a s t ∨
          (l.state = .opened → ¬ isOpen →
            t.valveLive[v] = { l with state := .fault, assumedOpen := false, owner := none, latched := true } ∧
            t.notice.isSet .valveFault = true ∧
            (∀ b, l.owner = some b → ∀ r ∈ t.runs, r.bed = b → r.state ≠ .on)) ∧
          (l.state = .opened → isOpen → t.valveLive[v] = l) ∧
          (l.state = .fault → ¬ isOpen → t.valveLive[v] = { l with assumedOpen := false }) ∧
          (l.state = .fault → isOpen → t.valveLive[v].state = .fault ∧ t.valveLive[v].assumedOpen = true ∧
            (s.lcq.openMarks v = none → t.lcq.closes[v].isSome = true)) ∧
          (l.state = .detached → t.valveLive[v] = l) ∧
          (l.state = .closing → t.valveLive[v] = l) ∧
          (l.state = .closed → isOpen → s.lcq.openMarks v = none →
            t.valveLive[v] = { l with state := .closing, attempts := 0, latched := true } ∧
            t.lcq.closes[v].isSome = true ∧ t.notice.isSet .valveFault = true) ∧
          (l.state = .closed → ¬ isOpen → s.seq.state ≠ .running → t.valveLive[v] = l) ∧
          (l.state = .opening → s.lcq.clearOwed = false → s.seq.state ≠ .stopping → t.valveLive[v] = l))) ∧
    ((∀ payload, acceptReport a (singleSlot 30 s.seq.replyWindow) reply ≠ some (.valveDecoder, payload)) →
      s.nodeLive[n].presence = .present → 3 ≤ s.nodeLive[n].misses + 1 →
      ∃ t, exec (.pollOutcome reply) s = .next t ∧ (PollLost n a s t ∨ DecoderLost v s t)) ∧
    (∀ payload, acceptReport a (singleSlot 30 s.seq.replyWindow) reply = some (.valveDecoder, payload) →
      s.nodeLive[n].presence = .missing → l.state = .fault →
      let isOpen := get1 payload 0 / 2 ^ (s.valves[v].active.output - 1) % 2 = 1
      ∃ t, exec (.pollOutcome reply) s = .next t ∧
        (PollLost n a s t ∨
          (l.assumedOpen = true → s.lcq.openMarks v = none →
            t.valveLive[v] = { l with state := .closing, assumedOpen := false, attempts := 0 } ∧
            t.lcq.closes[v].isSome = true) ∧
          (l.assumedOpen = false → s.seq.state ≠ .running → ¬ isOpen →
            t.valveLive[v] = { l with state := .closed, attempts := 0 }) ∧
          (l.assumedOpen = false → s.seq.state ≠ .running → isOpen → s.lcq.openMarks v = none →
            t.valveLive[v] = { l with state := .closing, attempts := 0, latched := true } ∧
            t.lcq.closes[v].isSome = true ∧ t.notice.isSet .valveFault = true)))

/-- VALVE_MODE, judged in the order of 07 R134 and acting by the tables of R135 and R136. In STOPPING the end of the last
movement may enter STOPPED, which clears the FIFO (02 R25). -/
def Obligations.ValveModeFollowsItsTables : Prop :=
  ∀ (i k : Byte) (s : State), Takes 0x11 [i, k] s → Rested s →
    (32 ≤ i.toNat → exec (.valveMode [i, k]) s = .next (answered 0x11 .badIndex [] [i, k] s)) ∧
    (∀ v : Fin 32, i.toNat = v.val →
      let l := s.valveLive[v]
      (4 ≤ k.toNat → exec (.valveMode [i, k]) s = .next (answered 0x11 .badValue [] [i, k] s)) ∧
      (∀ m : ValveMode, k.toNat = m.code →
        let reopens := m = .forcedOpen ∧ (l.state = .closed ∨ l.state = .closing ∨ l.state = .detached)
        let full := s.lcq.openMarks v = none ∧ 16 ≤ s.lcq.fifo.length
        let unsent := s.lcq.closes[v] = none ∧ flying s v .openValve = false ∧
          ∃ x, s.lcq.openMarks v = some x ∧ x.sent = false
        (s.valves[v].active.used = false → exec (.valveMode [i, k]) s = .next (answered 0x11 .notFound [] [i, k] s)) ∧
        (s.valves[v].active.used = true → reopens → full →
          exec (.valveMode [i, k]) s = .next (answered 0x11 .busy [] [i, k] s)) ∧
        (s.valves[v].active.used = true → ¬ (reopens ∧ full) → NoSwapDue s → QueueLaw s → s.seq.state ≠ .stopping →
          ∃ t, exec (.valveMode [i, k]) s = .next t ∧ OnlyWaterChanges s t ∧
            answerOf t = some { kind := 0x91, body :=
              [0, byteOf t.valveLive[v].state.code, byteOf t.valveLive[v].mode.code] } ∧
            t.valveLive[v].mode = m ∧ t.valveLive[v].latched = l.latched ∧
            (m = .auto → l.mode = .auto → l.state ≠ .fault → t.valveLive = s.valveLive ∧ t.lcq = s.lcq) ∧
            (m = .auto → l.mode ≠ .auto ∨ l.state = .fault → t.valveLive[v].assumedOpen = false ∧
              (¬ unsent → t.valveLive[v].state = .closing ∧
                (s.lcq.openMarks v = none → t.lcq.closes[v].isSome = true)) ∧
              (unsent → s.seq.state ≠ .running → t.valveLive[v].state = .closed ∧ commandWaits t v = false)) ∧
            (m = .forcedOpen → (reopens → t.valveLive[v].state = .opening ∧ (t.lcq.openMarks v).isSome = true) ∧
              (¬ reopens → t.valveLive[v] = { l with mode := m, owner := if l.mode = m then l.owner else none })) ∧
            (m = .forcedClosed → l.state = .fault → t.valveLive[v].state = .fault ∧
              t.valveLive[v].assumedOpen = l.assumedOpen ∧
              (l.assumedOpen = true → s.lcq.openMarks v = none → t.lcq.closes[v].isSome = true)) ∧
            (m = .forcedClosed → l.state ≠ .fault →
              (unsent → t.valveLive[v].state = .closed ∧ commandWaits t v = false) ∧
              (¬ unsent → t.valveLive[v].state = .closing ∧
                (s.lcq.openMarks v = none → t.lcq.closes[v].isSome = true))) ∧
            (m = .detached → commandWaits t v = false ∧
              t.valveLive[v] = { l with state := .detached, mode := m, assumedOpen := false, attempts := 0
                                        owner := if l.mode = m then l.owner else none }) ∧
            (l.mode ≠ m → ∀ b, l.owner = some b → ∀ r ∈ t.runs, r.bed = b → r.state ≠ .on) ∧
            (s.seq.state ≠ .running → ∀ w : Fin 32, w ≠ v → t.valveLive[w] = s.valveLive[w]))))

/-! ## Locks, inputs, clock -/

/-- LOCK_SET, LOCK_CLEAR, RAIN_HOLD_EXPIRY and CONTACT_STABLE set their one condition, and the effective lock follows (08
R143, R144, R146, R148 to R150, 09 R156). The level of a contact is stable 2 s after its last change, to the µs, and not
sooner. That a moment behind the present counts as the present is the model's choice (log 4). -/
def Obligations.LockCommandsMoveTheirCondition : Prop :=
  ∀ (x : InputId) (micros : Micros) (s : State), LockLaw s → QueueLaw s → Rested s → NoSwapDue s →
    (Takes 0x12 [] s → ∃ t, exec (.lockSet []) s = .next t ∧ LockMoved s t ∧
      t.locks = { s.locks with cond := { s.locks.cond with hub := true }, effective := t.locks.effective } ∧
      answerOf t = some { kind := 0x92, body := 0 :: lockBytes t } ∧
      (s.seq.state ≠ .stopping → OnlyWaterChanges { s with locks := t.locks } t)) ∧
    (Takes 0x13 [] s → ∃ t, exec (.lockClear []) s = .next t ∧ LockMoved s t ∧
      t.locks = { s.locks with cond := { s.locks.cond with hub := false }, effective := t.locks.effective } ∧
      answerOf t = some { kind := 0x93, body := 0 :: lockBytes t } ∧
      (s.seq.state ≠ .stopping → OnlyWaterChanges { s with locks := t.locks } t)) ∧
    (∀ e, s.locks.rainHold = some e → e ≤ s.partTime →
      ∃ t, exec .rainHoldExpiry s = .next t ∧ LockMoved s t ∧
        t.locks = { s.locks with cond := { s.locks.cond with rainHold := false }, rainHold := none
                                 effective := t.locks.effective } ∧
        (s.seq.state ≠ .stopping → OnlyWaterChanges { s with locks := t.locks } t)) ∧
    let present := max s.micros micros
    let i := s.monitor.input x
    let steady := s.supplyRec.active.action x = .rainContact ∧ i.stable ≠ some i.level ∧
      i.since * 1000000 + i.sinceMicros.val + 2000000 ≤ s.partTime * 1000000 + present.val
    (¬ steady → exec (.contactStable ⟨x, micros⟩) s = .next { s with micros := present }) ∧
    (steady →
      ∃ t, exec (.contactStable ⟨x, micros⟩) s = .next t ∧ LockMoved s t ∧
        t.monitor.input x = { i with stable := some i.level } ∧
        (∀ y, y ≠ x → t.monitor.input y = s.monitor.input y) ∧
        t.locks = { s.locks with cond := { s.locks.cond with rainContact := t.locks.cond.rainContact }
                                 effective := t.locks.effective } ∧
        (t.locks.cond.rainContact = true ↔
          ∃ y, s.supplyRec.active.action y = .rainContact ∧ (t.monitor.input y).stable = some .low) ∧
        (s.seq.state ≠ .stopping → OnlyWaterChanges { s with micros := present, locks := t.locks } t))

/-- INPUT_LEVEL_CHANGE, FLOW_EDGE and RAIN_TIP at a moment of the present second (09 R154 to R157, 04 R66, 05 R78, 08 R144).
An edge counts 1 ms or more after the last counted one. A tip counts once its low has lasted 20 ms, if it reached them 200 ms
or more after the previous tip; with rain source LOCAL it credits every used bed with one tip, and their demand checks follow
in any order, said where the effective lock does not move. The rain credit is that of 05 R78. Which command brings an edge, and when RAIN_TIP may come, is the model's choice (log 22), and so is that a
moment behind the present counts as the present (log 4). -/
def Obligations.LocalInputsAreCounted : Prop :=
  (∀ (tips size exposure : Nat) (l : BedLive),
    let fallen := tips * size * exposure + l.rainResidue
    let credit := fallen / 100
    BedLive.rain tips size exposure l = { l with
      deficit := if credit ≤ l.deficit then l.deficit - credit else 0, rainResidue := fallen % 100 }) ∧
  ∀ (x : InputId) (micros : Micros) (s : State),
    let i := s.monitor.input x
    let present := max s.micros micros
    let u := { s with micros := present }
    let now := s.partTime * 1000000 + present.val
    let changed := i.since * 1000000 + i.sinceMicros.val
    let moved := fun l : Level => { i with
      level := l, since := s.partTime, sinceMicros := present, armed := i.armed || l == .high, rising := l == .high }
    (∀ l : Level, exec (.inputLevelChange ⟨x, micros⟩ l) s = .next
      (if i.level = l then u else u.setMonitor (s.monitor.putInput x (moved l)))) ∧
    (s.supplyRec.active.action x ≠ .flow ∨ i.level = .high ∧ i.rising = false → exec (.flowEdge ⟨x, micros⟩) s = .next u) ∧
    (s.supplyRec.active.action x = .flow → i.level = .low ∨ i.rising = true →
      let rise := if i.level = .low then now else changed
      let risen := { (if i.level = .low then moved .high else i) with rising := false }
      ((∀ e, i.lastEdge = some e → e + 1000 ≤ rise) → ∀ w, s.monitor.window = some w →
        exec (.flowEdge ⟨x, micros⟩) s = .next (u.setMonitor
          { s.monitor.putInput x { risen with lastEdge := some rise } with window := some { w with count := w.count + 1 } })) ∧
      (∀ e, i.lastEdge = some e → rise < e + 1000 →
        exec (.flowEdge ⟨x, micros⟩) s = .next (u.setMonitor (s.monitor.putInput x risen)))) ∧
    let tip := changed + 20000
    let counts := s.supplyRec.active.action x = .rainTips ∧ i.level = .low ∧ i.armed = true ∧ tip ≤ now ∧
      ∀ e, i.lastTip = some e → e + 200000 ≤ tip
    let used := { i with armed := false, lastTip := some tip }
    let counted := u.setMonitor (s.monitor.putInput x used)
    let rain := s.lockRecs[1].active
    (¬ counts → exec (.rainTip ⟨x, micros⟩) s = .next u) ∧
    (counts → Rested s → s.weatherRec.active.source ≠ .localTips →
      exec (.rainTip ⟨x, micros⟩) s = .next (arbitrate counted)) ∧
    (counts → Rested s → s.weatherRec.active.source = .localTips → NoSwapDue s →
      ∃ t, exec (.rainTip ⟨x, micros⟩) s = .next t ∧ t.monitor.input x = used ∧
        (1 < rain.first → t.locks = s.locks) ∧
        (rain.first ≤ 1 → t.locks.rainHold = some (s.partTime + rain.second * 60) ∧ t.locks.cond.rainHold = true) ∧
        (LockLaw s → QueueLaw s → LockMoved s t) ∧
        (1 < rain.first ∨ s.locks.cond.rainHold = true ∨ LockLaw s ∧ rain.enabled = false →
          OnlyWaterChanges { counted with locks := t.locks } t ∧
          DemandsMade (Asks s) (s.runs.map (·.bed)) s t ∧
          ∀ b : Fin 24, s.beds[b].active.used = true → ∀ l, s.bedLive[b] = some l →
            t.bedLive[b] = some (BedLive.rain 1 s.weatherRec.active.tipSize s.beds[b].active.rainExposure
              (BedLive.accrue (effectiveRate s b) s.beds[b].active.dryingExposure s.partTime l))))

/-- FLOW_WINDOW_END (09 R158 to R162): the result, the three counts, the alarms, and the next window. -/
def Obligations.FlowWindowIsJudged : Prop :=
  ∀ (w : FlowWindow) (s : State), s.monitor.window = some w → w.start + 10 ≤ s.partTime → Rested s →
    let rec0 := s.supplyRec.active
    let measured := min (w.count * 60 / rec0.pulsesPerLitre) 2000
    let expected := min (((List.finRange 32).filter fun v => decide (s.valves[v].active.used = true ∧
      (s.valveLive[v].state = .opened ∨ s.valveLive[v].state = .fault ∧ s.valveLive[v].assumedOpen = true))).map
        fun v => s.valves[v].active.flow).sum 2000
    let settled := w.calmStart && !w.changed
    let result : WindowResult := { measured := measured, expected := expected, settled := settled }
    let next : FlowWindow := { start := s.partTime, count := 0, changed := false
                               calmStart := decide (s.monitor.lastChange + 20 ≤ s.partTime) }
    (settled = false → exec .flowWindowEnd s = .next (arbitrate (s.setMonitor { s.monitor with
      result := some result, highCount := 0, lowCount := 0, leakCount := 0, window := some next }))) ∧
    (settled = true → NoSwapDue s → QueueLaw s → LockLaw s →
      let high := 0 < expected ∧ expected * (100 + rec0.overMargin) / 100 < measured
      let low := measured < expected * (100 - rec0.underMargin) / 100
      let leak := expected = 0 ∧ (∀ v : Fin 32, s.valves[v].active.used = true → s.valveLive[v].state ≠ .opening ∧
        s.valveLive[v].state ≠ .opened ∧ s.valveLive[v].state ≠ .closing) ∧ rec0.leakThreshold ≤ measured
      let counts := fun (met : Prop) (limit before after : Nat) =>
        (¬ met → after = 0) ∧ (met → limit ≤ before + 1 → after = 0) ∧
        (met → before + 1 < limit → after = before + 1)
      ∃ t, exec .flowWindowEnd s = .next t ∧ t.monitor.result = some result ∧
        (∃ n, t.monitor.window = some n ∧ n.start = s.partTime ∧ n.count = 0) ∧
        counts high 2 s.monitor.highCount t.monitor.highCount ∧
        counts low 3 s.monitor.lowCount t.monitor.lowCount ∧
        counts leak 3 s.monitor.leakCount t.monitor.leakCount ∧
        (low → 3 ≤ s.monitor.lowCount + 1 → t.notice.isSet .lowFlow = true) ∧
        (leak → 3 ≤ s.monitor.leakCount + 1 → t.notice.isSet .leak = true) ∧
        (¬ (high ∧ 2 ≤ s.monitor.highCount + 1) → t.locks = s.locks ∧ t.runs = s.runs ∧ t.valveLive = s.valveLive) ∧
        (high → 2 ≤ s.monitor.highCount + 1 →
          t.notice.isSet .supplyAlarm = true ∧ t.locks.cond.supply = true ∧ t.mv = false ∧ LockMoved s t ∧
          (s.locks.cond.supply = false → ∀ v : Fin 32, s.valves[v].active.used = true →
            t.valveLive[v].mode ≠ .forcedOpen)))

/-- MINUTE_TRANSITION and TIME_SET move the clock, and where a window closes, or is closed at the minute set, the bed's
AUTO run is removed, or ON and ending with its pulse; HUB runs are kept. Where a window opens, and at TIME_SET for every used
bed, a demand check asks for a run exactly under the conditions of 05 R83 (06 R115 to R119, 05 R68, R81). A MINUTE_TRANSITION that follows
a TIME_SET of its moment is not made. That the transition is due from the end of second 59, and a command sent at another
moment changes nothing, is the model's form of it (log 1, 23). -/
def Obligations.ClockMovesAndWindowsClose : Prop :=
  (∀ s : State, s.clock.valid = false ∨ s.clock.turnDue = false → exec .minuteTransition s = .next s) ∧
  (∀ s : State, s.clock.valid = true → s.clock.turnDue = true → Rested s → NoSwapDue s → QueueLaw s →
    let next := (s.clock.minute + 1) % 10080
    ∃ t, exec .minuteTransition s = .next t ∧
      t.clock = { valid := true, minute := next, second := 0, turnDue := false } ∧
      OnlyWaterChanges { s with clock := t.clock } t ∧
      let before := fun b : Fin 24 => WindowOpen s.beds[b].active (s.clock.minute % 1440)
      let after := fun b : Fin 24 => WindowOpen s.beds[b].active (next % 1440)
      WindowsJudged (fun b => ¬ before b ∧ after b) (fun b => before b ∧ ¬ after b) s t ∧
      (∀ r ∈ s.runs, r.origin = .hub → ∃ q ∈ t.runs, q.bed = r.bed ∧ q.origin = .hub ∧ q.planned = r.planned ∧
        q.delivered = r.delivered)) ∧
  (∀ (lo hi sec : Byte) (s : State), Takes 0x09 [lo, hi, sec] s → Rested s →
    let minute := lo.toNat + 256 * hi.toNat
    (10079 < minute ∨ 59 < sec.toNat →
      exec (.timeSet [lo, hi, sec]) s = .next (answered 0x09 .badValue [] [lo, hi, sec] s)) ∧
    (minute ≤ 10079 → sec.toNat ≤ 59 → NoSwapDue s → QueueLaw s →
      ∃ t, exec (.timeSet [lo, hi, sec]) s = .next t ∧
        t.clock = { valid := true, minute := minute, second := sec.toNat, turnDue := false } ∧
        exec .minuteTransition t = .next t ∧
        answerOf t = some { kind := 0x89, body := [0] } ∧
        OnlyWaterChanges { s with clock := t.clock } t ∧
        WindowsJudged (fun _ => True) (fun b => ¬ WindowOpen s.beds[b].active (minute % 1440)) s t ∧
        (∀ r ∈ s.runs, r.origin = .hub → ∃ q ∈ t.runs, q.bed = r.bed ∧ q.origin = .hub ∧ q.planned = r.planned ∧
          q.delivered = r.delivered)))

/-! ## Readings, flags, PASS -/

/-- READ, TIME_READ, RUN_LIST, STATUS and BED_STATE answer from the state and change nothing; BED_STATE first accrues its
bed (10 R167, 06 R114, R116, 11 R189, 05 R86). That READ with a bad index answers BAD_INDEX whatever its copy code is the
model's choice (log 35). -/
def Obligations.ReadingRequestsAnswerFromTheState : Prop :=
  ∀ s : State, Rested s →
    (∀ table index copy : Byte, let body := [table, index, copy]
      Takes 0x02 body s →
      (tableSize table.toNat = none → exec (.read body) s = .next (answered 0x02 .badValue [] body s)) ∧
      (∀ n, tableSize table.toNat = some n → n ≤ index.toNat →
        exec (.read body) s = .next (answered 0x02 .badIndex [] body s)) ∧
      (∀ x : Slot, x.table = table.toNat → x.index = index.toNat →
        let head := [table, index, if slotPending s x then 1 else 0, if slotDue s x then 1 else 0]
        (copy = 0 → exec (.read body) s =
          .next (answered 0x02 .ok (head ++ activeBytes s x ++ livePart s x) body s)) ∧
        (copy = 1 → pendingBytes s x = none → exec (.read body) s = .next (answered 0x02 .notFound [] body s)) ∧
        (copy = 1 → ∀ bs, pendingBytes s x = some bs →
          exec (.read body) s = .next (answered 0x02 .ok (head ++ bs) body s)) ∧
        (1 < copy.toNat → exec (.read body) s = .next (answered 0x02 .badValue [] body s)))) ∧
    (Takes 0x0A [] s → exec (.timeRead []) s = .next (answered 0x0A .ok
      ([if s.clock.valid then 1 else 0] ++ put2 s.clock.minute ++ [byteOf s.clock.second] ++ put4 s.partTime) [] s)) ∧
    (∀ first : Byte, Takes 0x0F [first] s →
      (23 < first.toNat → exec (.runList [first]) s = .next (answered 0x0F .badValue [] [first] s)) ∧
      (first.toNat ≤ 23 →
        let shown := (s.runs.drop first.toNat).take 8
        exec (.runList [first]) s = .next (answered 0x0F .ok
          ([byteOf s.runs.length, byteOf (slotsInUse s)] ++ put2 (flowInUse s) ++ [byteOf shown.length] ++
            (shown.zipIdx first.toNat).flatMap fun x => runRecord x.2 x.1) [first] s))) ∧
    (Takes 0x14 [] s → exec (.status []) s = .next (answered 0x14 .ok (statusRecord s) [] s)) ∧
    (∀ i : Byte, Takes 0x10 [i] s →
      (24 ≤ i.toNat → exec (.bedState [i]) s = .next (answered 0x10 .badIndex [] [i] s)) ∧
      (∀ b : Fin 24, i.toNat = b.val →
        (s.beds[b].active.used = false → exec (.bedState [i]) s = .next (answered 0x10 .notFound [] [i] s)) ∧
        (s.beds[b].active.used = true → ∀ l, s.bedLive[b] = some l →
          let l' := BedLive.accrue (effectiveRate s b) s.beds[b].active.dryingExposure s.partTime l
          let u := s.setBedLive b (some l')
          exec (.bedState [i]) s = .next (answered 0x10 .ok (bedStateRecord u b l') [i] u))))

/-- The records that answers carry have their lengths, and their fields at their places: the bed state record, the run
record, the live parts of READ, the lock answer and the status record (11 R189, 12.2, 12.4). -/
def Obligations.AnswerRecordsAreLaidOut : Prop :=
  ∀ s : State,
    let flag := fun b : Bool => if b = true then 1 else 0
    let timeAt := fun (bs : List Byte) (i : Nat) (e : Option Nat) =>
      (e = none → get4 bs i = 0xFFFFFFFF) ∧ (∀ n, e = some n → n < 0x100000000 → get4 bs i = n)
    (∀ (b : Fin 24) (l : BedLive), (bedStateRecord s b l).length = 44) ∧
    (∀ (i : Nat) (r : Run), (runRecord i r).length = 28) ∧
    (∀ (b : Fin 24) (l : BedLive),
      let bs := bedStateRecord s b l
      let probeAt := fun (i ref : Nat) =>
        (48 ≤ ref → (bs.drop i).take 6 = [0xFF, 0xFF, 0, 0, 0, 0]) ∧
        (∀ n : Fin 48, n.val = ref → ∀ p, s.probes[n] = some p → get1 bs i = ref ∧ get1 bs (i + 1) = p.state.code ∧
          (p.rejects < 256 → get1 bs (i + 2) = p.rejects) ∧
          (p.lastCount = none → get1 bs (i + 3) = 0 ∧ get2 bs (i + 4) = 0) ∧
          (∀ c, p.lastCount = some c → c < 65536 → get1 bs (i + 3) = 1 ∧ get2 bs (i + 4) = c))
      get1 bs 0 = b.val ∧ (s.beds[b].active.mode < 256 → get1 bs 1 = s.beds[b].active.mode) ∧
      (l.estimate < 65536 → get2 bs 2 = l.estimate) ∧ get1 bs 4 = flag l.estimateValid ∧
      (l.deficit < 65536 → get2 bs 5 = l.deficit) ∧ (l.accrualResidue < 65536 → get2 bs 7 = l.accrualResidue) ∧
      (l.rainResidue < 256 → get1 bs 9 = l.rainResidue) ∧ (l.waterResidue < 65536 → get2 bs 10 = l.waterResidue) ∧
      timeAt bs 12 (some l.lastAccrual) ∧ timeAt bs 16 l.holdEnd ∧ get1 bs 20 = flag (inHold s b) ∧
      (effectiveRate s b < 65536 → get2 bs 21 = effectiveRate s b) ∧ get1 bs 23 = flag l.probeStale ∧
      (findRun s b = none → get1 bs 24 = 0) ∧ (∀ r, findRun s b = some r → get1 bs 24 = r.state.code) ∧
      probeAt 25 s.beds[b].active.probeA ∧ probeAt 31 s.beds[b].active.probeB ∧ get1 bs 37 = s.weather.status.code ∧
      (-400 ≤ s.weather.temperature → s.weather.temperature ≤ 600 → signed16 (get2 bs 38) = s.weather.temperature) ∧
      (s.weather.wind < 65536 → get2 bs 40 = s.weather.wind) ∧ (s.weather.rate < 65536 → get2 bs 42 = s.weather.rate)) ∧
    (∀ (i : Nat) (r : Run),
      let bs := runRecord i r
      let numberAt := fun (j n : Nat) => n < 65536 → get2 bs j = n
      (i < 256 → get1 bs 0 = i) ∧ get1 bs 1 = r.bed.val ∧ get1 bs 2 = r.origin.code ∧ get1 bs 3 = r.state.code ∧
      numberAt 4 r.planned ∧ numberAt 6 r.delivered ∧ numberAt 8 r.volume ∧ numberAt 10 r.pulseOn ∧ numberAt 12 r.soak ∧
      (r.plan = none → get2 bs 14 = 0 ∧ get2 bs 16 = 0) ∧
      (∀ p k, r.plan = some (p, k) → numberAt 14 p ∧ numberAt 16 k) ∧ (r.skips < 256 → get1 bs 18 = r.skips) ∧
      get1 bs 19 = flag r.reasons.lock + 2 * flag r.reasons.line + 4 * flag r.reasons.valve + 8 * flag r.stopAtPulseEnd +
        16 * flag r.plan.isSome ∧
      timeAt bs 20 r.pulseStart ∧ timeAt bs 24 r.expiry) ∧
    (∀ n : Fin 48, livePart s (.node n) = [byteOf s.nodeLive[n].presence.code, byteOf s.nodeLive[n].misses,
      byteOf (flag s.nodeLive[n].changed)]) ∧
    (∀ v : Fin 32, let l := s.valveLive[v]
      livePart s (.valve v) = [byteOf l.state.code, byteOf l.mode.code,
        (match l.owner with
         | some b => byteOf b.val
         | none => 0xFF), byteOf (flag l.assumedOpen), byteOf l.attempts, byteOf (flag l.latched)]) ∧
    (s.locks.effective = none → lockBytes s = [0, 0, 0]) ∧
    (∀ m i, s.locks.effective = some (m, i) → lockBytes s = [1, byteOf m.code, byteOf i.code]) ∧
    (∀ x : InputId,
      let level := get1 (statusRecord s) (match x with
        | .a => 36
        | .b => 37)
      let stable := (s.monitor.input x).stable
      (s.supplyRec.active.action x ≠ .rainContact ∨ stable = none → level = 0) ∧
      (s.supplyRec.active.action x = .rainContact → (stable = some .low → level = 1) ∧
        (stable = some .high → level = 2))) ∧
    let bs := statusRecord s
    bs.length = 40 ∧ get4 bs 0 = s.notice.flags.toNat ∧ get4 bs 4 = s.notice.mask.toNat ∧
    get1 bs 8 = (if s.notice.pending = true then 1 else 0) ∧
    (s.partTime < 4294967296 → get4 bs 9 = s.partTime) ∧ get1 bs 13 = s.seq.state.code ∧
    (s.seq.cycle < 1024 → get2 bs 14 = s.seq.cycle) ∧
    (get1 bs 16 = 0 ↔ s.locks.effective = none) ∧
    (∀ m i, s.locks.effective = some (m, i) → get1 bs 17 = m.code ∧ get1 bs 18 = i.code) ∧
    (get1 bs 19 % 2 = 1 ↔ s.locks.cond.rainContact = true) ∧ (get1 bs 19 / 2 % 2 = 1 ↔ s.locks.cond.rainHold = true) ∧
    (get1 bs 19 / 4 % 2 = 1 ↔ s.locks.cond.freeze = true) ∧ (get1 bs 19 / 8 % 2 = 1 ↔ s.locks.cond.wind = true) ∧
    (get1 bs 19 / 16 % 2 = 1 ↔ s.locks.cond.hub = true) ∧ (get1 bs 19 / 32 = 1 ↔ s.locks.cond.supply = true) ∧
    get1 bs 20 = slotsInUse s ∧ (flowInUse s < 65536 → get2 bs 21 = flowInUse s) ∧
    get1 bs 23 = (if s.clock.valid = true then 1 else 0) ∧ (s.clock.minute < 10080 → get2 bs 24 = s.clock.minute) ∧
    (s.clock.second < 60 → get1 bs 26 = s.clock.second) ∧ get1 bs 27 = dueCount s ∧
    (∀ x, headDue s = some x → get1 bs 28 = x.table ∧ get1 bs 29 = x.index) ∧
    (headDue s = none → get1 bs 28 = 255 ∧ get1 bs 29 = 255) ∧
    (s.monitor.result = none → get1 bs 30 = 0 ∧ get2 bs 31 = 0 ∧ get2 bs 33 = 0 ∧ get1 bs 35 = 0) ∧
    (∀ w, s.monitor.result = some w → w.measured ≤ 2000 → w.expected ≤ 2000 →
      get1 bs 30 = 1 ∧ get2 bs 31 = w.measured ∧ get2 bs 33 = w.expected ∧
      get1 bs 35 = (if w.settled = true then 1 else 0)) ∧
    (PortLaw s → get1 bs 38 = s.hub.reports.length) ∧ (s.hub.passWait.length < 256 → get1 bs 39 = s.hub.passWait.length)

/-- NOTICE_MASK (11 R188). -/
def Obligations.NoticeMaskIsReplaced : Prop :=
  ∀ (b0 b1 b2 b3 : Byte) (s : State),
    let body := [b0, b1, b2, b3]
    let set : BitVec 32 := b3 ++ b2 ++ b1 ++ b0
    Takes 0x16 body s → Rested s →
    (2 ^ 17 ≤ set.toNat → exec (.noticeMask body) s = .next (answered 0x16 .badValue [] body s)) ∧
    (set.toNat < 2 ^ 17 →
      exec (.noticeMask body) s = .next (answered 0x16 .ok body body
        { s with notice := { s.notice with mask := set } }))

/-- FLAGS_CLEAR (11 R187) with its further effects (03 R40, 07 R138, 08 R147). The flags fall before the SUPPLY
condition does (log 27). -/
def Obligations.FlagsClearClearsTheNamedFlags : Prop :=
  ∀ (b0 b1 b2 b3 : Byte) (s : State),
    let body := [b0, b1, b2, b3]
    let set : BitVec 32 := b3 ++ b2 ++ b1 ++ b0
    let u := { s with
      notice := { s.notice with flags := s.notice.flags &&& ~~~set }
      nodeLive := if set.getLsbD 4 = true then Vector.ofFn fun n => { s.nodeLive[n] with changed := false }
                  else s.nodeLive
      valveLive := if set.getLsbD 6 = true then Vector.ofFn fun v => { s.valveLive[v] with latched := false }
                   else s.valveLive }
    Takes 0x15 body s → Rested s →
    (2 ^ 17 ≤ set.toNat → exec (.flagsClear body) s = .next (answered 0x15 .badValue [] body s)) ∧
    (set.toNat < 2 ^ 17 → set.getLsbD 8 = false ∨ s.locks.cond.supply = false →
      exec (.flagsClear body) s = .next (answered 0x15 .ok (put4 u.notice.flags.toNat) body u)) ∧
    (set.toNat < 2 ^ 17 → set.getLsbD 8 = true → s.locks.cond.supply = true → NoSwapDue s → LockLaw s → QueueLaw s →
      ∃ t, exec (.flagsClear body) s = .next t ∧ LockMoved s t ∧
        t.locks = { s.locks with cond := { s.locks.cond with supply := false }, effective := t.locks.effective } ∧
        answerOf t = some { kind := 0x95, body := 0 :: put4 t.notice.flags.toNat } ∧
        (∀ f : Flag, f ≠ .lockChange → t.notice.isSet f = u.notice.isSet f) ∧
        (s.seq.state ≠ .stopping → OnlyWaterChanges { u with locks := t.locks } t))

/-- PASS (01 R18). -/
def Obligations.PassJoinsTheFifo : Prop :=
  ∀ (a : Byte) (data : List Byte) (s : State), data.length ≤ 6 → Takes 0x17 (a :: data) s → Rested s →
    passesQueued s + s.hub.passWait.length < 16 →
    (a.toNat = 0 ∨ 250 < a.toNat → exec (.pass (a :: data)) s = .next (answered 0x17 .badValue [] (a :: data) s)) ∧
    (1 ≤ a.toNat → a.toNat ≤ 250 →
      (s.seq.state.marking = false →
        exec (.pass (a :: data)) s = .next (answered 0x17 .refusedState [] (a :: data) s)) ∧
      (s.seq.state.marking = true → 16 ≤ s.lcq.fifo.length →
        exec (.pass (a :: data)) s = .next (answered 0x17 .busy [] (a :: data) s)) ∧
      (s.seq.state.marking = true → s.lcq.fifo.length < 16 →
        exec (.pass (a :: data)) s = .next (answered 0x17 .ok [] (a :: data)
          (s.setQueue { s.lcq with fifo := s.lcq.fifo ++ [.pass a data false] }))))

/-! ## What every command leaves alone -/

/-- With no entry SWAP_DUE, no command but UPDATE and the resets changes an active table or makes an entry due (10 R164,
R169, R175), and each block is moved by the commands that its rules name alone (chapters 01 to 09, 11): clock, weather,
probes, presence, sequencer, line power, locks, framer, mask and flags; and, from a rested state, run queue, live valves, MV,
balances, Line Command Queue, Supply Monitor, beacon-silence timer, request queue and reports on their way. -/
def Obligations.EachBlockIsMovedByItsOwnCommands : Prop :=
  ∀ (c : Instr) (s t : State), NoSwapDue s → exec c s = .next t → (∀ body, c ≠ .update body) → c ≠ .powerOnReset →
    (c = .answerEnd → s.hub.resetOwed = false) →
    let polled := ∃ reply, c = .pollOutcome reply
    let polledOrEvaluated := polled ∨ ∃ b, c = .evaluationExpiry b
    let clockMoved := c = .minuteTransition ∨ ∃ body, c = .timeSet body
    let powerMoved := c = .overcurrent ∨ c = .backoffExpiry ∨ ∃ body, c = .lineRestore body
    let sequenced := powerMoved ∨ c = .echoMismatch ∨ c = .stepEnd ∨
      ∃ body, c = .seqRun body ∨ c = .seqStop body ∨ c = .seqStep body
    let locked := polled ∨ c = .rainHoldExpiry ∨ c = .flowWindowEnd ∨
      (∃ x, c = .rainTip x) ∨ (∃ x, c = .contactStable x) ∨
      ∃ body, c = .lockSet body ∨ c = .lockClear body ∨ c = .flagsClear body
    let received := c = .frameGapTimeout ∨ c = .breakBegin ∨ (∃ b, c = .receiveFrame b) ∨
      ∃ b x, c = .hubByteReceived b x
    NoSwapDue t ∧
    ((∀ i : Fin 48, t.nodes[i].active = s.nodes[i].active) ∧ (∀ i : Fin 32, t.polls[i].active = s.polls[i].active) ∧
      (∀ i : Fin 32, t.valves[i].active = s.valves[i].active) ∧ (∀ i : Fin 24, t.beds[i].active = s.beds[i].active) ∧
      (∀ i : Fin 5, t.lockRecs[i].active = s.lockRecs[i].active) ∧ t.supplyRec.active = s.supplyRec.active ∧
      t.lineRec.active = s.lineRec.active ∧ t.weatherRec.active = s.weatherRec.active ∧
      t.drying.active = s.drying.active) ∧
    ((∀ x, c ≠ .rainTip x ∧ c ≠ .contactStable x ∧ c ≠ .flowEdge x ∧ ∀ l, c ≠ .inputLevelChange x l) →
      t.micros = s.micros) ∧
    (¬ clockMoved → t.clock = s.clock) ∧
    (¬ polled → c ≠ .weatherStalenessExpiry → t.weather = s.weather) ∧
    (¬ polledOrEvaluated → t.probes = s.probes) ∧
    (¬ polled → c ≠ .overcurrent → (∀ body, c ≠ .flagsClear body) → t.nodeLive = s.nodeLive) ∧
    (c ≠ .pollPartStart → t.rollPtr = s.rollPtr) ∧
    (c ≠ .cycleMark → t.seq.cycle = s.seq.cycle) ∧
    (¬ sequenced → s.seq.state ≠ .stopping → t.seq.state = s.seq.state) ∧
    (¬ powerMoved → t.lpwr = s.lpwr) ∧
    (¬ powerMoved → (∀ ma, c ≠ .sensedCurrentChange ma) → t.mon = s.mon) ∧
    (¬ locked → t.locks = s.locks) ∧
    (¬ received → t.hub.framer = s.hub.framer) ∧
    ((∀ body, c ≠ .noticeMask body) → t.notice.mask = s.notice.mask) ∧
    ((∀ body, c ≠ .flagsClear body) → ∀ f : Flag, s.notice.isSet f = true → t.notice.isSet f = true) ∧
    (Rested s →
      let answeredOnLine := polled ∨ ∃ reply, c = .commandOutcome reply ∨ c = .passOutcome reply
      let watered := sequenced ∨ locked ∨ clockMoved ∨ polledOrEvaluated ∨ answeredOnLine ∨ c = .beaconSilenceExpiry ∨
        c = .weatherStalenessExpiry ∨ (∃ b, c = .pulseExpiry b ∨ c = .soakExpiry b) ∨
        ∃ body, c = .runStart body ∨ c = .runStop body ∨ c = .runStopAll body ∨ c = .valveMode body
      (¬ watered → (∀ body, c ≠ .runAdjust body) → t.runs = s.runs) ∧
      (¬ watered → t.valveLive = s.valveLive ∧ t.mv = s.mv) ∧
      (¬ watered → (∀ body, c ≠ .bedState body) → t.bedLive = s.bedLive) ∧
      (¬ watered → c ≠ .cycleMark → c ≠ .commandSlotStart → (∀ body, c ≠ .pass body) → t.lcq = s.lcq) ∧
      (¬ watered → (∀ x, c ≠ .flowEdge x ∧ ∀ l, c ≠ .inputLevelChange x l) → t.monitor = s.monitor) ∧
      (¬ sequenced → c ≠ .beaconSilenceExpiry → s.seq.state ≠ .stopping → t.beacon = s.beacon) ∧
      (¬ sequenced → ¬ answeredOnLine → c ≠ .upstreamFrameEnd → s.seq.state ≠ .stopping →
        reportsHeld t = reportsHeld s) ∧
      (¬ received → c ≠ .answerEnd → (∀ kind body, c ≠ requestInstr kind body) → t.hub.requests = s.hub.requests))

/-! ## The laws of the device, kept by every step -/

/-- Nothing is owed between steps, and MV is asserted exactly under its three conditions (07 R139). -/
def Obligations.StepKeepsRestAndMasterValve : Prop :=
  ∀ s t : State, Rested s → step s = .next t → Rested t ∧
    (t.mv = true ↔ t.supplyRec.active.masterValve = true ∧ t.locks.cond.supply = false ∧
      ∃ v : Fin 32, t.valves[v].active.used = true ∧
        (t.valveLive[v].state = .opening ∨ t.valveLive[v].state = .opened ∨ t.valveLive[v].state = .closing ∨
          t.valveLive[v].state = .fault ∧ t.valveLive[v].assumedOpen = true))

/-- LPWR follows the sequencer state (02 R20), miss counts stay in their range (03 R37), and a valve is DETACHED in state
exactly when in mode (07 R121). -/
def Obligations.StepKeepsPowerPresenceAndDetachment : Prop :=
  ∀ s t : State, step s = .next t →
    (PowerLaw s → PowerLaw t) ∧ (MissLaw s → MissLaw t) ∧ (DetachedLaw s → DetachedLaw t)

/-- At most one run per bed, and HUB runs stand in front (06 R93, R94). -/
def Obligations.StepKeepsTheRunQueueInOrder : Prop :=
  ∀ s t : State, QueueLaw s → SectionLaw s → step s = .next t → QueueLaw t ∧ SectionLaw t

/-- A run never delivers more than its planned seconds (06 R101). -/
def Obligations.StepKeepsRunSeconds : Prop := ∀ s t : State, SecondsLaw s → step s = .next t → SecondsLaw t

/-- Deficits stay within 0..2000 and estimates within 0..1000 (05 R71). -/
def Obligations.StepKeepsBalancesInRange : Prop :=
  ∀ s t : State, BalanceLaw s → BedRecordsLaw s → step s = .next t → BalanceLaw t ∧ BedRecordsLaw t

/-- The effective lock is always the one composed from the sources that are enabled and active, and it is composed as 08 R148
says. -/
def Obligations.StepKeepsTheEffectiveLock : Prop :=
  (∀ s : State, LockLaw s ↔ LockComposed s) ∧
  (∀ s t : State, LockLaw s → step s = .next t → LockLaw t ∧ LockComposed t)

/-- No run is ON outside RUNNING or under an IMMEDIATE lock (06 R108). Every ON run owns its bed's valve, AUTO and OPENING or
OPEN, and no valve is owned else (06 R95); the ON runs are at most S_max and their valves' flows at most Fcap (06 R99). These
laws hold together with what keeps them: used beds under the runs, opens that wait for OPENING valves alone, no beacon timer
and no owed clearing while marks are sent, and consistent tables. -/
def Obligations.StepKeepsRunsOnOnlyInRunning : Prop :=
  ∀ s t : State, step s = .next t →
    (QueueLaw s → OnLaw s → OnLaw t) ∧ (WateringLaw s → WateringLaw t)

/-- The command FIFO, the report FIFO and the request queue keep their sizes, a valve has one command waiting at most, and the
PASSes in the FIFO with the PASS_REPLYs that wait are at most 16 (01 R12, 03 R46, 11 R181, R182, R184). -/
def Obligations.StepKeepsTheQueuesBounded : Prop :=
  ∀ s t : State, step s = .next t → (FifoLaw s → FifoLaw t) ∧ (OneCommandLaw s → OneCommandLaw t) ∧
    (PortLaw s → PortLaw t) ∧ (PassLaw s → PassLaw t ∧ t.hub.passWait.length ≤ 16)

/-- The active tables pass every cross check, where the SWAP_DUE entries are the pending ones that passed them. The cross checks
are the ten of the rule, and validation names the entry whose application gives the first view that fails (10 R170). The entries
of an update in progress swap in swap order, each into its pending copy, and no step leaves a head entry waiting whose condition
holds: where it waits, it swaps in the very step in which a valve settles, a run is removed or a mark is about to be sent (10
R171 to R173). -/
def Obligations.StepKeepsTheTablesConsistent : Prop :=
  (∀ s : State, TableLaw s ↔ TablesPass s) ∧
  (∀ (xs : List Slot) (x : Slot) (s : State), firstFailure xs s = some x ↔
    ∃ pre post, xs = pre ++ x :: post ∧ ¬ TablesPass (viewAfter s (pre ++ [x])) ∧
      ∀ zs, zs ≠ [] → zs <+: pre → TablesPass (viewAfter s zs)) ∧
  (∀ s t : State, StagedLaw s → step s = .next t → StagedLaw t ∧ TablesPass t) ∧
  (∀ s t : State, StagedLaw s → ¬ NoSwapDue s → step s = .next t →
    (∀ rest, s.pending ≠ .powerOnReset :: rest ∧ (s.hub.resetOwed = true → s.pending ≠ .answerEnd :: rest)) →
    ∃ swapped : List Slot, allSlots.filter (slotDue s) = swapped ++ allSlots.filter (slotDue t) ∧
      (∀ z ∈ swapped, pendingBytes s z = some (activeBytes t z) ∧ pendingBytes t z = none) ∧
      (∀ z, slotDue t z = true → activeBytes t z = activeBytes s z ∧ pendingBytes t z = pendingBytes s z)) ∧
  (∀ s t : State, WateringLaw s → Rested s → (∀ x, headDue s = some x → ¬ SwapCondition s x) → step s = .next t →
    ∀ x, headDue t = some x → ¬ SwapCondition t x)

/-! ## Swaps -/

/-- UPDATE of one pending entry whose condition holds swaps it at once, with the effects that 10 R175 names for its table: node
(03 R47, 04 R50, R54, R63, 07 R131), poll, valve (07 R140, 09 R159, 10 R175), bed (05 R87 to R89), supply record (08 R143, 09
R163), line settings (01 R2, 02 R29), weather record and drying table (04 R63), lock record (08 R142). Said outside STOPPING,
where a report may end the state; a valve's live state outside RUNNING, where the grant pass that follows may open it. That
an estimate made invalid keeps its number (log 18), and that an identical node record too clears the last forwarded value
(log 27), are the model's, and so is the memory of a measure that a line settings swap ends (log 37). What the Weather Unit's
reference time holds once the WEATHER entry is removed is not claimed, for the manual does not say (log 42). -/
def Obligations.SwapsActAsTheirTablesSay : Prop :=
  ∀ (code : Byte) (xs : List Slot) (x : Slot) (s : State),
    Takes 0x03 [code] s → Rested s → NoSwapDue s → namedSlots code.toNat = some xs → xs.filter (slotPending s) = [x] →
    firstFailure [x] s = none → slotReady s x = true → s.seq.state ≠ .stopping → TableLaw s → QueueLaw s → LockLaw s →
    ∃ t, exec (.update [code]) s = .next t ∧ answerOf t = some { kind := 0x83, body := [0, 1, 0] } ∧ NoSwapDue t ∧
      t.notice.isSet .updateDone = true ∧ pendingBytes t x = none ∧ pendingBytes s x = some (activeBytes t x) ∧
      (∀ y, y ≠ x → activeBytes t y = activeBytes s y ∧ pendingBytes t y = pendingBytes s y) ∧
      t.seq.state = s.seq.state ∧ t.seq.cycleLength = s.seq.cycleLength ∧ t.seq.replyWindow = s.seq.replyWindow ∧
      (∀ n : Fin 48, x = .node n →
        let old := s.nodes[n].active
        let new := t.nodes[n].active
        let l := s.nodeLive[n]
        let moved := old.address ≠ new.address ∨ old.kind ≠ new.kind
        let weather := s.weather
        (moved → t.nodeLive[n] = { presence := .absent, misses := 0, forwarded := none
                                   changed := l.changed || l.presence != .absent }) ∧
        (moved → l.presence ≠ .absent → t.notice.isSet .nodeChange = true) ∧
        (¬ moved → t.nodeLive[n] = { l with forwarded := none }) ∧
        (∀ m : Fin 48, m ≠ n → t.nodeLive[m] = s.nodeLive[m]) ∧
        (new.kind = .soilProbe → moved ∨ old.dry ≠ new.dry ∨ old.wet ≠ new.wet →
          t.probes[n] = some { state := .ok, rejects := 0, lastCount := none, reference := s.partTime }) ∧
        (new.kind = .soilProbe → ¬ (moved ∨ old.dry ≠ new.dry ∨ old.wet ≠ new.wet) → ∀ p, s.probes[n] = some p →
          t.probes[n] = some (if p.state = .faulted then { p with state := .ok, rejects := 0 } else p)) ∧
        (new.kind ≠ .soilProbe → t.probes[n] = none) ∧
        (new.kind = .weather → t.weather = if moved then
            { weather with status := .waiting, reference := some s.partTime, baseline := none }
          else { weather with baseline := none }) ∧
        (new.kind ≠ .weather → old.kind = .weather → t.weather.status = .noNode ∧ t.weather.baseline = none ∧
          t.weather.temperature = weather.temperature ∧ t.weather.wind = weather.wind ∧ t.weather.rate = weather.rate) ∧
        (new.kind ≠ .weather → old.kind ≠ .weather → t.weather = weather) ∧
        (old.kind = .weather → weather.status = .fresh → t.weather.status ≠ .fresh →
          DemandsMade (Asks s) (s.runs.map (·.bed)) s t ∧
          ∀ b : Fin 24, s.beds[b].active.used = true → ∀ m, s.bedLive[b] = some m →
            t.bedLive[b] = some (BedLive.accrue weather.rate s.beds[b].active.dryingExposure s.partTime m)) ∧
        (∀ v : Fin 32, s.valves[v].active.used = true → s.valves[v].active.decoder = n.val → old.kind = .valveDecoder →
          moved → DecoderLost v s t) ∧
        (old.kind ≠ .valveDecoder ∨ ¬ moved → t.valveLive = s.valveLive)) ∧
      ((∃ i, x = .poll i) → OnlyTablesChange { s with hub := t.hub, notice := t.notice } t) ∧
      (∀ v : Fin 32, x = .valve v →
        let old := s.valves[v].active
        let new := t.valves[v].active
        let l := s.valveLive[v]
        let rewired := old.decoder ≠ new.decoder ∨ old.output ≠ new.output
        let plain := { l with state := .closed, mode := .auto, owner := none, attempts := 0 }
        t.monitor.lastChange = s.partTime ∧ (∀ w, t.monitor.window = some w → w.changed = true) ∧
        (s.seq.state ≠ .running →
          (old.used = false → new.used = true → t.valveLive[v] = { plain with assumedOpen := false }) ∧
          (old.used = true → new.used = false → t.valveLive[v] = plain) ∧
          (old.used = true → new.used = true → t.valveLive[v] =
            if rewired ∧ l.state = .fault then { l with state := .closed, attempts := 0 } else l) ∧
          (old.used = true → new.used = false ∨ rewired → l.state = .fault → commandWaits t v = false) ∧
          (∀ w : Fin 32, w ≠ v → t.valveLive[w] = s.valveLive[w]))) ∧
      (∀ b : Fin 24, x = .bed b →
        let old := s.beds[b].active
        let new := t.beds[b].active
        let sameProbes := ∀ n : Fin 48, old.names n = new.names n
        (new.used = false → t.bedLive[b] = none) ∧
        (new.used = true → old.used = false → t.bedLive[b] = some {
          estimate := 0, estimateValid := false, deficit := 0, accrualResidue := 0, rainResidue := 0, waterResidue := 0
          lastAccrual := s.partTime, holdEnd := none, probeStale := false, evaluateAt := s.partTime + 600 }) ∧
        (new.used = true → old.used = true → ∀ l, s.bedLive[b] = some l →
          let a := BedLive.accrue (effectiveRate s b) old.dryingExposure s.partTime l
          let kept := { a with waterResidue := if old.area = new.area then a.waterResidue else 0 }
          (sameProbes → t.bedLive[b] = some kept) ∧
          (¬ sameProbes → t.bedLive[b] = some { kept with estimateValid := false, probeStale := false })) ∧
        (∀ c : Fin 24, c ≠ b → t.bedLive[c] = s.bedLive[c]) ∧
        (let u := { s with beds := t.beds }
         DemandsMade (fun c l => c = b ∧ Asks u b l) (s.runs.map (·.bed)) u t)) ∧
      (x = .supply →
        let old := s.supplyRec.active
        let new := t.supplyRec.active
        (∀ i : InputId, t.monitor.input i =
          if old.action i = new.action i then s.monitor.input i
          else InputLive.fresh (s.monitor.input i).level s.partTime s.micros) ∧
        t.monitor.highCount = 0 ∧ t.monitor.lowCount = 0 ∧ t.monitor.leakCount = 0 ∧
        (new.actionA = .flow ∨ new.actionB = .flow → t.monitor.result = s.monitor.result ∧
          ∃ w, t.monitor.window = some w ∧ w.start = s.partTime ∧ w.count = 0) ∧
        (new.actionA ≠ .flow → new.actionB ≠ .flow → t.monitor.result = none ∧ t.monitor.window = none) ∧
        (t.locks.cond.rainContact = true ↔
          ∃ i, new.action i = .rainContact ∧ (t.monitor.input i).stable = some .low) ∧ LockMoved s t) ∧
      (x = .line → OnlyTablesChange { s with hub := t.hub, notice := t.notice, mon := t.mon } t ∧
        let above := s.lpwr = true ∧ 50 * t.lineRec.active.trip < s.mon.sensed
        (above → t.mon = { s.mon with measureSince := some (s.mon.measureSince.getD s.partTime) }) ∧
        (¬ above → s.mon.measureSince = none → t.mon = s.mon) ∧
        (¬ above → s.mon.measureSince.isSome = true → t.mon = { s.mon with
          measureSince := none, swapEnded := some (s.partTime * 1000000 + s.micros.val) })) ∧
      (x = .weather ∨ x = .drying →
        t.weather = { s.weather with
          rate := t.weather.rate
          baseline := if s.weatherRec.active.source = t.weatherRec.active.source then s.weather.baseline else none } ∧
        (s.weather.status ≠ .fresh → t.weather.rate = s.weather.rate) ∧
        (s.weather.status = .fresh → RateIs t.drying.active.bands t.weatherRec.active.windFactor s.weather.temperature
          s.weather.wind t.weather.rate) ∧
        (t.weather.rate = s.weather.rate → t.bedLive = s.bedLive ∧ t.runs = s.runs) ∧
        (t.weather.rate ≠ s.weather.rate → DemandsMade (Asks s) (s.runs.map (·.bed)) s t ∧
          ∀ b : Fin 24, s.beds[b].active.used = true → ∀ l, s.bedLive[b] = some l →
            t.bedLive[b] = some (BedLive.accrue s.weather.rate s.beds[b].active.dryingExposure s.partTime l))) ∧
      (∀ i : Fin 5, x = .lock i → LockMoved s t ∧ t.locks.rainHold = s.locks.rainHold ∧ t.locks.handed = s.locks.handed ∧
        t.locks.cond = { s.locks.cond with freeze := t.locks.cond.freeze, wind := t.locks.cond.wind } ∧
        (s.locks.handed = none ∨ i ≠ 2 → t.locks.cond.freeze = s.locks.cond.freeze) ∧
        (s.locks.handed = none ∨ i ≠ 3 → t.locks.cond.wind = s.locks.cond.wind) ∧
        (∀ temp wind, s.locks.handed = some (temp, wind) → i = 2 →
          let r := t.lockRecs[2].active
          (t.locks.cond.freeze = true ↔ temp ≤ r.freezeThreshold ∨
            s.locks.cond.freeze = true ∧ r.second ≠ 0 ∧ temp < r.freezeThreshold + r.second)) ∧
        (∀ temp wind, s.locks.handed = some (temp, wind) → i = 3 →
          let r := t.lockRecs[3].active
          (t.locks.cond.wind = true ↔ r.first ≤ wind ∨
            s.locks.cond.wind = true ∧ r.second ≠ 0 ∧ r.first < wind + r.second)))
end

