-- ==== Sys2Proof/Laws/State.lean ====
section
/-! SUPPORT. One lemma per field per setter of the state: the field set, and every other field left as it was. -/

namespace Sys2Proof.Machine

variable (s : State)

@[simp] theorem State.setValveLive_partTime (v : Fin 32) (l : ValveLive) : (s.setValveLive v l).partTime = s.partTime := rfl
@[simp] theorem State.setValveLive_micros (v : Fin 32) (l : ValveLive) : (s.setValveLive v l).micros = s.micros := rfl
@[simp] theorem State.setValveLive_clock (v : Fin 32) (l : ValveLive) : (s.setValveLive v l).clock = s.clock := rfl
@[simp] theorem State.setValveLive_seq (v : Fin 32) (l : ValveLive) : (s.setValveLive v l).seq = s.seq := rfl
@[simp] theorem State.setValveLive_lpwr (v : Fin 32) (l : ValveLive) : (s.setValveLive v l).lpwr = s.lpwr := rfl
@[simp] theorem State.setValveLive_mon (v : Fin 32) (l : ValveLive) : (s.setValveLive v l).mon = s.mon := rfl
@[simp] theorem State.setValveLive_lcq (v : Fin 32) (l : ValveLive) : (s.setValveLive v l).lcq = s.lcq := rfl
@[simp] theorem State.setValveLive_nodes (v : Fin 32) (l : ValveLive) : (s.setValveLive v l).nodes = s.nodes := rfl
@[simp] theorem State.setValveLive_nodeLive (v : Fin 32) (l : ValveLive) : (s.setValveLive v l).nodeLive = s.nodeLive := rfl
@[simp] theorem State.setValveLive_rollPtr (v : Fin 32) (l : ValveLive) : (s.setValveLive v l).rollPtr = s.rollPtr := rfl
@[simp] theorem State.setValveLive_polls (v : Fin 32) (l : ValveLive) : (s.setValveLive v l).polls = s.polls := rfl
@[simp] theorem State.setValveLive_probes (v : Fin 32) (l : ValveLive) : (s.setValveLive v l).probes = s.probes := rfl
@[simp] theorem State.setValveLive_weather (v : Fin 32) (l : ValveLive) : (s.setValveLive v l).weather = s.weather := rfl
@[simp] theorem State.setValveLive_weatherRec (v : Fin 32) (l : ValveLive) : (s.setValveLive v l).weatherRec = s.weatherRec := rfl
@[simp] theorem State.setValveLive_drying (v : Fin 32) (l : ValveLive) : (s.setValveLive v l).drying = s.drying := rfl
@[simp] theorem State.setValveLive_beds (v : Fin 32) (l : ValveLive) : (s.setValveLive v l).beds = s.beds := rfl
@[simp] theorem State.setValveLive_bedLive (v : Fin 32) (l : ValveLive) : (s.setValveLive v l).bedLive = s.bedLive := rfl
@[simp] theorem State.setValveLive_runs (v : Fin 32) (l : ValveLive) : (s.setValveLive v l).runs = s.runs := rfl
@[simp] theorem State.setValveLive_valves (v : Fin 32) (l : ValveLive) : (s.setValveLive v l).valves = s.valves := rfl
@[simp] theorem State.setValveLive_valveLive (v : Fin 32) (l : ValveLive) : (s.setValveLive v l).valveLive = s.valveLive.set v l := rfl
@[simp] theorem State.setValveLive_beacon (v : Fin 32) (l : ValveLive) : (s.setValveLive v l).beacon = s.beacon := rfl
@[simp] theorem State.setValveLive_mv (v : Fin 32) (l : ValveLive) : (s.setValveLive v l).mv = s.mv := rfl
@[simp] theorem State.setValveLive_locks (v : Fin 32) (l : ValveLive) : (s.setValveLive v l).locks = s.locks := rfl
@[simp] theorem State.setValveLive_lockRecs (v : Fin 32) (l : ValveLive) : (s.setValveLive v l).lockRecs = s.lockRecs := rfl
@[simp] theorem State.setValveLive_supplyRec (v : Fin 32) (l : ValveLive) : (s.setValveLive v l).supplyRec = s.supplyRec := rfl
@[simp] theorem State.setValveLive_monitor (v : Fin 32) (l : ValveLive) : (s.setValveLive v l).monitor = s.monitor := rfl
@[simp] theorem State.setValveLive_lineRec (v : Fin 32) (l : ValveLive) : (s.setValveLive v l).lineRec = s.lineRec := rfl
@[simp] theorem State.setValveLive_hub (v : Fin 32) (l : ValveLive) : (s.setValveLive v l).hub = s.hub := rfl
@[simp] theorem State.setValveLive_notice (v : Fin 32) (l : ValveLive) : (s.setValveLive v l).notice = s.notice := rfl
@[simp] theorem State.setValveLive_work (v : Fin 32) (l : ValveLive) : (s.setValveLive v l).work = s.work := rfl
@[simp] theorem State.setValveLive_choice (v : Fin 32) (l : ValveLive) : (s.setValveLive v l).choice = s.choice := rfl
@[simp] theorem State.setValveLive_pending (v : Fin 32) (l : ValveLive) : (s.setValveLive v l).pending = s.pending := rfl

@[simp] theorem State.setNodeLive_partTime (n : Fin 48) (l : NodeLive) : (s.setNodeLive n l).partTime = s.partTime := rfl
@[simp] theorem State.setNodeLive_micros (n : Fin 48) (l : NodeLive) : (s.setNodeLive n l).micros = s.micros := rfl
@[simp] theorem State.setNodeLive_clock (n : Fin 48) (l : NodeLive) : (s.setNodeLive n l).clock = s.clock := rfl
@[simp] theorem State.setNodeLive_seq (n : Fin 48) (l : NodeLive) : (s.setNodeLive n l).seq = s.seq := rfl
@[simp] theorem State.setNodeLive_lpwr (n : Fin 48) (l : NodeLive) : (s.setNodeLive n l).lpwr = s.lpwr := rfl
@[simp] theorem State.setNodeLive_mon (n : Fin 48) (l : NodeLive) : (s.setNodeLive n l).mon = s.mon := rfl
@[simp] theorem State.setNodeLive_lcq (n : Fin 48) (l : NodeLive) : (s.setNodeLive n l).lcq = s.lcq := rfl
@[simp] theorem State.setNodeLive_nodes (n : Fin 48) (l : NodeLive) : (s.setNodeLive n l).nodes = s.nodes := rfl
@[simp] theorem State.setNodeLive_nodeLive (n : Fin 48) (l : NodeLive) : (s.setNodeLive n l).nodeLive = s.nodeLive.set n l := rfl
@[simp] theorem State.setNodeLive_rollPtr (n : Fin 48) (l : NodeLive) : (s.setNodeLive n l).rollPtr = s.rollPtr := rfl
@[simp] theorem State.setNodeLive_polls (n : Fin 48) (l : NodeLive) : (s.setNodeLive n l).polls = s.polls := rfl
@[simp] theorem State.setNodeLive_probes (n : Fin 48) (l : NodeLive) : (s.setNodeLive n l).probes = s.probes := rfl
@[simp] theorem State.setNodeLive_weather (n : Fin 48) (l : NodeLive) : (s.setNodeLive n l).weather = s.weather := rfl
@[simp] theorem State.setNodeLive_weatherRec (n : Fin 48) (l : NodeLive) : (s.setNodeLive n l).weatherRec = s.weatherRec := rfl
@[simp] theorem State.setNodeLive_drying (n : Fin 48) (l : NodeLive) : (s.setNodeLive n l).drying = s.drying := rfl
@[simp] theorem State.setNodeLive_beds (n : Fin 48) (l : NodeLive) : (s.setNodeLive n l).beds = s.beds := rfl
@[simp] theorem State.setNodeLive_bedLive (n : Fin 48) (l : NodeLive) : (s.setNodeLive n l).bedLive = s.bedLive := rfl
@[simp] theorem State.setNodeLive_runs (n : Fin 48) (l : NodeLive) : (s.setNodeLive n l).runs = s.runs := rfl
@[simp] theorem State.setNodeLive_valves (n : Fin 48) (l : NodeLive) : (s.setNodeLive n l).valves = s.valves := rfl
@[simp] theorem State.setNodeLive_valveLive (n : Fin 48) (l : NodeLive) : (s.setNodeLive n l).valveLive = s.valveLive := rfl
@[simp] theorem State.setNodeLive_beacon (n : Fin 48) (l : NodeLive) : (s.setNodeLive n l).beacon = s.beacon := rfl
@[simp] theorem State.setNodeLive_mv (n : Fin 48) (l : NodeLive) : (s.setNodeLive n l).mv = s.mv := rfl
@[simp] theorem State.setNodeLive_locks (n : Fin 48) (l : NodeLive) : (s.setNodeLive n l).locks = s.locks := rfl
@[simp] theorem State.setNodeLive_lockRecs (n : Fin 48) (l : NodeLive) : (s.setNodeLive n l).lockRecs = s.lockRecs := rfl
@[simp] theorem State.setNodeLive_supplyRec (n : Fin 48) (l : NodeLive) : (s.setNodeLive n l).supplyRec = s.supplyRec := rfl
@[simp] theorem State.setNodeLive_monitor (n : Fin 48) (l : NodeLive) : (s.setNodeLive n l).monitor = s.monitor := rfl
@[simp] theorem State.setNodeLive_lineRec (n : Fin 48) (l : NodeLive) : (s.setNodeLive n l).lineRec = s.lineRec := rfl
@[simp] theorem State.setNodeLive_hub (n : Fin 48) (l : NodeLive) : (s.setNodeLive n l).hub = s.hub := rfl
@[simp] theorem State.setNodeLive_notice (n : Fin 48) (l : NodeLive) : (s.setNodeLive n l).notice = s.notice := rfl
@[simp] theorem State.setNodeLive_work (n : Fin 48) (l : NodeLive) : (s.setNodeLive n l).work = s.work := rfl
@[simp] theorem State.setNodeLive_choice (n : Fin 48) (l : NodeLive) : (s.setNodeLive n l).choice = s.choice := rfl
@[simp] theorem State.setNodeLive_pending (n : Fin 48) (l : NodeLive) : (s.setNodeLive n l).pending = s.pending := rfl

@[simp] theorem State.setProbe_partTime (n : Fin 48) (p : Option ProbeLive) : (s.setProbe n p).partTime = s.partTime := rfl
@[simp] theorem State.setProbe_micros (n : Fin 48) (p : Option ProbeLive) : (s.setProbe n p).micros = s.micros := rfl
@[simp] theorem State.setProbe_clock (n : Fin 48) (p : Option ProbeLive) : (s.setProbe n p).clock = s.clock := rfl
@[simp] theorem State.setProbe_seq (n : Fin 48) (p : Option ProbeLive) : (s.setProbe n p).seq = s.seq := rfl
@[simp] theorem State.setProbe_lpwr (n : Fin 48) (p : Option ProbeLive) : (s.setProbe n p).lpwr = s.lpwr := rfl
@[simp] theorem State.setProbe_mon (n : Fin 48) (p : Option ProbeLive) : (s.setProbe n p).mon = s.mon := rfl
@[simp] theorem State.setProbe_lcq (n : Fin 48) (p : Option ProbeLive) : (s.setProbe n p).lcq = s.lcq := rfl
@[simp] theorem State.setProbe_nodes (n : Fin 48) (p : Option ProbeLive) : (s.setProbe n p).nodes = s.nodes := rfl
@[simp] theorem State.setProbe_nodeLive (n : Fin 48) (p : Option ProbeLive) : (s.setProbe n p).nodeLive = s.nodeLive := rfl
@[simp] theorem State.setProbe_rollPtr (n : Fin 48) (p : Option ProbeLive) : (s.setProbe n p).rollPtr = s.rollPtr := rfl
@[simp] theorem State.setProbe_polls (n : Fin 48) (p : Option ProbeLive) : (s.setProbe n p).polls = s.polls := rfl
@[simp] theorem State.setProbe_probes (n : Fin 48) (p : Option ProbeLive) : (s.setProbe n p).probes = s.probes.set n p := rfl
@[simp] theorem State.setProbe_weather (n : Fin 48) (p : Option ProbeLive) : (s.setProbe n p).weather = s.weather := rfl
@[simp] theorem State.setProbe_weatherRec (n : Fin 48) (p : Option ProbeLive) : (s.setProbe n p).weatherRec = s.weatherRec := rfl
@[simp] theorem State.setProbe_drying (n : Fin 48) (p : Option ProbeLive) : (s.setProbe n p).drying = s.drying := rfl
@[simp] theorem State.setProbe_beds (n : Fin 48) (p : Option ProbeLive) : (s.setProbe n p).beds = s.beds := rfl
@[simp] theorem State.setProbe_bedLive (n : Fin 48) (p : Option ProbeLive) : (s.setProbe n p).bedLive = s.bedLive := rfl
@[simp] theorem State.setProbe_runs (n : Fin 48) (p : Option ProbeLive) : (s.setProbe n p).runs = s.runs := rfl
@[simp] theorem State.setProbe_valves (n : Fin 48) (p : Option ProbeLive) : (s.setProbe n p).valves = s.valves := rfl
@[simp] theorem State.setProbe_valveLive (n : Fin 48) (p : Option ProbeLive) : (s.setProbe n p).valveLive = s.valveLive := rfl
@[simp] theorem State.setProbe_beacon (n : Fin 48) (p : Option ProbeLive) : (s.setProbe n p).beacon = s.beacon := rfl
@[simp] theorem State.setProbe_mv (n : Fin 48) (p : Option ProbeLive) : (s.setProbe n p).mv = s.mv := rfl
@[simp] theorem State.setProbe_locks (n : Fin 48) (p : Option ProbeLive) : (s.setProbe n p).locks = s.locks := rfl
@[simp] theorem State.setProbe_lockRecs (n : Fin 48) (p : Option ProbeLive) : (s.setProbe n p).lockRecs = s.lockRecs := rfl
@[simp] theorem State.setProbe_supplyRec (n : Fin 48) (p : Option ProbeLive) : (s.setProbe n p).supplyRec = s.supplyRec := rfl
@[simp] theorem State.setProbe_monitor (n : Fin 48) (p : Option ProbeLive) : (s.setProbe n p).monitor = s.monitor := rfl
@[simp] theorem State.setProbe_lineRec (n : Fin 48) (p : Option ProbeLive) : (s.setProbe n p).lineRec = s.lineRec := rfl
@[simp] theorem State.setProbe_hub (n : Fin 48) (p : Option ProbeLive) : (s.setProbe n p).hub = s.hub := rfl
@[simp] theorem State.setProbe_notice (n : Fin 48) (p : Option ProbeLive) : (s.setProbe n p).notice = s.notice := rfl
@[simp] theorem State.setProbe_work (n : Fin 48) (p : Option ProbeLive) : (s.setProbe n p).work = s.work := rfl
@[simp] theorem State.setProbe_choice (n : Fin 48) (p : Option ProbeLive) : (s.setProbe n p).choice = s.choice := rfl
@[simp] theorem State.setProbe_pending (n : Fin 48) (p : Option ProbeLive) : (s.setProbe n p).pending = s.pending := rfl

@[simp] theorem State.setBedLive_partTime (b : Fin 24) (l : Option BedLive) : (s.setBedLive b l).partTime = s.partTime := rfl
@[simp] theorem State.setBedLive_micros (b : Fin 24) (l : Option BedLive) : (s.setBedLive b l).micros = s.micros := rfl
@[simp] theorem State.setBedLive_clock (b : Fin 24) (l : Option BedLive) : (s.setBedLive b l).clock = s.clock := rfl
@[simp] theorem State.setBedLive_seq (b : Fin 24) (l : Option BedLive) : (s.setBedLive b l).seq = s.seq := rfl
@[simp] theorem State.setBedLive_lpwr (b : Fin 24) (l : Option BedLive) : (s.setBedLive b l).lpwr = s.lpwr := rfl
@[simp] theorem State.setBedLive_mon (b : Fin 24) (l : Option BedLive) : (s.setBedLive b l).mon = s.mon := rfl
@[simp] theorem State.setBedLive_lcq (b : Fin 24) (l : Option BedLive) : (s.setBedLive b l).lcq = s.lcq := rfl
@[simp] theorem State.setBedLive_nodes (b : Fin 24) (l : Option BedLive) : (s.setBedLive b l).nodes = s.nodes := rfl
@[simp] theorem State.setBedLive_nodeLive (b : Fin 24) (l : Option BedLive) : (s.setBedLive b l).nodeLive = s.nodeLive := rfl
@[simp] theorem State.setBedLive_rollPtr (b : Fin 24) (l : Option BedLive) : (s.setBedLive b l).rollPtr = s.rollPtr := rfl
@[simp] theorem State.setBedLive_polls (b : Fin 24) (l : Option BedLive) : (s.setBedLive b l).polls = s.polls := rfl
@[simp] theorem State.setBedLive_probes (b : Fin 24) (l : Option BedLive) : (s.setBedLive b l).probes = s.probes := rfl
@[simp] theorem State.setBedLive_weather (b : Fin 24) (l : Option BedLive) : (s.setBedLive b l).weather = s.weather := rfl
@[simp] theorem State.setBedLive_weatherRec (b : Fin 24) (l : Option BedLive) : (s.setBedLive b l).weatherRec = s.weatherRec := rfl
@[simp] theorem State.setBedLive_drying (b : Fin 24) (l : Option BedLive) : (s.setBedLive b l).drying = s.drying := rfl
@[simp] theorem State.setBedLive_beds (b : Fin 24) (l : Option BedLive) : (s.setBedLive b l).beds = s.beds := rfl
@[simp] theorem State.setBedLive_bedLive (b : Fin 24) (l : Option BedLive) : (s.setBedLive b l).bedLive = s.bedLive.set b l := rfl
@[simp] theorem State.setBedLive_runs (b : Fin 24) (l : Option BedLive) : (s.setBedLive b l).runs = s.runs := rfl
@[simp] theorem State.setBedLive_valves (b : Fin 24) (l : Option BedLive) : (s.setBedLive b l).valves = s.valves := rfl
@[simp] theorem State.setBedLive_valveLive (b : Fin 24) (l : Option BedLive) : (s.setBedLive b l).valveLive = s.valveLive := rfl
@[simp] theorem State.setBedLive_beacon (b : Fin 24) (l : Option BedLive) : (s.setBedLive b l).beacon = s.beacon := rfl
@[simp] theorem State.setBedLive_mv (b : Fin 24) (l : Option BedLive) : (s.setBedLive b l).mv = s.mv := rfl
@[simp] theorem State.setBedLive_locks (b : Fin 24) (l : Option BedLive) : (s.setBedLive b l).locks = s.locks := rfl
@[simp] theorem State.setBedLive_lockRecs (b : Fin 24) (l : Option BedLive) : (s.setBedLive b l).lockRecs = s.lockRecs := rfl
@[simp] theorem State.setBedLive_supplyRec (b : Fin 24) (l : Option BedLive) : (s.setBedLive b l).supplyRec = s.supplyRec := rfl
@[simp] theorem State.setBedLive_monitor (b : Fin 24) (l : Option BedLive) : (s.setBedLive b l).monitor = s.monitor := rfl
@[simp] theorem State.setBedLive_lineRec (b : Fin 24) (l : Option BedLive) : (s.setBedLive b l).lineRec = s.lineRec := rfl
@[simp] theorem State.setBedLive_hub (b : Fin 24) (l : Option BedLive) : (s.setBedLive b l).hub = s.hub := rfl
@[simp] theorem State.setBedLive_notice (b : Fin 24) (l : Option BedLive) : (s.setBedLive b l).notice = s.notice := rfl
@[simp] theorem State.setBedLive_work (b : Fin 24) (l : Option BedLive) : (s.setBedLive b l).work = s.work := rfl
@[simp] theorem State.setBedLive_choice (b : Fin 24) (l : Option BedLive) : (s.setBedLive b l).choice = s.choice := rfl
@[simp] theorem State.setBedLive_pending (b : Fin 24) (l : Option BedLive) : (s.setBedLive b l).pending = s.pending := rfl

@[simp] theorem State.setRuns_partTime (rs : List Run) : (s.setRuns rs).partTime = s.partTime := rfl
@[simp] theorem State.setRuns_micros (rs : List Run) : (s.setRuns rs).micros = s.micros := rfl
@[simp] theorem State.setRuns_clock (rs : List Run) : (s.setRuns rs).clock = s.clock := rfl
@[simp] theorem State.setRuns_seq (rs : List Run) : (s.setRuns rs).seq = s.seq := rfl
@[simp] theorem State.setRuns_lpwr (rs : List Run) : (s.setRuns rs).lpwr = s.lpwr := rfl
@[simp] theorem State.setRuns_mon (rs : List Run) : (s.setRuns rs).mon = s.mon := rfl
@[simp] theorem State.setRuns_lcq (rs : List Run) : (s.setRuns rs).lcq = s.lcq := rfl
@[simp] theorem State.setRuns_nodes (rs : List Run) : (s.setRuns rs).nodes = s.nodes := rfl
@[simp] theorem State.setRuns_nodeLive (rs : List Run) : (s.setRuns rs).nodeLive = s.nodeLive := rfl
@[simp] theorem State.setRuns_rollPtr (rs : List Run) : (s.setRuns rs).rollPtr = s.rollPtr := rfl
@[simp] theorem State.setRuns_polls (rs : List Run) : (s.setRuns rs).polls = s.polls := rfl
@[simp] theorem State.setRuns_probes (rs : List Run) : (s.setRuns rs).probes = s.probes := rfl
@[simp] theorem State.setRuns_weather (rs : List Run) : (s.setRuns rs).weather = s.weather := rfl
@[simp] theorem State.setRuns_weatherRec (rs : List Run) : (s.setRuns rs).weatherRec = s.weatherRec := rfl
@[simp] theorem State.setRuns_drying (rs : List Run) : (s.setRuns rs).drying = s.drying := rfl
@[simp] theorem State.setRuns_beds (rs : List Run) : (s.setRuns rs).beds = s.beds := rfl
@[simp] theorem State.setRuns_bedLive (rs : List Run) : (s.setRuns rs).bedLive = s.bedLive := rfl
@[simp] theorem State.setRuns_runs (rs : List Run) : (s.setRuns rs).runs = rs := rfl
@[simp] theorem State.setRuns_valves (rs : List Run) : (s.setRuns rs).valves = s.valves := rfl
@[simp] theorem State.setRuns_valveLive (rs : List Run) : (s.setRuns rs).valveLive = s.valveLive := rfl
@[simp] theorem State.setRuns_beacon (rs : List Run) : (s.setRuns rs).beacon = s.beacon := rfl
@[simp] theorem State.setRuns_mv (rs : List Run) : (s.setRuns rs).mv = s.mv := rfl
@[simp] theorem State.setRuns_locks (rs : List Run) : (s.setRuns rs).locks = s.locks := rfl
@[simp] theorem State.setRuns_lockRecs (rs : List Run) : (s.setRuns rs).lockRecs = s.lockRecs := rfl
@[simp] theorem State.setRuns_supplyRec (rs : List Run) : (s.setRuns rs).supplyRec = s.supplyRec := rfl
@[simp] theorem State.setRuns_monitor (rs : List Run) : (s.setRuns rs).monitor = s.monitor := rfl
@[simp] theorem State.setRuns_lineRec (rs : List Run) : (s.setRuns rs).lineRec = s.lineRec := rfl
@[simp] theorem State.setRuns_hub (rs : List Run) : (s.setRuns rs).hub = s.hub := rfl
@[simp] theorem State.setRuns_notice (rs : List Run) : (s.setRuns rs).notice = s.notice := rfl
@[simp] theorem State.setRuns_work (rs : List Run) : (s.setRuns rs).work = s.work := rfl
@[simp] theorem State.setRuns_choice (rs : List Run) : (s.setRuns rs).choice = s.choice := rfl
@[simp] theorem State.setRuns_pending (rs : List Run) : (s.setRuns rs).pending = s.pending := rfl

@[simp] theorem State.setQueue_partTime (q : LineQueue) : (s.setQueue q).partTime = s.partTime := rfl
@[simp] theorem State.setQueue_micros (q : LineQueue) : (s.setQueue q).micros = s.micros := rfl
@[simp] theorem State.setQueue_clock (q : LineQueue) : (s.setQueue q).clock = s.clock := rfl
@[simp] theorem State.setQueue_seq (q : LineQueue) : (s.setQueue q).seq = s.seq := rfl
@[simp] theorem State.setQueue_lpwr (q : LineQueue) : (s.setQueue q).lpwr = s.lpwr := rfl
@[simp] theorem State.setQueue_mon (q : LineQueue) : (s.setQueue q).mon = s.mon := rfl
@[simp] theorem State.setQueue_lcq (q : LineQueue) : (s.setQueue q).lcq = q := rfl
@[simp] theorem State.setQueue_nodes (q : LineQueue) : (s.setQueue q).nodes = s.nodes := rfl
@[simp] theorem State.setQueue_nodeLive (q : LineQueue) : (s.setQueue q).nodeLive = s.nodeLive := rfl
@[simp] theorem State.setQueue_rollPtr (q : LineQueue) : (s.setQueue q).rollPtr = s.rollPtr := rfl
@[simp] theorem State.setQueue_polls (q : LineQueue) : (s.setQueue q).polls = s.polls := rfl
@[simp] theorem State.setQueue_probes (q : LineQueue) : (s.setQueue q).probes = s.probes := rfl
@[simp] theorem State.setQueue_weather (q : LineQueue) : (s.setQueue q).weather = s.weather := rfl
@[simp] theorem State.setQueue_weatherRec (q : LineQueue) : (s.setQueue q).weatherRec = s.weatherRec := rfl
@[simp] theorem State.setQueue_drying (q : LineQueue) : (s.setQueue q).drying = s.drying := rfl
@[simp] theorem State.setQueue_beds (q : LineQueue) : (s.setQueue q).beds = s.beds := rfl
@[simp] theorem State.setQueue_bedLive (q : LineQueue) : (s.setQueue q).bedLive = s.bedLive := rfl
@[simp] theorem State.setQueue_runs (q : LineQueue) : (s.setQueue q).runs = s.runs := rfl
@[simp] theorem State.setQueue_valves (q : LineQueue) : (s.setQueue q).valves = s.valves := rfl
@[simp] theorem State.setQueue_valveLive (q : LineQueue) : (s.setQueue q).valveLive = s.valveLive := rfl
@[simp] theorem State.setQueue_beacon (q : LineQueue) : (s.setQueue q).beacon = s.beacon := rfl
@[simp] theorem State.setQueue_mv (q : LineQueue) : (s.setQueue q).mv = s.mv := rfl
@[simp] theorem State.setQueue_locks (q : LineQueue) : (s.setQueue q).locks = s.locks := rfl
@[simp] theorem State.setQueue_lockRecs (q : LineQueue) : (s.setQueue q).lockRecs = s.lockRecs := rfl
@[simp] theorem State.setQueue_supplyRec (q : LineQueue) : (s.setQueue q).supplyRec = s.supplyRec := rfl
@[simp] theorem State.setQueue_monitor (q : LineQueue) : (s.setQueue q).monitor = s.monitor := rfl
@[simp] theorem State.setQueue_lineRec (q : LineQueue) : (s.setQueue q).lineRec = s.lineRec := rfl
@[simp] theorem State.setQueue_hub (q : LineQueue) : (s.setQueue q).hub = s.hub := rfl
@[simp] theorem State.setQueue_notice (q : LineQueue) : (s.setQueue q).notice = s.notice := rfl
@[simp] theorem State.setQueue_work (q : LineQueue) : (s.setQueue q).work = s.work := rfl
@[simp] theorem State.setQueue_choice (q : LineQueue) : (s.setQueue q).choice = s.choice := rfl
@[simp] theorem State.setQueue_pending (q : LineQueue) : (s.setQueue q).pending = s.pending := rfl

@[simp] theorem State.setSeq_partTime (q : Sequencer) : (s.setSeq q).partTime = s.partTime := rfl
@[simp] theorem State.setSeq_micros (q : Sequencer) : (s.setSeq q).micros = s.micros := rfl
@[simp] theorem State.setSeq_clock (q : Sequencer) : (s.setSeq q).clock = s.clock := rfl
@[simp] theorem State.setSeq_seq (q : Sequencer) : (s.setSeq q).seq = q := rfl
@[simp] theorem State.setSeq_lpwr (q : Sequencer) : (s.setSeq q).lpwr = s.lpwr := rfl
@[simp] theorem State.setSeq_mon (q : Sequencer) : (s.setSeq q).mon = s.mon := rfl
@[simp] theorem State.setSeq_lcq (q : Sequencer) : (s.setSeq q).lcq = s.lcq := rfl
@[simp] theorem State.setSeq_nodes (q : Sequencer) : (s.setSeq q).nodes = s.nodes := rfl
@[simp] theorem State.setSeq_nodeLive (q : Sequencer) : (s.setSeq q).nodeLive = s.nodeLive := rfl
@[simp] theorem State.setSeq_rollPtr (q : Sequencer) : (s.setSeq q).rollPtr = s.rollPtr := rfl
@[simp] theorem State.setSeq_polls (q : Sequencer) : (s.setSeq q).polls = s.polls := rfl
@[simp] theorem State.setSeq_probes (q : Sequencer) : (s.setSeq q).probes = s.probes := rfl
@[simp] theorem State.setSeq_weather (q : Sequencer) : (s.setSeq q).weather = s.weather := rfl
@[simp] theorem State.setSeq_weatherRec (q : Sequencer) : (s.setSeq q).weatherRec = s.weatherRec := rfl
@[simp] theorem State.setSeq_drying (q : Sequencer) : (s.setSeq q).drying = s.drying := rfl
@[simp] theorem State.setSeq_beds (q : Sequencer) : (s.setSeq q).beds = s.beds := rfl
@[simp] theorem State.setSeq_bedLive (q : Sequencer) : (s.setSeq q).bedLive = s.bedLive := rfl
@[simp] theorem State.setSeq_runs (q : Sequencer) : (s.setSeq q).runs = s.runs := rfl
@[simp] theorem State.setSeq_valves (q : Sequencer) : (s.setSeq q).valves = s.valves := rfl
@[simp] theorem State.setSeq_valveLive (q : Sequencer) : (s.setSeq q).valveLive = s.valveLive := rfl
@[simp] theorem State.setSeq_beacon (q : Sequencer) : (s.setSeq q).beacon = s.beacon := rfl
@[simp] theorem State.setSeq_mv (q : Sequencer) : (s.setSeq q).mv = s.mv := rfl
@[simp] theorem State.setSeq_locks (q : Sequencer) : (s.setSeq q).locks = s.locks := rfl
@[simp] theorem State.setSeq_lockRecs (q : Sequencer) : (s.setSeq q).lockRecs = s.lockRecs := rfl
@[simp] theorem State.setSeq_supplyRec (q : Sequencer) : (s.setSeq q).supplyRec = s.supplyRec := rfl
@[simp] theorem State.setSeq_monitor (q : Sequencer) : (s.setSeq q).monitor = s.monitor := rfl
@[simp] theorem State.setSeq_lineRec (q : Sequencer) : (s.setSeq q).lineRec = s.lineRec := rfl
@[simp] theorem State.setSeq_hub (q : Sequencer) : (s.setSeq q).hub = s.hub := rfl
@[simp] theorem State.setSeq_notice (q : Sequencer) : (s.setSeq q).notice = s.notice := rfl
@[simp] theorem State.setSeq_work (q : Sequencer) : (s.setSeq q).work = s.work := rfl
@[simp] theorem State.setSeq_choice (q : Sequencer) : (s.setSeq q).choice = s.choice := rfl
@[simp] theorem State.setSeq_pending (q : Sequencer) : (s.setSeq q).pending = s.pending := rfl

@[simp] theorem State.setHub_partTime (h : HubPort) : (s.setHub h).partTime = s.partTime := rfl
@[simp] theorem State.setHub_micros (h : HubPort) : (s.setHub h).micros = s.micros := rfl
@[simp] theorem State.setHub_clock (h : HubPort) : (s.setHub h).clock = s.clock := rfl
@[simp] theorem State.setHub_seq (h : HubPort) : (s.setHub h).seq = s.seq := rfl
@[simp] theorem State.setHub_lpwr (h : HubPort) : (s.setHub h).lpwr = s.lpwr := rfl
@[simp] theorem State.setHub_mon (h : HubPort) : (s.setHub h).mon = s.mon := rfl
@[simp] theorem State.setHub_lcq (h : HubPort) : (s.setHub h).lcq = s.lcq := rfl
@[simp] theorem State.setHub_nodes (h : HubPort) : (s.setHub h).nodes = s.nodes := rfl
@[simp] theorem State.setHub_nodeLive (h : HubPort) : (s.setHub h).nodeLive = s.nodeLive := rfl
@[simp] theorem State.setHub_rollPtr (h : HubPort) : (s.setHub h).rollPtr = s.rollPtr := rfl
@[simp] theorem State.setHub_polls (h : HubPort) : (s.setHub h).polls = s.polls := rfl
@[simp] theorem State.setHub_probes (h : HubPort) : (s.setHub h).probes = s.probes := rfl
@[simp] theorem State.setHub_weather (h : HubPort) : (s.setHub h).weather = s.weather := rfl
@[simp] theorem State.setHub_weatherRec (h : HubPort) : (s.setHub h).weatherRec = s.weatherRec := rfl
@[simp] theorem State.setHub_drying (h : HubPort) : (s.setHub h).drying = s.drying := rfl
@[simp] theorem State.setHub_beds (h : HubPort) : (s.setHub h).beds = s.beds := rfl
@[simp] theorem State.setHub_bedLive (h : HubPort) : (s.setHub h).bedLive = s.bedLive := rfl
@[simp] theorem State.setHub_runs (h : HubPort) : (s.setHub h).runs = s.runs := rfl
@[simp] theorem State.setHub_valves (h : HubPort) : (s.setHub h).valves = s.valves := rfl
@[simp] theorem State.setHub_valveLive (h : HubPort) : (s.setHub h).valveLive = s.valveLive := rfl
@[simp] theorem State.setHub_beacon (h : HubPort) : (s.setHub h).beacon = s.beacon := rfl
@[simp] theorem State.setHub_mv (h : HubPort) : (s.setHub h).mv = s.mv := rfl
@[simp] theorem State.setHub_locks (h : HubPort) : (s.setHub h).locks = s.locks := rfl
@[simp] theorem State.setHub_lockRecs (h : HubPort) : (s.setHub h).lockRecs = s.lockRecs := rfl
@[simp] theorem State.setHub_supplyRec (h : HubPort) : (s.setHub h).supplyRec = s.supplyRec := rfl
@[simp] theorem State.setHub_monitor (h : HubPort) : (s.setHub h).monitor = s.monitor := rfl
@[simp] theorem State.setHub_lineRec (h : HubPort) : (s.setHub h).lineRec = s.lineRec := rfl
@[simp] theorem State.setHub_hub (h : HubPort) : (s.setHub h).hub = h := rfl
@[simp] theorem State.setHub_notice (h : HubPort) : (s.setHub h).notice = s.notice := rfl
@[simp] theorem State.setHub_work (h : HubPort) : (s.setHub h).work = s.work := rfl
@[simp] theorem State.setHub_choice (h : HubPort) : (s.setHub h).choice = s.choice := rfl
@[simp] theorem State.setHub_pending (h : HubPort) : (s.setHub h).pending = s.pending := rfl

@[simp] theorem State.setWork_partTime (w : Work) : (s.setWork w).partTime = s.partTime := rfl
@[simp] theorem State.setWork_micros (w : Work) : (s.setWork w).micros = s.micros := rfl
@[simp] theorem State.setWork_clock (w : Work) : (s.setWork w).clock = s.clock := rfl
@[simp] theorem State.setWork_seq (w : Work) : (s.setWork w).seq = s.seq := rfl
@[simp] theorem State.setWork_lpwr (w : Work) : (s.setWork w).lpwr = s.lpwr := rfl
@[simp] theorem State.setWork_mon (w : Work) : (s.setWork w).mon = s.mon := rfl
@[simp] theorem State.setWork_lcq (w : Work) : (s.setWork w).lcq = s.lcq := rfl
@[simp] theorem State.setWork_nodes (w : Work) : (s.setWork w).nodes = s.nodes := rfl
@[simp] theorem State.setWork_nodeLive (w : Work) : (s.setWork w).nodeLive = s.nodeLive := rfl
@[simp] theorem State.setWork_rollPtr (w : Work) : (s.setWork w).rollPtr = s.rollPtr := rfl
@[simp] theorem State.setWork_polls (w : Work) : (s.setWork w).polls = s.polls := rfl
@[simp] theorem State.setWork_probes (w : Work) : (s.setWork w).probes = s.probes := rfl
@[simp] theorem State.setWork_weather (w : Work) : (s.setWork w).weather = s.weather := rfl
@[simp] theorem State.setWork_weatherRec (w : Work) : (s.setWork w).weatherRec = s.weatherRec := rfl
@[simp] theorem State.setWork_drying (w : Work) : (s.setWork w).drying = s.drying := rfl
@[simp] theorem State.setWork_beds (w : Work) : (s.setWork w).beds = s.beds := rfl
@[simp] theorem State.setWork_bedLive (w : Work) : (s.setWork w).bedLive = s.bedLive := rfl
@[simp] theorem State.setWork_runs (w : Work) : (s.setWork w).runs = s.runs := rfl
@[simp] theorem State.setWork_valves (w : Work) : (s.setWork w).valves = s.valves := rfl
@[simp] theorem State.setWork_valveLive (w : Work) : (s.setWork w).valveLive = s.valveLive := rfl
@[simp] theorem State.setWork_beacon (w : Work) : (s.setWork w).beacon = s.beacon := rfl
@[simp] theorem State.setWork_mv (w : Work) : (s.setWork w).mv = s.mv := rfl
@[simp] theorem State.setWork_locks (w : Work) : (s.setWork w).locks = s.locks := rfl
@[simp] theorem State.setWork_lockRecs (w : Work) : (s.setWork w).lockRecs = s.lockRecs := rfl
@[simp] theorem State.setWork_supplyRec (w : Work) : (s.setWork w).supplyRec = s.supplyRec := rfl
@[simp] theorem State.setWork_monitor (w : Work) : (s.setWork w).monitor = s.monitor := rfl
@[simp] theorem State.setWork_lineRec (w : Work) : (s.setWork w).lineRec = s.lineRec := rfl
@[simp] theorem State.setWork_hub (w : Work) : (s.setWork w).hub = s.hub := rfl
@[simp] theorem State.setWork_notice (w : Work) : (s.setWork w).notice = s.notice := rfl
@[simp] theorem State.setWork_work (w : Work) : (s.setWork w).work = w := rfl
@[simp] theorem State.setWork_choice (w : Work) : (s.setWork w).choice = s.choice := rfl
@[simp] theorem State.setWork_pending (w : Work) : (s.setWork w).pending = s.pending := rfl

@[simp] theorem State.setMonitor_partTime (m : SupplyMonitor) : (s.setMonitor m).partTime = s.partTime := rfl
@[simp] theorem State.setMonitor_micros (m : SupplyMonitor) : (s.setMonitor m).micros = s.micros := rfl
@[simp] theorem State.setMonitor_clock (m : SupplyMonitor) : (s.setMonitor m).clock = s.clock := rfl
@[simp] theorem State.setMonitor_seq (m : SupplyMonitor) : (s.setMonitor m).seq = s.seq := rfl
@[simp] theorem State.setMonitor_lpwr (m : SupplyMonitor) : (s.setMonitor m).lpwr = s.lpwr := rfl
@[simp] theorem State.setMonitor_mon (m : SupplyMonitor) : (s.setMonitor m).mon = s.mon := rfl
@[simp] theorem State.setMonitor_lcq (m : SupplyMonitor) : (s.setMonitor m).lcq = s.lcq := rfl
@[simp] theorem State.setMonitor_nodes (m : SupplyMonitor) : (s.setMonitor m).nodes = s.nodes := rfl
@[simp] theorem State.setMonitor_nodeLive (m : SupplyMonitor) : (s.setMonitor m).nodeLive = s.nodeLive := rfl
@[simp] theorem State.setMonitor_rollPtr (m : SupplyMonitor) : (s.setMonitor m).rollPtr = s.rollPtr := rfl
@[simp] theorem State.setMonitor_polls (m : SupplyMonitor) : (s.setMonitor m).polls = s.polls := rfl
@[simp] theorem State.setMonitor_probes (m : SupplyMonitor) : (s.setMonitor m).probes = s.probes := rfl
@[simp] theorem State.setMonitor_weather (m : SupplyMonitor) : (s.setMonitor m).weather = s.weather := rfl
@[simp] theorem State.setMonitor_weatherRec (m : SupplyMonitor) : (s.setMonitor m).weatherRec = s.weatherRec := rfl
@[simp] theorem State.setMonitor_drying (m : SupplyMonitor) : (s.setMonitor m).drying = s.drying := rfl
@[simp] theorem State.setMonitor_beds (m : SupplyMonitor) : (s.setMonitor m).beds = s.beds := rfl
@[simp] theorem State.setMonitor_bedLive (m : SupplyMonitor) : (s.setMonitor m).bedLive = s.bedLive := rfl
@[simp] theorem State.setMonitor_runs (m : SupplyMonitor) : (s.setMonitor m).runs = s.runs := rfl
@[simp] theorem State.setMonitor_valves (m : SupplyMonitor) : (s.setMonitor m).valves = s.valves := rfl
@[simp] theorem State.setMonitor_valveLive (m : SupplyMonitor) : (s.setMonitor m).valveLive = s.valveLive := rfl
@[simp] theorem State.setMonitor_beacon (m : SupplyMonitor) : (s.setMonitor m).beacon = s.beacon := rfl
@[simp] theorem State.setMonitor_mv (m : SupplyMonitor) : (s.setMonitor m).mv = s.mv := rfl
@[simp] theorem State.setMonitor_locks (m : SupplyMonitor) : (s.setMonitor m).locks = s.locks := rfl
@[simp] theorem State.setMonitor_lockRecs (m : SupplyMonitor) : (s.setMonitor m).lockRecs = s.lockRecs := rfl
@[simp] theorem State.setMonitor_supplyRec (m : SupplyMonitor) : (s.setMonitor m).supplyRec = s.supplyRec := rfl
@[simp] theorem State.setMonitor_monitor (m : SupplyMonitor) : (s.setMonitor m).monitor = m := rfl
@[simp] theorem State.setMonitor_lineRec (m : SupplyMonitor) : (s.setMonitor m).lineRec = s.lineRec := rfl
@[simp] theorem State.setMonitor_hub (m : SupplyMonitor) : (s.setMonitor m).hub = s.hub := rfl
@[simp] theorem State.setMonitor_notice (m : SupplyMonitor) : (s.setMonitor m).notice = s.notice := rfl
@[simp] theorem State.setMonitor_work (m : SupplyMonitor) : (s.setMonitor m).work = s.work := rfl
@[simp] theorem State.setMonitor_choice (m : SupplyMonitor) : (s.setMonitor m).choice = s.choice := rfl
@[simp] theorem State.setMonitor_pending (m : SupplyMonitor) : (s.setMonitor m).pending = s.pending := rfl

@[simp] theorem State.setMon_partTime (m : CurrentMonitor) : (s.setMon m).partTime = s.partTime := rfl
@[simp] theorem State.setMon_micros (m : CurrentMonitor) : (s.setMon m).micros = s.micros := rfl
@[simp] theorem State.setMon_clock (m : CurrentMonitor) : (s.setMon m).clock = s.clock := rfl
@[simp] theorem State.setMon_seq (m : CurrentMonitor) : (s.setMon m).seq = s.seq := rfl
@[simp] theorem State.setMon_lpwr (m : CurrentMonitor) : (s.setMon m).lpwr = s.lpwr := rfl
@[simp] theorem State.setMon_mon (m : CurrentMonitor) : (s.setMon m).mon = m := rfl
@[simp] theorem State.setMon_lcq (m : CurrentMonitor) : (s.setMon m).lcq = s.lcq := rfl
@[simp] theorem State.setMon_nodes (m : CurrentMonitor) : (s.setMon m).nodes = s.nodes := rfl
@[simp] theorem State.setMon_nodeLive (m : CurrentMonitor) : (s.setMon m).nodeLive = s.nodeLive := rfl
@[simp] theorem State.setMon_rollPtr (m : CurrentMonitor) : (s.setMon m).rollPtr = s.rollPtr := rfl
@[simp] theorem State.setMon_polls (m : CurrentMonitor) : (s.setMon m).polls = s.polls := rfl
@[simp] theorem State.setMon_probes (m : CurrentMonitor) : (s.setMon m).probes = s.probes := rfl
@[simp] theorem State.setMon_weather (m : CurrentMonitor) : (s.setMon m).weather = s.weather := rfl
@[simp] theorem State.setMon_weatherRec (m : CurrentMonitor) : (s.setMon m).weatherRec = s.weatherRec := rfl
@[simp] theorem State.setMon_drying (m : CurrentMonitor) : (s.setMon m).drying = s.drying := rfl
@[simp] theorem State.setMon_beds (m : CurrentMonitor) : (s.setMon m).beds = s.beds := rfl
@[simp] theorem State.setMon_bedLive (m : CurrentMonitor) : (s.setMon m).bedLive = s.bedLive := rfl
@[simp] theorem State.setMon_runs (m : CurrentMonitor) : (s.setMon m).runs = s.runs := rfl
@[simp] theorem State.setMon_valves (m : CurrentMonitor) : (s.setMon m).valves = s.valves := rfl
@[simp] theorem State.setMon_valveLive (m : CurrentMonitor) : (s.setMon m).valveLive = s.valveLive := rfl
@[simp] theorem State.setMon_beacon (m : CurrentMonitor) : (s.setMon m).beacon = s.beacon := rfl
@[simp] theorem State.setMon_mv (m : CurrentMonitor) : (s.setMon m).mv = s.mv := rfl
@[simp] theorem State.setMon_locks (m : CurrentMonitor) : (s.setMon m).locks = s.locks := rfl
@[simp] theorem State.setMon_lockRecs (m : CurrentMonitor) : (s.setMon m).lockRecs = s.lockRecs := rfl
@[simp] theorem State.setMon_supplyRec (m : CurrentMonitor) : (s.setMon m).supplyRec = s.supplyRec := rfl
@[simp] theorem State.setMon_monitor (m : CurrentMonitor) : (s.setMon m).monitor = s.monitor := rfl
@[simp] theorem State.setMon_lineRec (m : CurrentMonitor) : (s.setMon m).lineRec = s.lineRec := rfl
@[simp] theorem State.setMon_hub (m : CurrentMonitor) : (s.setMon m).hub = s.hub := rfl
@[simp] theorem State.setMon_notice (m : CurrentMonitor) : (s.setMon m).notice = s.notice := rfl
@[simp] theorem State.setMon_work (m : CurrentMonitor) : (s.setMon m).work = s.work := rfl
@[simp] theorem State.setMon_choice (m : CurrentMonitor) : (s.setMon m).choice = s.choice := rfl
@[simp] theorem State.setMon_pending (m : CurrentMonitor) : (s.setMon m).pending = s.pending := rfl

@[simp] theorem State.setWeatherUnit_partTime (w : WeatherUnit) : (s.setWeatherUnit w).partTime = s.partTime := rfl
@[simp] theorem State.setWeatherUnit_micros (w : WeatherUnit) : (s.setWeatherUnit w).micros = s.micros := rfl
@[simp] theorem State.setWeatherUnit_clock (w : WeatherUnit) : (s.setWeatherUnit w).clock = s.clock := rfl
@[simp] theorem State.setWeatherUnit_seq (w : WeatherUnit) : (s.setWeatherUnit w).seq = s.seq := rfl
@[simp] theorem State.setWeatherUnit_lpwr (w : WeatherUnit) : (s.setWeatherUnit w).lpwr = s.lpwr := rfl
@[simp] theorem State.setWeatherUnit_mon (w : WeatherUnit) : (s.setWeatherUnit w).mon = s.mon := rfl
@[simp] theorem State.setWeatherUnit_lcq (w : WeatherUnit) : (s.setWeatherUnit w).lcq = s.lcq := rfl
@[simp] theorem State.setWeatherUnit_nodes (w : WeatherUnit) : (s.setWeatherUnit w).nodes = s.nodes := rfl
@[simp] theorem State.setWeatherUnit_nodeLive (w : WeatherUnit) : (s.setWeatherUnit w).nodeLive = s.nodeLive := rfl
@[simp] theorem State.setWeatherUnit_rollPtr (w : WeatherUnit) : (s.setWeatherUnit w).rollPtr = s.rollPtr := rfl
@[simp] theorem State.setWeatherUnit_polls (w : WeatherUnit) : (s.setWeatherUnit w).polls = s.polls := rfl
@[simp] theorem State.setWeatherUnit_probes (w : WeatherUnit) : (s.setWeatherUnit w).probes = s.probes := rfl
@[simp] theorem State.setWeatherUnit_weather (w : WeatherUnit) : (s.setWeatherUnit w).weather = w := rfl
@[simp] theorem State.setWeatherUnit_weatherRec (w : WeatherUnit) : (s.setWeatherUnit w).weatherRec = s.weatherRec := rfl
@[simp] theorem State.setWeatherUnit_drying (w : WeatherUnit) : (s.setWeatherUnit w).drying = s.drying := rfl
@[simp] theorem State.setWeatherUnit_beds (w : WeatherUnit) : (s.setWeatherUnit w).beds = s.beds := rfl
@[simp] theorem State.setWeatherUnit_bedLive (w : WeatherUnit) : (s.setWeatherUnit w).bedLive = s.bedLive := rfl
@[simp] theorem State.setWeatherUnit_runs (w : WeatherUnit) : (s.setWeatherUnit w).runs = s.runs := rfl
@[simp] theorem State.setWeatherUnit_valves (w : WeatherUnit) : (s.setWeatherUnit w).valves = s.valves := rfl
@[simp] theorem State.setWeatherUnit_valveLive (w : WeatherUnit) : (s.setWeatherUnit w).valveLive = s.valveLive := rfl
@[simp] theorem State.setWeatherUnit_beacon (w : WeatherUnit) : (s.setWeatherUnit w).beacon = s.beacon := rfl
@[simp] theorem State.setWeatherUnit_mv (w : WeatherUnit) : (s.setWeatherUnit w).mv = s.mv := rfl
@[simp] theorem State.setWeatherUnit_locks (w : WeatherUnit) : (s.setWeatherUnit w).locks = s.locks := rfl
@[simp] theorem State.setWeatherUnit_lockRecs (w : WeatherUnit) : (s.setWeatherUnit w).lockRecs = s.lockRecs := rfl
@[simp] theorem State.setWeatherUnit_supplyRec (w : WeatherUnit) : (s.setWeatherUnit w).supplyRec = s.supplyRec := rfl
@[simp] theorem State.setWeatherUnit_monitor (w : WeatherUnit) : (s.setWeatherUnit w).monitor = s.monitor := rfl
@[simp] theorem State.setWeatherUnit_lineRec (w : WeatherUnit) : (s.setWeatherUnit w).lineRec = s.lineRec := rfl
@[simp] theorem State.setWeatherUnit_hub (w : WeatherUnit) : (s.setWeatherUnit w).hub = s.hub := rfl
@[simp] theorem State.setWeatherUnit_notice (w : WeatherUnit) : (s.setWeatherUnit w).notice = s.notice := rfl
@[simp] theorem State.setWeatherUnit_work (w : WeatherUnit) : (s.setWeatherUnit w).work = s.work := rfl
@[simp] theorem State.setWeatherUnit_choice (w : WeatherUnit) : (s.setWeatherUnit w).choice = s.choice := rfl
@[simp] theorem State.setWeatherUnit_pending (w : WeatherUnit) : (s.setWeatherUnit w).pending = s.pending := rfl

@[simp] theorem State.setLocks_partTime (l : LockUnit) : (s.setLocks l).partTime = s.partTime := rfl
@[simp] theorem State.setLocks_micros (l : LockUnit) : (s.setLocks l).micros = s.micros := rfl
@[simp] theorem State.setLocks_clock (l : LockUnit) : (s.setLocks l).clock = s.clock := rfl
@[simp] theorem State.setLocks_seq (l : LockUnit) : (s.setLocks l).seq = s.seq := rfl
@[simp] theorem State.setLocks_lpwr (l : LockUnit) : (s.setLocks l).lpwr = s.lpwr := rfl
@[simp] theorem State.setLocks_mon (l : LockUnit) : (s.setLocks l).mon = s.mon := rfl
@[simp] theorem State.setLocks_lcq (l : LockUnit) : (s.setLocks l).lcq = s.lcq := rfl
@[simp] theorem State.setLocks_nodes (l : LockUnit) : (s.setLocks l).nodes = s.nodes := rfl
@[simp] theorem State.setLocks_nodeLive (l : LockUnit) : (s.setLocks l).nodeLive = s.nodeLive := rfl
@[simp] theorem State.setLocks_rollPtr (l : LockUnit) : (s.setLocks l).rollPtr = s.rollPtr := rfl
@[simp] theorem State.setLocks_polls (l : LockUnit) : (s.setLocks l).polls = s.polls := rfl
@[simp] theorem State.setLocks_probes (l : LockUnit) : (s.setLocks l).probes = s.probes := rfl
@[simp] theorem State.setLocks_weather (l : LockUnit) : (s.setLocks l).weather = s.weather := rfl
@[simp] theorem State.setLocks_weatherRec (l : LockUnit) : (s.setLocks l).weatherRec = s.weatherRec := rfl
@[simp] theorem State.setLocks_drying (l : LockUnit) : (s.setLocks l).drying = s.drying := rfl
@[simp] theorem State.setLocks_beds (l : LockUnit) : (s.setLocks l).beds = s.beds := rfl
@[simp] theorem State.setLocks_bedLive (l : LockUnit) : (s.setLocks l).bedLive = s.bedLive := rfl
@[simp] theorem State.setLocks_runs (l : LockUnit) : (s.setLocks l).runs = s.runs := rfl
@[simp] theorem State.setLocks_valves (l : LockUnit) : (s.setLocks l).valves = s.valves := rfl
@[simp] theorem State.setLocks_valveLive (l : LockUnit) : (s.setLocks l).valveLive = s.valveLive := rfl
@[simp] theorem State.setLocks_beacon (l : LockUnit) : (s.setLocks l).beacon = s.beacon := rfl
@[simp] theorem State.setLocks_mv (l : LockUnit) : (s.setLocks l).mv = s.mv := rfl
@[simp] theorem State.setLocks_locks (l : LockUnit) : (s.setLocks l).locks = l := rfl
@[simp] theorem State.setLocks_lockRecs (l : LockUnit) : (s.setLocks l).lockRecs = s.lockRecs := rfl
@[simp] theorem State.setLocks_supplyRec (l : LockUnit) : (s.setLocks l).supplyRec = s.supplyRec := rfl
@[simp] theorem State.setLocks_monitor (l : LockUnit) : (s.setLocks l).monitor = s.monitor := rfl
@[simp] theorem State.setLocks_lineRec (l : LockUnit) : (s.setLocks l).lineRec = s.lineRec := rfl
@[simp] theorem State.setLocks_hub (l : LockUnit) : (s.setLocks l).hub = s.hub := rfl
@[simp] theorem State.setLocks_notice (l : LockUnit) : (s.setLocks l).notice = s.notice := rfl
@[simp] theorem State.setLocks_work (l : LockUnit) : (s.setLocks l).work = s.work := rfl
@[simp] theorem State.setLocks_choice (l : LockUnit) : (s.setLocks l).choice = s.choice := rfl
@[simp] theorem State.setLocks_pending (l : LockUnit) : (s.setLocks l).pending = s.pending := rfl

@[simp] theorem setFlag_partTime (f : Flag) : (setFlag f s).partTime = s.partTime := rfl
@[simp] theorem setFlag_micros (f : Flag) : (setFlag f s).micros = s.micros := rfl
@[simp] theorem setFlag_clock (f : Flag) : (setFlag f s).clock = s.clock := rfl
@[simp] theorem setFlag_seq (f : Flag) : (setFlag f s).seq = s.seq := rfl
@[simp] theorem setFlag_lpwr (f : Flag) : (setFlag f s).lpwr = s.lpwr := rfl
@[simp] theorem setFlag_mon (f : Flag) : (setFlag f s).mon = s.mon := rfl
@[simp] theorem setFlag_lcq (f : Flag) : (setFlag f s).lcq = s.lcq := rfl
@[simp] theorem setFlag_nodes (f : Flag) : (setFlag f s).nodes = s.nodes := rfl
@[simp] theorem setFlag_nodeLive (f : Flag) : (setFlag f s).nodeLive = s.nodeLive := rfl
@[simp] theorem setFlag_rollPtr (f : Flag) : (setFlag f s).rollPtr = s.rollPtr := rfl
@[simp] theorem setFlag_polls (f : Flag) : (setFlag f s).polls = s.polls := rfl
@[simp] theorem setFlag_probes (f : Flag) : (setFlag f s).probes = s.probes := rfl
@[simp] theorem setFlag_weather (f : Flag) : (setFlag f s).weather = s.weather := rfl
@[simp] theorem setFlag_weatherRec (f : Flag) : (setFlag f s).weatherRec = s.weatherRec := rfl
@[simp] theorem setFlag_drying (f : Flag) : (setFlag f s).drying = s.drying := rfl
@[simp] theorem setFlag_beds (f : Flag) : (setFlag f s).beds = s.beds := rfl
@[simp] theorem setFlag_bedLive (f : Flag) : (setFlag f s).bedLive = s.bedLive := rfl
@[simp] theorem setFlag_runs (f : Flag) : (setFlag f s).runs = s.runs := rfl
@[simp] theorem setFlag_valves (f : Flag) : (setFlag f s).valves = s.valves := rfl
@[simp] theorem setFlag_valveLive (f : Flag) : (setFlag f s).valveLive = s.valveLive := rfl
@[simp] theorem setFlag_beacon (f : Flag) : (setFlag f s).beacon = s.beacon := rfl
@[simp] theorem setFlag_mv (f : Flag) : (setFlag f s).mv = s.mv := rfl
@[simp] theorem setFlag_locks (f : Flag) : (setFlag f s).locks = s.locks := rfl
@[simp] theorem setFlag_lockRecs (f : Flag) : (setFlag f s).lockRecs = s.lockRecs := rfl
@[simp] theorem setFlag_supplyRec (f : Flag) : (setFlag f s).supplyRec = s.supplyRec := rfl
@[simp] theorem setFlag_monitor (f : Flag) : (setFlag f s).monitor = s.monitor := rfl
@[simp] theorem setFlag_lineRec (f : Flag) : (setFlag f s).lineRec = s.lineRec := rfl
@[simp] theorem setFlag_hub (f : Flag) : (setFlag f s).hub = s.hub := rfl
@[simp] theorem setFlag_notice (f : Flag) : (setFlag f s).notice = s.notice.raise f := rfl
@[simp] theorem setFlag_work (f : Flag) : (setFlag f s).work = s.work := rfl
@[simp] theorem setFlag_choice (f : Flag) : (setFlag f s).choice = s.choice := rfl
@[simp] theorem setFlag_pending (f : Flag) : (setFlag f s).pending = s.pending := rfl

@[simp] theorem judgeMv_partTime : (judgeMv s).partTime = s.partTime := rfl
@[simp] theorem judgeMv_micros : (judgeMv s).micros = s.micros := rfl
@[simp] theorem judgeMv_clock : (judgeMv s).clock = s.clock := rfl
@[simp] theorem judgeMv_seq : (judgeMv s).seq = s.seq := rfl
@[simp] theorem judgeMv_lpwr : (judgeMv s).lpwr = s.lpwr := rfl
@[simp] theorem judgeMv_mon : (judgeMv s).mon = s.mon := rfl
@[simp] theorem judgeMv_lcq : (judgeMv s).lcq = s.lcq := rfl
@[simp] theorem judgeMv_nodes : (judgeMv s).nodes = s.nodes := rfl
@[simp] theorem judgeMv_nodeLive : (judgeMv s).nodeLive = s.nodeLive := rfl
@[simp] theorem judgeMv_rollPtr : (judgeMv s).rollPtr = s.rollPtr := rfl
@[simp] theorem judgeMv_polls : (judgeMv s).polls = s.polls := rfl
@[simp] theorem judgeMv_probes : (judgeMv s).probes = s.probes := rfl
@[simp] theorem judgeMv_weather : (judgeMv s).weather = s.weather := rfl
@[simp] theorem judgeMv_weatherRec : (judgeMv s).weatherRec = s.weatherRec := rfl
@[simp] theorem judgeMv_drying : (judgeMv s).drying = s.drying := rfl
@[simp] theorem judgeMv_beds : (judgeMv s).beds = s.beds := rfl
@[simp] theorem judgeMv_bedLive : (judgeMv s).bedLive = s.bedLive := rfl
@[simp] theorem judgeMv_runs : (judgeMv s).runs = s.runs := rfl
@[simp] theorem judgeMv_valves : (judgeMv s).valves = s.valves := rfl
@[simp] theorem judgeMv_valveLive : (judgeMv s).valveLive = s.valveLive := rfl
@[simp] theorem judgeMv_beacon : (judgeMv s).beacon = s.beacon := rfl
@[simp] theorem judgeMv_mv : (judgeMv s).mv = mvWanted s := rfl
@[simp] theorem judgeMv_locks : (judgeMv s).locks = s.locks := rfl
@[simp] theorem judgeMv_lockRecs : (judgeMv s).lockRecs = s.lockRecs := rfl
@[simp] theorem judgeMv_supplyRec : (judgeMv s).supplyRec = s.supplyRec := rfl
@[simp] theorem judgeMv_monitor : (judgeMv s).monitor = s.monitor := rfl
@[simp] theorem judgeMv_lineRec : (judgeMv s).lineRec = s.lineRec := rfl
@[simp] theorem judgeMv_hub : (judgeMv s).hub = s.hub := rfl
@[simp] theorem judgeMv_notice : (judgeMv s).notice = s.notice := rfl
@[simp] theorem judgeMv_work : (judgeMv s).work = s.work := rfl
@[simp] theorem judgeMv_choice : (judgeMv s).choice = s.choice := rfl
@[simp] theorem judgeMv_pending : (judgeMv s).pending = s.pending := rfl

end Sys2Proof.Machine
end

