-- ==== Sys2Proof/Laws/Water.lean ====
section
/-! SUPPORT. What the moves of the Dispatcher, Valve Control, the Balance Engine and the Line Command Queue leave
alone: one frame, kept by every shared operation of Ops, Balance, Runs and Valves. -/

namespace Sys2Proof.Machine

/-- `t` differs from `s` at most in runs, live valves and balances, waiting commands (with the detached tag of the
transaction in progress), the Supply Monitor's change time, flags, work owed and the choice counter. -/
structure WaterFrame (s t : State) : Prop where
  partTime : t.partTime = s.partTime
  micros : t.micros = s.micros
  clock : t.clock = s.clock
  seq : t.seq = { s.seq with tx := t.seq.tx }
  lpwr : t.lpwr = s.lpwr
  mon : t.mon = s.mon
  nodes : t.nodes = s.nodes
  nodeLive : t.nodeLive = s.nodeLive
  rollPtr : t.rollPtr = s.rollPtr
  polls : t.polls = s.polls
  probes : t.probes = s.probes
  weather : t.weather = s.weather
  weatherRec : t.weatherRec = s.weatherRec
  drying : t.drying = s.drying
  beds : t.beds = s.beds
  valves : t.valves = s.valves
  beacon : t.beacon = s.beacon
  mv : t.mv = s.mv
  locks : t.locks = s.locks
  lockRecs : t.lockRecs = s.lockRecs
  supplyRec : t.supplyRec = s.supplyRec
  lineRec : t.lineRec = s.lineRec
  hub : t.hub = s.hub
  pending : t.pending = s.pending
  mask : t.notice.mask = s.notice.mask
  flags : ∀ f, s.notice.isSet f = true → t.notice.isSet f = true

namespace WaterFrame

theorem refl (s : State) : WaterFrame s s := by constructor <;> first | rfl | exact fun _ h => h

theorem trans {s t u : State} (h : WaterFrame s t) (k : WaterFrame t u) : WaterFrame s u where
  partTime := k.partTime.trans h.partTime
  micros := k.micros.trans h.micros
  clock := k.clock.trans h.clock
  seq := by rw [k.seq, h.seq]
  lpwr := k.lpwr.trans h.lpwr
  mon := k.mon.trans h.mon
  nodes := k.nodes.trans h.nodes
  nodeLive := k.nodeLive.trans h.nodeLive
  rollPtr := k.rollPtr.trans h.rollPtr
  polls := k.polls.trans h.polls
  probes := k.probes.trans h.probes
  weather := k.weather.trans h.weather
  weatherRec := k.weatherRec.trans h.weatherRec
  drying := k.drying.trans h.drying
  beds := k.beds.trans h.beds
  valves := k.valves.trans h.valves
  beacon := k.beacon.trans h.beacon
  mv := k.mv.trans h.mv
  locks := k.locks.trans h.locks
  lockRecs := k.lockRecs.trans h.lockRecs
  supplyRec := k.supplyRec.trans h.supplyRec
  lineRec := k.lineRec.trans h.lineRec
  hub := k.hub.trans h.hub
  pending := k.pending.trans h.pending
  mask := k.mask.trans h.mask
  flags f x := k.flags f (h.flags f x)

/-- A fold of operations that each keep the frame keeps it. -/
theorem foldl {α : Type} {f : State → α → State} (hf : ∀ s a, WaterFrame s (f s a)) (as : List α) (s : State) :
    WaterFrame s (as.foldl f s) := by
  induction as generalizing s with
  | nil => exact refl s
  | cons a as ih => exact (hf s a).trans (ih (f s a))

end WaterFrame

/-- What `inAnyOrder` can do: `f` is taken once of each thing, in some order, with the choice counter advanced between. -/
theorem inAnyOrder_induction {α : Type} {next : Nat → Nat} {f : α → State → State} {P : List α → State → Prop}
    (choose : ∀ done s n, P done s → P done { s with choice := n })
    (take : ∀ done x s, P done s → P (done ++ [x]) (f x s)) :
    ∀ (n : Nat) (xs done : List α) (s : State), xs.length ≤ n → P done s →
      ∃ order, order.Perm xs ∧ P (done ++ order) (inAnyOrder next f n xs s) := by
  intro n
  induction n with
  | zero =>
    intro xs done s hn h
    obtain rfl := List.length_eq_zero_iff.1 (Nat.le_zero.1 hn)
    exact ⟨[], .refl _, by simpa [inAnyOrder] using h⟩
  | succ n ih =>
    intro xs done s hn h
    match xs, hn with
    | [], _ => exact ⟨[], .refl _, by simpa [inAnyOrder] using h⟩
    | [x], _ => exact ⟨[x], .refl _, take done x s h⟩
    | x :: y :: xs, hn =>
      simp only [inAnyOrder]
      have hi : next s.choice % ((y :: xs).length + 1) < (x :: y :: xs).length := Nat.mod_lt _ (Nat.succ_pos _)
      generalize next s.choice % ((y :: xs).length + 1) = i at hi
      have hx : (x :: y :: xs).getD i x = (x :: y :: xs)[i] := by
        rw [List.getD_eq_getElem?_getD, List.getElem?_eq_getElem hi, Option.getD_some]
      rw [hx]
      obtain ⟨order, hp, ho⟩ := ih ((x :: y :: xs).eraseIdx i) (done ++ [(x :: y :: xs)[i]]) _
        (by rw [List.length_eraseIdx_of_lt hi]; simpa using hn) (take _ _ _ (choose _ _ (s.choice + 1) h))
      exact ⟨(x :: y :: xs)[i] :: order, (hp.cons _).trans (List.getElem_cons_eraseIdx_perm hi), by simpa using ho⟩

/-- What each step keeps, and the choice counter cannot spoil, the whole keeps. -/
theorem inAnyOrder_keeps {α : Type} {next : Nat → Nat} {f : α → State → State} {R : State → State → Prop}
    (refl : ∀ s, R s s) (trans : ∀ {s t u}, R s t → R t u → R s u) (choose : ∀ s n, R s { s with choice := n })
    (take : ∀ x s, R s (f x s)) (n : Nat) (xs : List α) (s : State) : R s (inAnyOrder next f n xs s) := by
  induction n generalizing xs s with
  | zero => exact refl s
  | succ n ih =>
    match xs with
    | [] => exact refl s
    | [x] => exact take x s
    | x :: y :: xs => exact trans (trans (choose s _) (take _ _)) (ih _ _)

section
variable (s : State)

theorem setValveLive_frame (v : Fin 32) (l : ValveLive) : WaterFrame s (s.setValveLive v l) := by constructor <;> first | rfl | exact fun _ h => h
theorem setBedLive_frame (b : Fin 24) (l : Option BedLive) : WaterFrame s (s.setBedLive b l) := by constructor <;> first | rfl | exact fun _ h => h
theorem setRuns_frame (rs : List Run) : WaterFrame s (s.setRuns rs) := by constructor <;> first | rfl | exact fun _ h => h
theorem setQueue_frame (q : LineQueue) : WaterFrame s (s.setQueue q) := by constructor <;> first | rfl | exact fun _ h => h
theorem setWork_frame (w : Work) : WaterFrame s (s.setWork w) := by constructor <;> first | rfl | exact fun _ h => h
theorem setMonitor_frame (m : SupplyMonitor) : WaterFrame s (s.setMonitor m) := by constructor <;> first | rfl | exact fun _ h => h
/-- Setting a flag leaves every other flag as it stands. -/
theorem NoticeUnit.isSet_raise (n : NoticeUnit) (f g : Flag) :
    (n.raise f).isSet g = (n.isSet g || decide (f = g)) := by
  have key : ∀ f g : Flag, f.mask.getLsbD g.bit = decide (f = g) := by
    intro f g; cases f <;> cases g <;> rfl
  simp [NoticeUnit.isSet, NoticeUnit.raise, namesFlag, BitVec.getLsbD_or, key]

theorem setFlag_frame (f : Flag) : WaterFrame s (setFlag f s) := by
  constructor
  case flags => intro g h; simp [NoticeUnit.isSet_raise, h]
  all_goals rfl
theorem setTx_frame (x : Transmission) : WaterFrame s (s.setSeq { s.seq with tx := x }) := by constructor <;> first | rfl | exact fun _ h => h
theorem choose_frame (n : Nat) : WaterFrame s { s with choice := n } := by constructor <;> first | rfl | exact fun _ h => h
theorem putRun_frame (r : Run) : WaterFrame s (putRun s r) := setRuns_frame s _
theorem owePass_frame : WaterFrame s (owePass s) := setWork_frame s _
theorem oweFree_frame : WaterFrame s (oweFree s) := setWork_frame s _
theorem oweSweep_frame : WaterFrame s (oweSweep s) := setWork_frame s _
theorem oweReport_frame : WaterFrame s (oweReport s) := setWork_frame s _

/-! ## The Line Command Queue -/

theorem detach_frame (v : Fin 32) : WaterFrame s (detach v s) := by
  unfold detach
  split
  · split
    · exact setTx_frame s _
    · exact .refl s
  · exact .refl s

theorem setFifo_frame (f : List FifoEntry) : WaterFrame s (setFifo f s) := by
  simp only [setFifo]
  split
  · exact (setQueue_frame s _).trans (oweFree_frame _)
  · exact setQueue_frame s _

theorem setClose_frame (v : Fin 32) (m : Option Marks) : WaterFrame s (setClose v m s) := setQueue_frame s _
theorem dropOpen_frame (v : Fin 32) : WaterFrame s (dropOpen v s) := setFifo_frame s _
theorem appendOpen_frame (v : Fin 32) : WaterFrame s (appendOpen v s) := setFifo_frame s _

theorem closeRequest_frame (v : Fin 32) : WaterFrame s (closeRequest v s) := by
  simp only [closeRequest]
  split
  · exact .refl s
  · exact dropOpen_frame s v
  · have h : WaterFrame s (if flying s v .openValve then detach v s else s) := by
      split
      · exact detach_frame s v
      · exact .refl s
    split
    · exact (h.trans (dropOpen_frame _ v)).trans (setClose_frame _ v _)
    · exact h.trans (setClose_frame _ v _)

theorem openRequest_frame (v : Fin 32) : WaterFrame s (openRequest v s) := by
  simp only [openRequest]
  split
  · exact .refl s
  · exact .refl s
  · have h : WaterFrame s (if flying s v .closeValve then detach v s else s) := by
      split
      · exact detach_frame s v
      · exact .refl s
    split
    · exact (h.trans (setClose_frame _ v _)).trans (appendOpen_frame _ v)
    · exact h.trans (appendOpen_frame _ v)

theorem withdraw_frame (v : Fin 32) : WaterFrame s (withdraw v s) := by
  unfold withdraw
  split
  · exact ((detach_frame s v).trans (setClose_frame _ v _)).trans (dropOpen_frame _ v)
  · exact .refl s

/-! ## Balances -/

theorem onBed_frame (b : Fin 24) (f : BedLive → BedLive) : WaterFrame s (onBed b f s) := by
  unfold onBed
  split
  · exact .refl s
  · exact setBedLive_frame s b _

theorem accrue_frame (b : Fin 24) : WaterFrame s (accrue b s) := onBed_frame s b _
theorem accrueAll_frame : WaterFrame s (accrueAll s) := .foldl (fun t b => accrue_frame t b) _ s
theorem takeReading_frame (b : Fin 24) (w : Nat) : WaterFrame s (takeReading b w s) := onBed_frame s b _
theorem waterCredit_frame (b : Fin 24) (secs flow : Nat) : WaterFrame s (waterCredit b secs flow s) :=
  (accrue_frame s b).trans (onBed_frame _ b _)
theorem rainCredit_frame (b : Fin 24) (d : Nat) : WaterFrame s (rainCredit b d s) :=
  (accrue_frame s b).trans (onBed_frame _ b _)
theorem setHoldEnd_frame (b : Fin 24) : WaterFrame s (setHoldEnd b s) := onBed_frame s b _

/-! ## Runs and grant passes -/

theorem releaseCheck_frame (b : Fin 24) : WaterFrame s (releaseCheck b s) := by
  unfold releaseCheck
  split
  · exact .refl s
  · split
    · exact putRun_frame s _
    · exact .refl s

theorem releaseAll_frame : WaterFrame s (releaseAll s) := .foldl (fun t b => releaseCheck_frame t b) _ s

theorem noteValveChange_frame : WaterFrame s (noteValveChange s) := setMonitor_frame s _

theorem writeValve_frame (v : Fin 32) (l : ValveLive) : WaterFrame s (writeValve v l s) := by
  simp only [writeValve]
  have h := setValveLive_frame s v l
  split
  · have k : WaterFrame s (oweReport
        (if s.valveLive[v].state ≠ l.state then noteValveChange (s.setValveLive v l) else s.setValveLive v l)) := by
      split
      · exact (h.trans (noteValveChange_frame _)).trans (oweReport_frame _)
      · exact h.trans (oweReport_frame _)
    split
    · exact k.trans (releaseCheck_frame _ _)
    · exact k
  · split
    · exact (h.trans (noteValveChange_frame _)).trans (oweSweep_frame _)
    · exact h

theorem valveStop_frame (v : Fin 32) : WaterFrame s (valveStop v s) := by
  simp only [valveStop]
  split
  · split <;> exact (closeRequest_frame s v).trans (writeValve_frame _ v _)
  · exact (closeRequest_frame s v).trans (writeValve_frame _ v _)
  all_goals exact writeValve_frame s v _

theorem grant_frame (r : Run) (v : Fin 32) : WaterFrame s (grant r v s) :=
  ((putRun_frame s _).trans (openRequest_frame _ v)).trans (writeValve_frame _ v _)

theorem bumpSkips_frame (bs : List (Fin 24)) : WaterFrame s (bumpSkips bs s) := setRuns_frame s _

theorem grantScan_frame (bs passed bumped : List (Fin 24)) : WaterFrame s (grantScan bs passed bumped s) := by
  induction bs generalizing passed bumped s with
  | nil => exact bumpSkips_frame s _
  | cons b bs ih =>
    unfold grantScan
    split
    · exact ih s _ _
    · exact ih s _ _
    · exact bumpSkips_frame s _
    · exact (grant_frame s _ _).trans (ih _ _ _)

theorem grantPass_frame : WaterFrame s (grantPass s) := by
  unfold grantPass
  split
  · exact grantScan_frame s _ _ _
  · exact .refl s

theorem pass_frame : WaterFrame s (pass s) := by
  simp only [pass]
  split
  · have h := choose_frame s (s.choice + 1)
    split
    · exact h.trans (owePass_frame _)
    · exact h.trans (grantPass_frame _)
  · exact grantPass_frame s

/-! ## Pulses, removal, creation, demand -/

theorem startPulse_frame (b : Fin 24) : WaterFrame s (startPulse b s) := by
  unfold startPulse
  split
  · exact .refl s
  · split
    · exact putRun_frame s _
    · exact .refl s

theorem endPulse_frame (b : Fin 24) (stop : Bool) : WaterFrame s (endPulse b stop s) := by
  simp only [endPulse]
  split
  · exact .refl s
  · split
    · exact putRun_frame s _
    · split
      · exact ((putRun_frame s _).trans (waterCredit_frame _ b _ _)).trans (valveStop_frame _ _)
      · exact (putRun_frame s _).trans (waterCredit_frame _ b _ _)

theorem takeOut_frame (b : Fin 24) (r : Run) : WaterFrame s (takeOut b r s) := by
  simp only [takeOut]
  have h := (setRuns_frame s (s.runs.filter fun q => q.bed != b)).trans (setHoldEnd_frame _ b)
  split
  · exact (h.trans (setFlag_frame _ _)).trans (oweSweep_frame _)
  · exact h.trans (oweSweep_frame _)

theorem dropRun_frame (b : Fin 24) : WaterFrame s (dropRun b s) := by
  unfold dropRun
  split
  · exact .refl s
  · exact (takeOut_frame s b _).trans (pass_frame _)

theorem removeRun_frame (b : Fin 24) : WaterFrame s (removeRun b s) := by
  unfold removeRun
  split
  · exact .refl s
  · split
    · exact (endPulse_frame s b true).trans (dropRun_frame _ b)
    · exact dropRun_frame s b

theorem leaveOn_frame (r : Run) : WaterFrame s (leaveOn r s) :=
  ((putRun_frame s r).trans (oweSweep_frame _)).trans (pass_frame _)

theorem endEarly_frame (b : Fin 24) (x : HeldReasons) (stop : Bool) : WaterFrame s (endEarly b x stop s) := by
  simp only [endEarly]
  have h := endPulse_frame s b stop
  split
  · exact h
  · split
    · exact h.trans (takeOut_frame _ b _)
    · exact h.trans ((putRun_frame _ _).trans (oweSweep_frame _))

theorem earlyEnd_frame (b : Fin 24) (x : HeldReasons) (stop : Bool) : WaterFrame s (earlyEnd b x stop s) := by
  unfold earlyEnd
  split
  · exact (endEarly_frame s b x stop).trans (pass_frame _)
  · exact .refl s

theorem pulseExpires_frame (b : Fin 24) : WaterFrame s (pulseExpires b s) := by
  simp only [pulseExpires]
  have h := endPulse_frame s b true
  split
  · exact h
  · split
    · exact h.trans (dropRun_frame _ b)
    · split
      · exact h.trans (dropRun_frame _ b)
      · exact h.trans (leaveOn_frame _ _)
      · exact h.trans (leaveOn_frame _ _)

theorem soakExpires_frame (b : Fin 24) : WaterFrame s (soakExpires b s) := by
  simp only [soakExpires]
  split
  · exact .refl s
  · split
    · exact (putRun_frame s _).trans (pass_frame _)
    · exact putRun_frame s _

theorem runningLeft_frame : WaterFrame s (runningLeft s) := .foldl (fun t b => earlyEnd_frame t b _ _) _ s

theorem tellOwner_frame {ends : Fin 24 → State → State} (h : ∀ b t, WaterFrame t (ends b t)) (old new : ValveLive) :
    WaterFrame s (tellOwner ends old new s) := by
  unfold tellOwner
  split
  · exact .refl s
  · split
    · exact h _ s
    · split
      · exact startPulse_frame s _
      · exact .refl s

theorem shiftValve_frame (v : Fin 32) (l : ValveLive) : WaterFrame s (shiftValve v l s) := by
  simp only [shiftValve]
  have h := writeValve_frame s v l
  split
  · exact h.trans (tellOwner_frame _ (fun b t => endEarly_frame t b _ _) _ _)
  · exact h

theorem changeValve_frame (v : Fin 32) (l : ValveLive) : WaterFrame s (changeValve v l s) := by
  simp only [changeValve]
  have h := writeValve_frame s v l
  split
  · exact (h.trans (tellOwner_frame _ (fun b t => earlyEnd_frame t b _ _) _ _)).trans (pass_frame _)
  · exact h

theorem createRun_frame (r : Run) : WaterFrame s (createRun r s) := (setRuns_frame s _).trans (pass_frame _)

theorem demandCheck_frame (b : Fin 24) : WaterFrame s (demandCheck b s) := by
  unfold demandCheck
  split
  · exact .refl s
  · exact createRun_frame s _

theorem forBeds_frame (acts : Fin 24 → Bool) {f : Fin 24 → State → State} (h : ∀ b t, WaterFrame t (f b t)) :
    WaterFrame s (forBeds acts f s) :=
  inAnyOrder_keeps .refl .trans (fun t n => choose_frame t n) h _ _ s

theorem demandAll_frame : WaterFrame s (demandAll s) := forBeds_frame s _ fun b t => demandCheck_frame t b

/-! ## Valve Control -/

theorem latchFault_frame (v : Fin 32) : WaterFrame s (latchFault v s) :=
  (setValveLive_frame s v _).trans (setFlag_frame _ _)

theorem failedAttempt_frame (v : Fin 32) : WaterFrame s (failedAttempt v s) := by
  simp only [failedAttempt]
  split
  · exact setValveLive_frame s v _
  · exact ((withdraw_frame s v).trans (latchFault_frame _ v)).trans (changeValve_frame _ v _)

theorem valveOutcome_frame (v : Fin 32) (k : CommandKind) (answered : Bool) :
    WaterFrame s (valveOutcome v k answered s) := by
  simp only [valveOutcome]
  split
  iterate 3
    · split
      · exact changeValve_frame s v _
      · exact failedAttempt_frame s v
  · exact .refl s

theorem reconcile_frame (v : Fin 32) (isOpen : Bool) : WaterFrame s (reconcile v isOpen s) := by
  simp only [reconcile]
  split
  · exact ((latchFault_frame s v).trans (closeRequest_frame _ v)).trans (shiftValve_frame _ v _)
  · exact (latchFault_frame s v).trans (shiftValve_frame _ v _)
  · exact (closeRequest_frame s v).trans (shiftValve_frame _ v _)
  · exact shiftValve_frame s v _
  · exact .refl s

theorem decoderReport_frame (n : Fin 48) (outputs : Nat) : WaterFrame s (decoderReport n outputs s) := by
  refine (WaterFrame.foldl (fun t v => reconcile_frame t v _) _ s).trans (.foldl (fun t v => ?_) _ _)
  split
  · exact pass_frame t
  · exact .refl t

theorem loseDecoder_frame (v : Fin 32) : WaterFrame s (loseDecoder v s) := by
  simp only [loseDecoder]
  split
  iterate 3 exact ((withdraw_frame s v).trans (latchFault_frame _ v)).trans (changeValve_frame _ v _)
  · split
    · exact (withdraw_frame s v).trans (setValveLive_frame _ v _)
    · exact .refl s
  all_goals exact .refl s

theorem decoderLost_frame (n : Fin 48) : WaterFrame s (decoderLost n s) := .foldl (fun t v => loseDecoder_frame t v) _ s

theorem liftFault_frame (v : Fin 32) : WaterFrame s (liftFault v s) := by
  simp only [liftFault]
  split
  · split
    · exact (closeRequest_frame s v).trans (changeValve_frame _ v _)
    · exact changeValve_frame s v _
  · exact .refl s

theorem decoderReturned_frame (n : Fin 48) : WaterFrame s (decoderReturned n s) :=
  .foldl (fun t v => liftFault_frame t v) _ s

theorem settleClosed_frame (v : Fin 32) : WaterFrame s (settleClosed v s) := by
  unfold settleClosed
  split
  · exact changeValve_frame s v _
  · exact .refl s

theorem openWithdrawn_frame (v : Fin 32) (sent : Bool) : WaterFrame s (openWithdrawn v sent s) := by
  simp only [openWithdrawn]
  split
  · split
    · exact (closeRequest_frame s v).trans (changeValve_frame _ v _)
    · exact changeValve_frame s v _
  · exact .refl s

theorem setValveMode_frame (v : Fin 32) (m : ValveMode) : WaterFrame s (setValveMode v m s) := by
  simp only [setValveMode]
  split
  · split
    · exact .refl s
    · exact (closeRequest_frame s v).trans (changeValve_frame _ v _)
  · split
    · exact (openRequest_frame s v).trans (changeValve_frame _ v _)
    · exact changeValve_frame s v _
  · split
    · split
      · exact (closeRequest_frame s v).trans (changeValve_frame _ v _)
      · exact changeValve_frame s v _
    · exact (closeRequest_frame s v).trans (changeValve_frame _ v _)
  · exact (withdraw_frame s v).trans (changeValve_frame _ v _)

theorem forcedToAuto_frame : WaterFrame s (forcedToAuto s) := by
  refine .foldl (fun t v => ?_) _ s
  split
  · exact setValveMode_frame t v .auto
  · exact .refl t

theorem valveSwapped_frame (v : Fin 32) (old new : ValveRec) : WaterFrame s (valveSwapped v old new s) := by
  simp only [valveSwapped]
  refine .trans (.trans (.trans ?_ (noteValveChange_frame _)) (changeValve_frame _ v _)) (pass_frame _)
  split
  · exact withdraw_frame s v
  · exact .refl s

/-! ## What a change of the effective lock does to runs -/

theorem lockOnset_frame (m : LockMode) (i : LockTiming) : WaterFrame s (lockOnset m i s) := by
  simp only [lockOnset]
  split <;> split
  · exact (WaterFrame.foldl (fun t b => removeRun_frame t b) _ s).trans (.foldl (fun t b => dropRun_frame t b) _ _)
  · exact .foldl (fun t b => dropRun_frame t b) _ s
  · exact .foldl (fun t b => earlyEnd_frame t b _ _) _ s
  · exact .refl s

theorem lockLeaves_frame : WaterFrame s (lockLeaves s) :=
  ((releaseAll_frame s).trans (grantPass_frame _)).trans (demandAll_frame _)

end

end Sys2Proof.Machine
end

