-- ==== Sys2Proof/Laws/Field.lean ====
section
/-! SUPPORT. What the moves of the Lock Unit, the Weather Unit, the Reading Translator and the Node Table leave alone:
one frame, kept by every shared operation of Locks, Weather and Nodes. -/

namespace Sys2Proof.Machine

/-- `t` differs from `s` at most as a water move may, and in the Lock Unit, the Weather Unit, the probes, live node
state and the reports waiting to go up. -/
structure FieldFrame (s t : State) : Prop where
  partTime : t.partTime = s.partTime
  micros : t.micros = s.micros
  clock : t.clock = s.clock
  seq : t.seq = { s.seq with tx := t.seq.tx }
  lpwr : t.lpwr = s.lpwr
  mon : t.mon = s.mon
  nodes : t.nodes = s.nodes
  rollPtr : t.rollPtr = s.rollPtr
  polls : t.polls = s.polls
  weatherRec : t.weatherRec = s.weatherRec
  drying : t.drying = s.drying
  beds : t.beds = s.beds
  valves : t.valves = s.valves
  beacon : t.beacon = s.beacon
  mv : t.mv = s.mv
  lockRecs : t.lockRecs = s.lockRecs
  supplyRec : t.supplyRec = s.supplyRec
  lineRec : t.lineRec = s.lineRec
  hub : t.hub = { s.hub with reports := t.hub.reports, passWait := t.hub.passWait }
  pending : t.pending = s.pending
  mask : t.notice.mask = s.notice.mask
  flags : ∀ f, s.notice.isSet f = true → t.notice.isSet f = true

namespace FieldFrame

theorem refl (s : State) : FieldFrame s s := by constructor <;> first | rfl | exact fun _ h => h

theorem trans {s t u : State} (h : FieldFrame s t) (k : FieldFrame t u) : FieldFrame s u where
  partTime := k.partTime.trans h.partTime
  micros := k.micros.trans h.micros
  clock := k.clock.trans h.clock
  seq := by rw [k.seq, h.seq]
  lpwr := k.lpwr.trans h.lpwr
  mon := k.mon.trans h.mon
  nodes := k.nodes.trans h.nodes
  rollPtr := k.rollPtr.trans h.rollPtr
  polls := k.polls.trans h.polls
  weatherRec := k.weatherRec.trans h.weatherRec
  drying := k.drying.trans h.drying
  beds := k.beds.trans h.beds
  valves := k.valves.trans h.valves
  beacon := k.beacon.trans h.beacon
  mv := k.mv.trans h.mv
  lockRecs := k.lockRecs.trans h.lockRecs
  supplyRec := k.supplyRec.trans h.supplyRec
  lineRec := k.lineRec.trans h.lineRec
  hub := by rw [k.hub, h.hub]
  pending := k.pending.trans h.pending
  mask := k.mask.trans h.mask
  flags f x := k.flags f (h.flags f x)

/-- A fold of operations that each keep the frame keeps it. -/
theorem foldl {α : Type} {f : State → α → State} (hf : ∀ s a, FieldFrame s (f s a)) (as : List α) (s : State) :
    FieldFrame s (as.foldl f s) := by
  induction as generalizing s with
  | nil => exact refl s
  | cons a as ih => exact (hf s a).trans (ih (f s a))

end FieldFrame

/-- A water move is a field move. -/
theorem WaterFrame.field {s t : State} (h : WaterFrame s t) : FieldFrame s t where
  partTime := h.partTime
  micros := h.micros
  clock := h.clock
  seq := h.seq
  lpwr := h.lpwr
  mon := h.mon
  nodes := h.nodes
  rollPtr := h.rollPtr
  polls := h.polls
  weatherRec := h.weatherRec
  drying := h.drying
  beds := h.beds
  valves := h.valves
  beacon := h.beacon
  mv := h.mv
  lockRecs := h.lockRecs
  supplyRec := h.supplyRec
  lineRec := h.lineRec
  hub := by rw [h.hub]
  pending := h.pending
  mask := h.mask
  flags := h.flags

section
variable (s : State)

theorem setLocks_field (l : LockUnit) : FieldFrame s (s.setLocks l) := by constructor <;> first | rfl | exact fun _ h => h
theorem setWeatherUnit_field (w : WeatherUnit) : FieldFrame s (s.setWeatherUnit w) := by constructor <;> first | rfl | exact fun _ h => h
theorem setProbe_field (n : Fin 48) (p : Option ProbeLive) : FieldFrame s (s.setProbe n p) := by constructor <;> first | rfl | exact fun _ h => h
theorem setChoice_field (n : Nat) : FieldFrame s { s with choice := n } := by constructor <;> first | rfl | exact fun _ h => h
theorem setNodeLive_field (n : Fin 48) (l : NodeLive) : FieldFrame s (s.setNodeLive n l) := by constructor <;> first | rfl | exact fun _ h => h
theorem setReports_field (r w : List HubFrame) :
    FieldFrame s (s.setHub { s.hub with reports := r, passWait := w }) := by constructor <;> first | rfl | exact fun _ h => h
theorem dropBaseline_field : FieldFrame s (dropBaseline s) := setWeatherUnit_field s _

/-! ## The Lock Unit -/

theorem recomputeLock_field : FieldFrame s (recomputeLock s) := by
  simp only [recomputeLock]
  split
  · exact .refl s
  · have h (l : LockUnit) : FieldFrame s (setFlag .lockChange (s.setLocks l)) :=
      (setLocks_field s l).trans (setFlag_frame _ _).field
    split
    · exact (h _).trans (lockLeaves_frame _).field
    · split
      · exact (h _).trans (lockOnset_frame _ _ _).field
      · exact h _

theorem setCondition_field (x : Source) (b : Bool) : FieldFrame s (setCondition x b s) := by
  unfold setCondition
  split
  · exact .refl s
  · exact (setLocks_field s _).trans (recomputeLock_field _)

theorem raiseSupply_field : FieldFrame s (raiseSupply s) := by
  unfold raiseSupply
  split
  · exact .refl s
  · exact (setCondition_field s _ _).trans (forcedToAuto_frame _).field

theorem judgeContact_field : FieldFrame s (judgeContact s) := setCondition_field s _ _
theorem judgeFreeze_field (t : Int) : FieldFrame s (judgeFreeze t s) := setCondition_field s _ _
theorem judgeWind_field (v : Nat) : FieldFrame s (judgeWind v s) := setCondition_field s _ _

theorem handWeather_field (t : Int) (v : Nat) : FieldFrame s (handWeather t v s) := by
  simp only [handWeather]
  have h := setLocks_field s { s.locks with handed := some (t, v) }
  split
  · have k := h.trans (choose_frame _ (s.choice + 1)).field
    split
    · exact (k.trans (judgeWind_field _ v)).trans (judgeFreeze_field _ t)
    · exact (k.trans (judgeFreeze_field _ t)).trans (judgeWind_field _ v)
  · exact (h.trans (judgeFreeze_field _ t)).trans (judgeWind_field _ v)

theorem rainHoldDelta_field (d : Nat) : FieldFrame s (rainHoldDelta d s) := by
  simp only [rainHoldDelta]
  split
  · exact (setLocks_field s _).trans (setCondition_field _ _ _)
  · exact .refl s

/-! ## Probes and weather -/

theorem probeReading_field (n : Fin 48) (c : Nat) : FieldFrame s (probeReading n c s) := by
  simp only [probeReading]
  split
  · exact .refl s
  · have h (p : Option ProbeLive) := setProbe_field s n p
    split
    · split
      · exact h _
      · exact ((h _).trans (takeReading_frame _ _ _).field).trans (demandCheck_frame _ _).field
    · split
      · exact (h _).trans (setFlag_frame _ _).field
      · exact h _

theorem probeReturns_field (n : Fin 48) : FieldFrame s (probeReturns n s) := by
  unfold probeReturns
  split
  · exact .refl s
  · split
    · exact setProbe_field s n _
    · exact .refl s

theorem probeSwapped_field (n : Fin 48) (old new : NodeRec) : FieldFrame s (probeSwapped n old new s) := by
  unfold probeSwapped
  split
  · split
    · exact setProbe_field s n _
    · exact probeReturns_field s n
  · exact setProbe_field s n _

theorem judgeProbe_field (n : Fin 48) : FieldFrame s (judgeProbe n s) := by
  unfold judgeProbe
  split
  · exact .refl s
  · exact setProbe_field s n _

theorem evaluate_field (b : Fin 24) : FieldFrame s (evaluate b s) := by
  simp only [evaluate]
  exact ((FieldFrame.foldl (fun t n => judgeProbe_field t n) _ s).trans (onBed_frame _ b _).field).trans
    (accrue_frame _ b).field

theorem setWeather_field (w : WeatherUnit) : FieldFrame s (setWeather w s) := by
  simp only [setWeather]
  split
  · exact ((accrueAll_frame s).field.trans (setWeatherUnit_field _ w)).trans (demandAll_frame _).field
  · exact setWeatherUnit_field s w

theorem recomputeRate_field : FieldFrame s (recomputeRate s) := by
  unfold recomputeRate
  split
  · exact setWeather_field s _
  · exact .refl s

theorem rainToBeds_field (d : Nat) : FieldFrame s (rainToBeds d s) :=
  ((WaterFrame.foldl (fun t b => rainCredit_frame t b d) _ s).trans (demandAll_frame _)).field

theorem rainDelta_field (d : Nat) : FieldFrame s (rainDelta d s) := by
  simp only [rainDelta]
  split
  · have h := (choose_frame s (s.choice + 1)).field
    split
    · exact (h.trans (rainHoldDelta_field _ d)).trans (rainToBeds_field _ d)
    · exact (h.trans (rainToBeds_field _ d)).trans (rainHoldDelta_field _ d)
  · exact (rainToBeds_field s d).trans (rainHoldDelta_field _ d)

theorem rainCounter_field (c : Nat) : FieldFrame s (rainCounter c s) := by
  simp only [rainCounter]
  split
  · split
    · exact setWeatherUnit_field s _
    · split
      · exact .refl s
      · split
        · exact (setWeatherUnit_field s _).trans (rainDelta_field _ _)
        · exact (setWeatherUnit_field s _).trans (setFlag_frame _ _).field
  · exact .refl s

theorem localTip_field : FieldFrame s (localTip s) := by
  unfold localTip
  split
  · exact rainDelta_field s 1
  · exact .refl s

theorem weatherReport_field (t : Int) (v c : Nat) : FieldFrame s (weatherReport t v c s) :=
  ((setWeather_field s _).trans (handWeather_field _ _ _)).trans (rainCounter_field _ c)

theorem weatherNodeSwapped_field (old new : NodeRec) : FieldFrame s (weatherNodeSwapped old new s) := by
  unfold weatherNodeSwapped
  split
  · split
    · exact setWeather_field s _
    · exact dropBaseline_field s
  · split
    · exact setWeather_field s _
    · exact .refl s

theorem weatherRecSwapped_field (old new : WeatherRec) : FieldFrame s (weatherRecSwapped old new s) := by
  unfold weatherRecSwapped
  split
  · exact (dropBaseline_field s).trans (recomputeRate_field _)
  · exact recomputeRate_field s

/-! ## The Node Table -/

theorem presenceChanged_field (n : Fin 48) (l : NodeLive) : FieldFrame s (presenceChanged n l s) :=
  (setNodeLive_field s n _).trans (setFlag_frame _ _).field

theorem nodePresent_field (n : Fin 48) (k : NodeKind) (prior : Presence) :
    FieldFrame s (nodePresent n k prior s) := by
  unfold nodePresent
  split
  · split
    · exact ((decoderReturned_frame s n).trans (pass_frame _)).field
    · exact (pass_frame s).field
  · split
    · exact probeReturns_field s n
    · exact .refl s
  · exact dropBaseline_field s
  all_goals exact .refl s

theorem nodeMissing_field (n : Fin 48) (k : NodeKind) : FieldFrame s (nodeMissing n k s) := by
  unfold nodeMissing
  split
  · exact (decoderLost_frame s n).field
  · exact .refl s

theorem pollMiss_field (n : Fin 48) : FieldFrame s (pollMiss n s) := by
  simp only [pollMiss]
  split
  · exact setNodeLive_field s n _
  · exact setNodeLive_field s n _
  · split
    · exact setNodeLive_field s n _
    · exact (presenceChanged_field s n _).trans (nodeMissing_field _ n _)

theorem pollHeard_field (n : Fin 48) : FieldFrame s (pollHeard n s) := by
  simp only [pollHeard]
  split
  · exact setNodeLive_field s n _
  · exact (presenceChanged_field s n _).trans (nodePresent_field _ n _ _)

theorem consumeReport_field (n : Fin 48) (k : NodeKind) (p : List Byte) :
    FieldFrame s (consumeReport n k p s) := by
  unfold consumeReport
  split
  · exact probeReading_field s n _
  · exact weatherReport_field s _ _ _
  · exact (decoderReport_frame s n _).field
  all_goals exact .refl s

theorem offerReport_field (f : HubFrame) : FieldFrame s (offerReport f s) := by
  unfold offerReport
  split
  · exact setReports_field s _ s.hub.passWait
  · exact (setFlag_frame s _).field

theorem offerPassReply_field (f : HubFrame) : FieldFrame s (offerPassReply f s) := by
  unfold offerPassReply
  split
  · exact setReports_field s _ s.hub.passWait
  · exact setReports_field s s.hub.reports _

theorem forwardReport_field (n : Fin 48) (k : NodeKind) (p : List Byte) :
    FieldFrame s (forwardReport n k p s) := by
  simp only [forwardReport]
  split
  · split
    · exact (offerReport_field s _).trans (setNodeLive_field _ n _)
    · exact offerReport_field s _
  · exact .refl s

theorem pollResult_field (n : Fin 48) (r : Option (NodeKind × List Byte)) : FieldFrame s (pollResult n r s) := by
  unfold pollResult
  split
  · exact pollMiss_field s n
  · split
    · exact ((pollHeard_field s n).trans (consumeReport_field _ n _ _)).trans (forwardReport_field _ n _ _)
    · exact pollMiss_field s n

theorem pollDelivered_field (n : Fin 48) (a : Byte) (r : Option (NodeKind × List Byte)) :
    FieldFrame s (pollDelivered n a r s) := by
  simp only [pollDelivered]
  split
  · split
    · exact pollResult_field s n r
    · split
      · exact (setChoice_field s _).trans (pollResult_field _ n r)
      · exact setChoice_field s _
  · exact .refl s

theorem losePower_field (n : Fin 48) : FieldFrame s (losePower n s) := by
  simp only [losePower]
  split
  · split
    · exact setNodeLive_field s n _
    · exact presenceChanged_field s n _
  · exact .refl s

theorem nodesPowerOff_field : FieldFrame s (nodesPowerOff s) := .foldl (fun t n => losePower_field t n) _ s

theorem nodeLiveSwapped_field (n : Fin 48) (old new : NodeRec) : FieldFrame s (nodeLiveSwapped n old new s) := by
  simp only [nodeLiveSwapped]
  split
  · split
    · exact setNodeLive_field s n _
    · exact presenceChanged_field s n _
  · exact setNodeLive_field s n _

theorem decoderSwapped_field (n : Fin 48) (old new : NodeRec) : FieldFrame s (decoderSwapped n old new s) := by
  unfold decoderSwapped
  split
  · exact (decoderLost_frame s n).field
  · exact .refl s

theorem nodeSwapped_field (n : Fin 48) (old new : NodeRec) : FieldFrame s (nodeSwapped n old new s) :=
  (((nodeLiveSwapped_field s n old new).trans (probeSwapped_field _ n old new)).trans
    (weatherNodeSwapped_field _ old new)).trans (decoderSwapped_field _ n old new)

end

end Sys2Proof.Machine
end

