-- ==== Sys2Proof/Laws/Settle.lean ====
section
/-! SUPPORT. What the moves of the Sequencer and of Update Control leave alone: the line frame (no loaded table changes)
and the settle frame (what a sweep and the STOPPING examination at the end of a step leave alone). -/

namespace Sys2Proof.Machine

/-- `t` has the loaded tables, the clock, the waiting commands and the downstream half of the port as `s` has them. -/
structure LineFrame (s t : State) : Prop where
  partTime : t.partTime = s.partTime
  micros : t.micros = s.micros
  clock : t.clock = s.clock
  nodes : t.nodes = s.nodes
  polls : t.polls = s.polls
  weatherRec : t.weatherRec = s.weatherRec
  drying : t.drying = s.drying
  beds : t.beds = s.beds
  valves : t.valves = s.valves
  lockRecs : t.lockRecs = s.lockRecs
  supplyRec : t.supplyRec = s.supplyRec
  lineRec : t.lineRec = s.lineRec
  hub : t.hub = { s.hub with reports := t.hub.reports, passWait := t.hub.passWait }
  pending : t.pending = s.pending
  mask : t.notice.mask = s.notice.mask
  flags : ∀ f, s.notice.isSet f = true → t.notice.isSet f = true

/-- `t` has part time, clock, line power, roll-call pointer, waiting commands, the downstream half of the port, the
cycle's figures and the fault list as `s` has them. -/
structure SettleFrame (s t : State) : Prop where
  partTime : t.partTime = s.partTime
  micros : t.micros = s.micros
  clock : t.clock = s.clock
  seq : t.seq = { s.seq with
    state := t.seq.state, phase := t.seq.phase, rollCount := t.seq.rollCount, toPoll := t.seq.toPoll, tx := t.seq.tx }
  lpwr : t.lpwr = s.lpwr
  mon : t.mon = { s.mon with measureSince := t.mon.measureSince, swapEnded := t.mon.swapEnded }
  rollPtr : t.rollPtr = s.rollPtr
  hub : t.hub = { s.hub with reports := t.hub.reports, passWait := t.hub.passWait }
  pending : t.pending = s.pending
  mask : t.notice.mask = s.notice.mask
  flags : ∀ f, s.notice.isSet f = true → t.notice.isSet f = true

namespace LineFrame

theorem refl (s : State) : LineFrame s s := by constructor <;> first | rfl | exact fun _ h => h

theorem trans {s t u : State} (h : LineFrame s t) (k : LineFrame t u) : LineFrame s u where
  partTime := k.partTime.trans h.partTime
  micros := k.micros.trans h.micros
  clock := k.clock.trans h.clock
  nodes := k.nodes.trans h.nodes
  polls := k.polls.trans h.polls
  weatherRec := k.weatherRec.trans h.weatherRec
  drying := k.drying.trans h.drying
  beds := k.beds.trans h.beds
  valves := k.valves.trans h.valves
  lockRecs := k.lockRecs.trans h.lockRecs
  supplyRec := k.supplyRec.trans h.supplyRec
  lineRec := k.lineRec.trans h.lineRec
  hub := by rw [k.hub, h.hub]
  pending := k.pending.trans h.pending
  mask := k.mask.trans h.mask
  flags f x := k.flags f (h.flags f x)

end LineFrame

namespace SettleFrame

theorem refl (s : State) : SettleFrame s s := by constructor <;> first | rfl | exact fun _ h => h

theorem trans {s t u : State} (h : SettleFrame s t) (k : SettleFrame t u) : SettleFrame s u where
  partTime := k.partTime.trans h.partTime
  micros := k.micros.trans h.micros
  clock := k.clock.trans h.clock
  seq := by rw [k.seq, h.seq]
  lpwr := k.lpwr.trans h.lpwr
  mon := by rw [k.mon, h.mon]
  rollPtr := k.rollPtr.trans h.rollPtr
  hub := by rw [k.hub, h.hub]
  pending := k.pending.trans h.pending
  mask := k.mask.trans h.mask
  flags f x := k.flags f (h.flags f x)

end SettleFrame

/-- A field move leaves the loaded tables alone. -/
theorem FieldFrame.line {s t : State} (h : FieldFrame s t) : LineFrame s t where
  partTime := h.partTime
  micros := h.micros
  clock := h.clock
  nodes := h.nodes
  polls := h.polls
  weatherRec := h.weatherRec
  drying := h.drying
  beds := h.beds
  valves := h.valves
  lockRecs := h.lockRecs
  supplyRec := h.supplyRec
  lineRec := h.lineRec
  hub := h.hub
  pending := h.pending
  mask := h.mask
  flags := h.flags

/-- A field move is within what a sweep may do. -/
theorem FieldFrame.settle {s t : State} (h : FieldFrame s t) : SettleFrame s t where
  partTime := h.partTime
  micros := h.micros
  clock := h.clock
  seq := by rw [h.seq]
  lpwr := h.lpwr
  mon := by rw [h.mon]
  rollPtr := h.rollPtr
  hub := h.hub
  pending := h.pending
  mask := h.mask
  flags := h.flags

section
variable (s : State)

theorem setSeq_line (q : Sequencer) : LineFrame s (s.setSeq q) := by constructor <;> first | rfl | exact fun _ h => h
theorem setBeacon_line (b : Option Nat) : LineFrame s { s with beacon := b } := by constructor <;> first | rfl | exact fun _ h => h

/-! ## The Sequencer -/

theorem passesDown_field (es : List FifoEntry) : FieldFrame s (passesDown es s) :=
  inAnyOrder_keeps .refl .trans (fun t n => setChoice_field t n) (fun f t => offerPassReply_field t f) _ _ s

theorem clearEntries_field (leaves : FifoEntry → Bool) : FieldFrame s (clearEntries leaves s) := by
  simp only [clearEntries]
  refine .trans (.trans (setFifo_frame s _).field (passesDown_field _ _)) (.foldl (fun t v => ?_) _ _)
  split
  · exact (openWithdrawn_frame t v _).field
  · exact .refl t

theorem clearFifo_field : FieldFrame s (clearFifo s) := (setQueue_frame s _).field.trans (clearEntries_field _ _)

theorem clearWaiting_field : FieldFrame s (clearWaiting s) := (setQueue_frame s _).field.trans (clearEntries_field _ _)

theorem clearFlown_field (v : Fin 32) : FieldFrame s (clearFlown v s) := clearEntries_field s _

theorem queuePowerOff_field : FieldFrame s (queuePowerOff s) := by
  simp only [queuePowerOff]
  exact (((setQueue_frame s _).field.trans (setFifo_frame _ _).field).trans (passesDown_field _ _)).trans
    (setTx_frame _ _).field

theorem payClearing_field (tx : Transmission) : FieldFrame s (payClearing tx s) := by
  simp only [payClearing]
  split
  · exact clearFifo_field s
  · split
    · split
      · exact (setQueue_frame s _).field.trans (clearFlown_field _ _)
      · exact (setQueue_frame s _).field
    · exact .refl s

theorem quiet_line (q : SeqState) : LineFrame s (quiet q s) := (setSeq_line s _).trans (oweSweep_frame _).field.line

theorem marksStop_line : LineFrame s (marksStop s) := by
  simp only [marksStop]
  split
  · exact (setBeacon_line s _).trans (setQueue_frame _ _).field.line
  · exact (setBeacon_line s _).trans (clearFifo_field _).line

theorem enterStopped_line : LineFrame s (enterStopped s) := by
  simp only [enterStopped]
  split
  · exact ((quiet_line s _).trans (setSeq_line _ _)).trans (marksStop_line _)
  · exact (quiet_line s _).trans (marksStop_line _)

theorem halt_line : LineFrame s (halt s) := by
  simp only [halt]
  have h := (setFlag_frame s .seqHalted).field.line.trans (quiet_line _ .halted)
  split
  · exact (h.trans (runningLeft_frame _).field.line).trans (marksStop_line _)
  · exact h.trans (marksStop_line _)

theorem marksStart_line : LineFrame s (marksStart s) := by
  simp only [marksStart]
  split
  · exact (setBeacon_line s _).trans (clearWaiting_field _).line
  · exact setBeacon_line s _

theorem enterRunning_line (n : Nat) : LineFrame s (enterRunning n s) :=
  (((marksStart_line s).trans (setSeq_line _ _)).trans (releaseAll_frame _).field.line).trans (pass_frame _).field.line

theorem enterStep_line : LineFrame s (enterStep s) := (marksStart_line s).trans (setSeq_line _ _)

theorem enterStopping_line : LineFrame s (enterStopping s) :=
  ((setSeq_line s _).trans (runningLeft_frame _).field.line).trans (setWork_frame _ _).field.line

theorem valvesPowerOff_line : LineFrame s (valvesPowerOff s) :=
  (setBeacon_line s _).trans (WaterFrame.foldl (fun t v => settleClosed_frame t v) _ _).field.line

theorem beaconExpires_line : LineFrame s (beaconExpires s) :=
  ((setBeacon_line s _).trans (WaterFrame.foldl (fun t v => withdraw_frame t v) _ _).field.line).trans
    (WaterFrame.foldl (fun t v => settleClosed_frame t v) _ _).field.line

theorem judgeMeasure_line : LineFrame s (judgeMeasure s) := by constructor <;> first | rfl | exact fun _ h => h

theorem powerOn_line : LineFrame s (powerOn s) := by constructor <;> first | rfl | exact fun _ h => h

theorem cutPower_line (q : SeqState) (m : CurrentMonitor) : LineFrame s (cutPower q m s) := by
  simp only [cutPower]
  have h : LineFrame s (quiet q { s with lpwr := false, mon := m }) :=
    LineFrame.trans (by constructor <;> first | rfl | exact fun _ h => h) (quiet_line { s with lpwr := false, mon := m } q)
  refine .trans ?_ (nodesPowerOff_field _).line
  refine .trans ?_ (valvesPowerOff_line _)
  refine .trans ?_ (queuePowerOff_field _).line
  split
  · exact h.trans (runningLeft_frame _).field.line
  · exact h

theorem trip_line : LineFrame s (trip s) := by
  simp only [trip]
  split
  · exact ((setFlag_frame s _).field.line.trans (setFlag_frame _ _).field.line).trans (cutPower_line _ _ _)
  · exact ((setFlag_frame s _).field.line.trans (setSeq_line _ _)).trans (cutPower_line _ _ _)

theorem backoffEnds_line : LineFrame s (backoffEnds s) := by
  simp only [backoffEnds]
  split
  · exact (powerOn_line s).trans (enterRunning_line _ _)
  · exact (powerOn_line s).trans (quiet_line _ _)
  · exact (powerOn_line s).trans (quiet_line _ _)

theorem restoreLine_line : LineFrame s (restoreLine s) := by
  refine .trans (.trans ?_ (powerOn_line _)) (quiet_line _ _)
  constructor <;> first | rfl | exact fun _ h => h

theorem echoGood_line : LineFrame s (echoGood s) := setSeq_line s _

theorem settleMark_line : LineFrame s (settleMark s) := by
  unfold settleMark
  split
  · exact (setSeq_line s _).trans (echoGood_line _)
  · exact .refl s

theorem dropPass_frame : WaterFrame s (dropPass s) := setFifo_frame s _

theorem abandonTx_field : FieldFrame s (abandonTx s) := by
  simp only [abandonTx]
  split
  · exact ((setTx_frame s _).trans (dropPass_frame _)).field.trans (offerPassReply_field _ _)
  all_goals exact (setTx_frame s _).field

theorem countMismatch_line : LineFrame s (countMismatch s) := by
  simp only [countMismatch]
  split
  · exact (setSeq_line s _).trans (halt_line _)
  · exact setSeq_line s _

theorem clearAttempted_frame : WaterFrame s (clearAttempted s) := setQueue_frame s _
theorem openCycle_line : LineFrame s (openCycle s) := setSeq_line s _

theorem beginPolls_line : LineFrame s (beginPolls s) := by
  simp only [beginPolls]
  split
  · constructor <;> first | rfl | exact fun _ h => h
  · exact setSeq_line s _

theorem beginPollSlot_line (n : Fin 48) (rest : List (Fin 48)) : LineFrame s (beginPollSlot n rest s) := setSeq_line s _

theorem sendPass_line (i : Nat) : LineFrame s (sendPass i s) := by
  unfold sendPass
  split
  · exact (setQueue_frame s _).field.line.trans (setSeq_line _ _)
  · exact .refl s

theorem beginCommandSlot_line : LineFrame s (beginCommandSlot s) := by
  simp only [beginCommandSlot]
  split
  · exact (setSeq_line s _).trans (setSeq_line _ _)
  · exact (setSeq_line s _).trans (setSeq_line _ _)
  · exact (setSeq_line s _).trans (sendPass_line _ _)
  · exact setSeq_line s _

theorem commandLeaves_frame (v : Fin 32) (k : CommandKind) : WaterFrame s (commandLeaves v k s) := by
  cases k
  · exact dropOpen_frame s v
  · exact setClose_frame s v _

theorem commandStays_frame (v : Fin 32) (k : CommandKind) : WaterFrame s (commandStays v k s) := by
  unfold commandStays
  split
  · split
    · exact setClose_frame s v _
    · exact .refl s
  · exact setQueue_frame s _

theorem commandEnds_line (v : Fin 32) (k : CommandKind) (d a : Bool) : LineFrame s (commandEnds v k d a s) := by
  simp only [commandEnds]
  have h := (setSeq_line s { s.seq with tx := .idle }).trans (echoGood_line _)
  split
  · exact h
  · refine h.trans (.trans ?_ (valveOutcome_frame _ _ _ _).field.line)
    split
    · exact (commandLeaves_frame _ v k).field.line
    · exact (commandStays_frame _ v k).field.line

theorem passEnds_line (a : Byte) (x : Option (List Byte)) : LineFrame s (passEnds a x s) := by
  simp only [passEnds]
  have h := ((setSeq_line s { s.seq with tx := .idle }).trans (echoGood_line _)).trans (dropPass_frame _).field.line
  split
  · exact h.trans (offerPassReply_field _ _).line
  · exact h.trans (offerPassReply_field _ _).line

/-! ## The end of a step -/

theorem onSlot_settle (f : EntryOp) (x : Slot) : SettleFrame s (onSlot f x s) := by
  cases x <;> constructor <;> first | rfl | exact fun _ h => h

theorem judgeMeasure_settle : SettleFrame s (judgeMeasure s) := by constructor <;> first | rfl | exact fun _ h => h

theorem lineSwapped_settle : SettleFrame s (lineSwapped s) := by
  simp only [lineSwapped]
  split
  · exact (judgeMeasure_settle s).trans (by constructor <;> first | rfl | exact fun _ h => h)
  · exact judgeMeasure_settle s

theorem quiet_settle (q : SeqState) : SettleFrame s (quiet q s) := by constructor <;> first | rfl | exact fun _ h => h

theorem marksStop_settle : SettleFrame s (marksStop s) := by
  simp only [marksStop]
  have h : SettleFrame s { s with beacon := some (s.partTime + 10) } := by constructor <;> first | rfl | exact fun _ h => h
  split
  · exact h.trans (setQueue_frame _ _).field.settle
  · exact h.trans (clearFifo_field _).settle

theorem enterStopped_settle : SettleFrame s (enterStopped s) := by
  simp only [enterStopped]
  split
  · exact ((quiet_settle s _).trans (setTx_frame _ _).field.settle).trans (marksStop_settle _)
  · exact (quiet_settle s _).trans (marksStop_settle _)

theorem examineStop_settle : SettleFrame s (examineStop s) := by
  simp only [examineStop]
  split
  · exact (setWork_frame s _).field.settle.trans (enterStopped_settle _)
  · exact (setWork_frame s _).field.settle

theorem bedSwapped_settle (b : Fin 24) (old new : BedRec) : SettleFrame s (bedSwapped b old new s) :=
  (((accrue_frame s b).field.settle.trans (onSlot_settle _ _ _)).trans (setBedLive_frame _ b _).field.settle).trans
    (demandCheck_frame _ b).field.settle

theorem supplySwapped_settle (old new : SupplyRec) : SettleFrame s (supplySwapped old new s) :=
  ((setMonitor_frame s _).field.settle.trans (judgeContact_field _).settle).trans (pass_frame _).field.settle

theorem lockSwapped_settle (i : Fin 5) : SettleFrame s (lockSwapped i s) :=
  (setLocks_field s _).settle.trans (recomputeLock_field _).settle

theorem swapEffects_settle (x : Slot) : SettleFrame s (swapEffects x s) := by
  have h := onSlot_settle s ⟨Entry.swap⟩ x
  cases x with
  | node n => exact h.trans (nodeSwapped_field _ n _ _).settle
  | poll _ => exact h
  | valve v => exact h.trans (valveSwapped_frame _ v _ _).field.settle
  | bed b => exact bedSwapped_settle s b _ _
  | supply => exact h.trans (supplySwapped_settle _ _ _)
  | line => exact h.trans (lineSwapped_settle _)
  | weather => exact h.trans (weatherRecSwapped_field _ _ _).settle
  | drying => exact h.trans (recomputeRate_field _).settle
  | lock i => exact h.trans (lockSwapped_settle _ i)

theorem swapSlot_settle (x : Slot) : SettleFrame s (swapSlot x s) := by
  simp only [swapSlot]
  split
  · exact (swapEffects_settle s x).trans (setFlag_frame _ _).field.settle
  · exact swapEffects_settle s x

theorem sweepTurn_settle : SettleFrame s (sweepTurn s) := by
  unfold sweepTurn
  split
  · exact swapSlot_settle s _
  · exact (setWork_frame s _).field.settle

theorem settleTurns_settle (n : Nat) : SettleFrame s (settleTurns n s) := by
  induction n generalizing s with
  | zero => exact .refl s
  | succ n ih =>
    unfold settleTurns
    split
    · exact (examineStop_settle s).trans (ih _)
    · split
      · exact ((setWork_frame s _).trans (pass_frame _)).field.settle.trans (ih _)
      · split
        · exact (sweepTurn_settle s).trans (ih _)
        · split
          · exact ((setWork_frame s _).trans (pass_frame _)).field.settle.trans (ih _)
          · exact .refl s

theorem judgeMv_settle : SettleFrame s (judgeMv s) := by constructor <;> first | rfl | exact fun _ h => h

/-- What the end of a step leaves alone, whatever was owed. -/
theorem settle_settle : SettleFrame s (settle s) :=
  ((settleTurns_settle s 1024).trans (setWork_frame _ _).field.settle).trans (judgeMv_settle _)

/-- Nothing is owed after the end of a step. -/
@[simp] theorem settle_work :
    (settle s).work = { pass := false, free := false, sweep := false, stop := false, mark := false } := rfl

/-- MV stands as its conditions say after the end of a step (07 R139). -/
@[simp] theorem settle_mv : (settle s).mv = mvWanted (settle s) := rfl

/-! ## The upstream arbiter -/

/-- What the arbiter touches: the upstream half of the port and the notice-pending state (11 R184, R186). -/
theorem arbitrate_eq : arbitrate s = { s with
    hub := { s.hub with
      htx := (arbitrate s).hub.htx, wire := (arbitrate s).hub.wire, answer := (arbitrate s).hub.answer,
      reports := (arbitrate s).hub.reports, passWait := (arbitrate s).hub.passWait }
    notice := { s.notice with pending := (arbitrate s).notice.pending } } := by
  unfold arbitrate
  split
  · split
    · rfl
    · split
      · rfl
      · split
        · rfl
        · simp only [HubPort.departReport, State.setHub]
          split <;> rfl
  · rfl

end

end Sys2Proof.Machine
end

