-- ==== Sys2Proof/Laws/Rest.lean ====
section
/-! SUPPORT. The end of a step where nothing is owed, or where no entry is SWAP_DUE: the first changes nothing, the
second is a water move. -/

namespace Sys2Proof.Machine

/-- Every entry stands in swap order (10 R164). -/
theorem mem_allSlots (x : Slot) : x ∈ allSlots := by
  cases x <;> simp [allSlots, List.mem_finRange]

/-- Without a SWAP_DUE entry there is no head entry. -/
theorem headDue_none {s : State} (h : NoSwapDue s) : headDue s = none := by
  simp only [headDue, List.find?_eq_none]
  intro x _
  simp [h x]

theorem readyHead_none {s : State} (h : NoSwapDue s) : readyHead s = none := by
  simp [readyHead, headDue_none h]

/-- Moves that leave the tables alone leave no entry SWAP_DUE. -/
theorem LineFrame.noSwapDue {s t : State} (k : LineFrame s t) (h : NoSwapDue s) : NoSwapDue t := by
  intro x
  have := h x
  cases x <;> simpa [slotDue, k.nodes, k.polls, k.valves, k.beds, k.supplyRec, k.lineRec, k.weatherRec, k.drying,
    k.lockRecs] using this

/-- Between steps the end of a step changes nothing. -/
theorem settle_rested {s : State} (h : Rested s) : settle s = s := by
  obtain ⟨hw, hm⟩ := h
  have hw' : s.work = { pass := false, free := false, sweep := false, stop := false, mark := false } := hw
  have h1 : settleTurns 1024 s = s := by
    unfold settleTurns
    simp [hw']
  have hm' : s.mv = mvWanted s := hm
  simp only [settle, h1]
  cases s
  simp_all [judgeMv, State.setWork, mvWanted]

/-- So the whole end of the step is the arbiter's choice. -/
theorem complete_rested {s : State} (h : Rested s) : complete s = arbitrate s := by
  simp [complete, settle_rested h]

/-- Outside STOPPING, with no entry SWAP_DUE, what is owed is at most grant passes. -/
theorem settleTurns_water {s : State} (n : Nat) (hd : NoSwapDue s) (hs : s.seq.state ≠ .stopping) :
    WaterFrame s (settleTurns n s) := by
  induction n generalizing s with
  | zero => exact .refl s
  | succ n ih =>
    have key : ∀ t, WaterFrame s t → WaterFrame s (settleTurns n t) := by
      intro t h
      refine h.trans (ih (h.field.line.noSwapDue hd) ?_)
      rw [h.seq]
      exact hs
    unfold settleTurns
    split
    · refine key _ ?_
      simp only [examineStop]
      have : ¬ ((s.setWork { s.work with stop := false }).seq.state = .stopping ∧
          fieldSettled (s.setWork { s.work with stop := false }) = true) := by simp [hs]
      rw [if_neg this]
      exact setWork_frame s _
    · split
      · exact key _ ((setWork_frame s _).trans (pass_frame _))
      · split
        · refine key _ ?_
          simp only [sweepTurn, readyHead_none hd]
          exact setWork_frame s _
        · split
          · exact key _ ((setWork_frame s _).trans (pass_frame _))
          · exact .refl s

/-- The end of a step outside STOPPING with no entry SWAP_DUE: a water move, and MV judged. -/
theorem settle_water {s : State} (hd : NoSwapDue s) (hs : s.seq.state ≠ .stopping) :
    ∃ t, WaterFrame s t ∧ settle s = judgeMv t :=
  ⟨_, (settleTurns_water 1024 hd hs).trans (setWork_frame _ _), rfl⟩

end Sys2Proof.Machine
end

