-- ==== Sys2Proof/Laws/Port.lean ====
section
/-! SUPPORT. What the taking of a request can do (11 R182): where it cannot be taken nothing, where it can the owner's
ruling, or BAD_VALUE for a wrong body length, settled and answered. -/

namespace Sys2Proof.Machine

variable (kind : Byte) (lengths : Nat → Bool) (rule : List Byte → State → Ruling) (body : List Byte) (s : State)

/-- A request whose turn has not come changes nothing. -/
theorem takeRequest_untaken (h : canTake { kind := kind, body := body } s = false) :
    takeRequest kind lengths rule body s = s := by
  simp [takeRequest, h]

/-- A request of an allowed length goes to its owner's rule. -/
theorem takeRequest_taken (h : canTake { kind := kind, body := body } s = true) (hl : lengths body.length = true) :
    takeRequest kind lengths rule body s = answerRuling kind (rule body (atHead { kind := kind, body := body } s)) := by
  simp [takeRequest, h, hl]

/-- A request of another length is answered BAD_VALUE. -/
theorem takeRequest_badLength (h : canTake { kind := kind, body := body } s = true) (hl : lengths body.length = false) :
    takeRequest kind lengths rule body s =
      answerRuling kind (refuse .badValue (atHead { kind := kind, body := body } s)) := by
  simp [takeRequest, h, hl]

/-- The port's own moves leave what `Rested` speaks of alone. -/
theorem setHub_rested (h : HubPort) : Rested (s.setHub h) ↔ Rested s := Iff.rfl

theorem atHead_rested (f : HubFrame) (h : Rested s) : Rested (atHead f s) := by
  unfold atHead
  split
  · exact (setHub_rested s _).mpr h
  · exact h

/-- A ruling that leaves nothing owed is answered as it stands. -/
theorem answerRuling_rested (r : Ruling) (h : Rested r.state) :
    answerRuling kind r = arbitrate (putAnswer kind r.result (r.body r.state) r.state) := by
  simp [answerRuling, settle_rested h]

/-- A refusal, or any ruling whose state is the one the request was taken in, is `answered`. -/
theorem answerRuling_unchanged (r : Result) (tail : State → List Byte) (h : Rested s) :
    answerRuling kind { state := atHead { kind := kind, body := body } s, result := r, body := tail } =
      answered kind r (tail (atHead { kind := kind, body := body } s)) body s :=
  answerRuling_rested kind _ (atHead_rested s _ h)

/-- A request that its owner refuses is answered with that result and changes nothing else. -/
theorem takeRequest_refused (r : Result) (h : canTake { kind := kind, body := body } s = true)
    (hl : lengths body.length = true) (hr : Rested s)
    (hx : rule body (atHead { kind := kind, body := body } s) = refuse r (atHead { kind := kind, body := body } s)) :
    takeRequest kind lengths rule body s = answered kind r [] body s := by
  rw [takeRequest_taken kind lengths rule body s h hl, hx]
  exact answerRuling_unchanged kind body s r (fun _ => []) hr

end Sys2Proof.Machine
end

