-- ==== Sys2Proof/WellFormed.lean ====
section
/-! DEFINITION. Which commands a sender can form: bodies that fit a frame, replies that fit the line, kinds of the
right range. `exec` is total and does not depend on it. -/

namespace Sys2Proof

/-- A BODY holds LEN - 1 bytes and LEN is 1..240 (11 R178). -/
def bodyFits (body : List Byte) : Bool := body.length ≤ 239

/-- The kind codes 0x01..0x18 are the 24 request codes (12.2). -/
def isRequestCode (kind : Byte) : Bool := 1 ≤ kind.toNat && kind.toNat ≤ 0x18

/-- A received reply has at least one byte, and its first start bit falls within the longest slot (01 R6). -/
def Reply.wellFormed : Reply → Bool
  | .silent => true
  | .frame [] => false
  | .frame (first :: _) => first.1 < 320

/-- A command as a sender can form it. -/
def Instr.wellFormed : Instr → Bool
  | .load b | .read b | .update b | .discard b | .seqRun b | .seqStop b | .seqStep b | .lineRestore b | .timeSet b
  | .timeRead b | .runStart b | .runStop b | .runStopAll b | .runAdjust b | .runList b | .bedState b | .valveMode b
  | .lockSet b | .lockClear b | .status b | .flagsClear b | .noticeMask b | .pass b | .resetPart b => bodyFits b
  | .unknownKind k b => k.toNat < 0x80 && !isRequestCode k && bodyFits b
  | .pollOutcome r | .commandOutcome r | .passOutcome r => r.wellFormed
  | .powerOnReset | .receiveFrame _ | .frameGapTimeout | .breakBegin | .breakEnd | .answerEnd | .upstreamFrameEnd
  | .cycleMark | .pollPartStart | .pollSlotStart | .commandSlotStart | .echoMismatch | .stepEnd | .overcurrent
  | .backoffExpiry | .beaconSilenceExpiry | .pulseExpiry _ | .soakExpiry _ | .evaluationExpiry _
  | .weatherStalenessExpiry | .rainHoldExpiry | .inputLevelChange _ _ | .rainTip _ | .contactStable _ | .flowEdge _
  | .flowWindowEnd | .minuteTransition | .hubByteReceived _ _ | .sensedCurrentChange _ => true

end Sys2Proof
end

