-- ==== Sys2Proof/Tests/Slice0.lean ====
section
/-! SUPPORT. The model's own tests: ill-formed terms refused, figures worked in the manual, and for every statement with
hypotheses states and operands that meet them, at the ends of their ranges. -/

namespace Sys2Proof.Machine

-- one test at a time: threads that wait for one another reserve memory
set_option Elab.async false

/-! ## Ill-formed terms -/

theorem test_wf_body_too_long : (Instr.load (List.replicate 240 0)).wellFormed = false := by decide +kernel
theorem test_wf_body_fits : (Instr.load (List.replicate 239 0)).wellFormed = true := by decide +kernel
theorem test_wf_unknown_kind_is_a_request : (Instr.unknownKind 0x18 []).wellFormed = false := by decide
theorem test_wf_unknown_kind_is_upstream : (Instr.unknownKind 0x80 []).wellFormed = false := by decide
theorem test_wf_unknown_kind : (Instr.unknownKind 0x19 []).wellFormed = true := by decide
theorem test_wf_reply_without_bytes : (Instr.pollOutcome (.frame [])).wellFormed = false := by decide
theorem test_wf_reply_past_the_slot : (Instr.passOutcome (.frame [(320, 0)])).wellFormed = false := by decide
theorem test_wf_reply : (Instr.commandOutcome (.frame [(319, 0)])).wellFormed = true := by decide

/-! ## Figures from the manual -/

/-- 01 R7: POLL to address 1. -/
theorem test_crc8_poll : pollFrame 1 = [0x20, 0x01, 0xBB] := by decide +kernel

/-- 01 R1: 10 bit times of idle do not end a frame, 11 do; 01 R6: a byte not complete by the slot's end is not heard. -/
theorem test_idle_ends_a_frame : heard (singleSlot 30 16) (.frame [(30, 1), (10, 2), (11, 3), (0, 4)]) = some [1, 2] ∧
    heard (singleSlot 30 40) (.frame [(79, 1), (0, 2), (51, 3)]) = some [1, 2] ∧
    heard (singleSlot 30 120) (.frame [(140, 1), (0, 2), (1, 3)]) = some [1, 2] ∧
    heard (singleSlot 30 16) (.frame [(56, 1)]) = none := by decide

/-- The drying table of the worked figures of 04 R59. -/
def figures : DryingRec :=
  { bands := [(50, 2), (100, 5), (150, 10), (200, 18), (250, 28), (300, 40), (350, 55), (600, 75)] }

theorem test_drying_rate : [dryingRate figures 5 275 40, dryingRate figures 5 (-20) 120, dryingRate figures 5 300 0] =
    [48, 3, 40] := by decide +kernel

/-- A live balance with an estimate, a deficit and three residues of 0. -/
def balance (estimate deficit : Nat) : BedLive :=
  { estimate := estimate, estimateValid := true, deficit := deficit, accrualResidue := 0, rainResidue := 0
    waterResidue := 0, lastAccrual := 0, holdEnd := none, probeStale := false, evaluateAt := 600 }

/-- 05 R72. -/
theorem test_estimate : [(380, 416, 4), (500, 503, 2), (500, 463, 4), (500, 497, 2), (120, 900, 8)].map
    (fun x : Nat × Nat × Nat => ((balance x.1 0).smooth x.2.1 x.2.2).estimate) = [398, 500, 482, 500, 900] := by
  decide +kernel

/-- 05 R73, the note. -/
theorem test_reading_deficit : readingDeficit 398 700 600 = 181 := by decide

/-- 05 R75, the table, and its third row at D = 1995, held at 2000; then 05 R79, the note: F = 120, A = 80. -/
theorem test_accrual_and_water_credit :
    ([(48, 80, 0, 10), (48, 80, 38400, 10), (400, 150, 50000, 10), (400, 150, 50000, 1995)] : List (Nat × Nat × Nat × Nat)).map
      (fun x =>
        let l := BedLive.accrue x.1 x.2.1 630 { balance 0 x.2.2.2 with accrualResidue := x.2.2.1 }
        (l.deficit, l.accrualResidue, l.lastAccrual)) =
      [(10, 38400, 600), (11, 16800, 600), (20, 50000, 600), (2000, 0, 600)] ∧
    [300, 124].map (fun secs => let l := (balance 0 100).water secs 120 80; (l.deficit, l.waterResidue)) =
      [(25, 0), (69, 0)] := by decide +kernel

/-- 05 R68: a window within a day, one past midnight, and one that never closes. -/
theorem test_windows :
    ([(1080, 1320), (1320, 60), (60, 60)] : List (Nat × Nat)).map (fun w =>
      [59, 60, 1079, 1080, 1319, 1320].map ({ BedRec.reset with windowStart := w.1, windowEnd := w.2 }.windowOpen)) =
      [[false, false, false, true, true, false], [true, false, false, false, false, true],
       [true, true, true, true, true, true]] := by decide

/-- 04 section 4.8: 7 tips at tip size 2 on exposures 100 and 30. -/
theorem test_rain : [((balance 0 50).rain 7 2 100).deficit, ((balance 0 50).rain 7 2 30).deficit,
    ((balance 0 50).rain 7 2 30).rainResidue] = [36, 46, 20] := by decide

/-- A bed record for the sizing table of 05 R84. -/
def sizing (area stop least most : Nat) : BedRec :=
  { BedRec.reset with used := true, area := area, stopLevel := stop, minRun := least, maxRun := most }

theorem test_sizing : [sizedSeconds (sizing 80 0 30 1800) 181 120, sizedSeconds (sizing 12 100 30 1800) 160 200,
    sizedSeconds (sizing 10000 0 30 1800) 2000 1000, sizedVolume (sizing 10000 0 30 1800) 2000,
    sizedSeconds (sizing 5 150 30 1800) 151 120] = [724, 30, 1800, 65535, 30] := by decide +kernel

/-- 09 R158. -/
theorem test_measured_flow : [measuredFlow 900 450, measuredFlow 203 450, measuredFlow 2400 450, measuredFlow 10000 1,
    measuredFlow 10 1000] = [120, 27, 320, 2000, 0] := by decide

/-- 08 R145, the note: T_f 20, hysteresis 10. -/
theorem test_freeze : [freezeNext (LockRec.reset 20 10) 20 false, freezeNext (LockRec.reset 20 10) 28 true,
    freezeNext (LockRec.reset 20 10) 30 true] = [true, true, false] := by decide

/-! ## A small garden -/

/-- A decoder, a probe and the weather node, all PRESENT. -/
def gardenNode (kind : NodeKind) (address : Nat) : Entry NodeRec :=
  Entry.atReset { kind := kind, address := address, outputs := 2, forward := 0, delta := 0, dry := 3200, wet := 1400 }

/-- Heard at the last poll. -/
def heardNode : NodeLive := { presence := .present, misses := 0, changed := false, forwarded := none }

/-- A used valve on output `o` of the decoder. -/
def gardenValve (o flow : Nat) : Entry ValveRec := Entry.atReset { used := true, decoder := 0, output := o, flow := flow }

/-- A bed on valve `v` with probe `p`. -/
def gardenBed (v p : Nat) : Entry BedRec :=
  Entry.atReset { used := true, mode := 1, valve := v, probeA := p, probeB := 255, area := 80, fieldCapacity := 700
                  holding := 600, smoothing := 4, dryingExposure := 80, rainExposure := 100, defaultRate := 20
                  startThreshold := 150, stopLevel := 0, minRun := 30, maxRun := 1800, pulseOn := 300, soak := 600
                  windowStart := 1080, windowEnd := 1320 }

/-- An ON run of bed 0 whose pulse of 300 s began at 1000. -/
def wateringRun : Run :=
  { bed := 0, origin := .auto, state := .on, planned := 724, delivered := 300, volume := 1448, pulseOn := 300, soak := 600
    plan := none, skips := 0, reasons := .empty, stopAtPulseEnd := false, pulseStart := some 1000, expiry := some 1300 }

/-- RUNNING at part time 1300 with bed 0 watering through valve 0 and bed 1 waiting for nothing. -/
def garden : State :=
  { State.reset with
    partTime := 1300
    clock := { valid := true, minute := 1100, second := 0, turnDue := false }
    seq := { State.reset.seq with state := .running, phase := .commands, nextSlot := 200 }
    nodes := ((State.reset.nodes.set 0 (gardenNode .valveDecoder 10)).set 1 (gardenNode .soilProbe 20)).set 2
      (gardenNode .weather 30)
    nodeLive := ((State.reset.nodeLive.set 0 heardNode).set 1 heardNode).set 2 heardNode
    probes := State.reset.probes.set 1 (some { state := .ok, rejects := 0, lastCount := none, reference := 0 })
    weather := { status := .fresh, temperature := 275, wind := 40, rate := 48, reference := some 0, baseline := some 5 }
    weatherRec := Entry.atReset { windFactor := 5, source := .weather, tipSize := 2 }
    valves := (State.reset.valves.set 0 (gardenValve 1 120)).set 1 (gardenValve 2 90)
    valveLive := State.reset.valveLive.set 0
      { state := .opened, mode := .auto, owner := some 0, assumedOpen := false, attempts := 0, latched := false }
    beds := (State.reset.beds.set 0 (gardenBed 0 1)).set 1 (gardenBed 1 255)
    bedLive := (State.reset.bedLive.set 0 (some (balance 398 106))).set 1 (some (balance 0 200))
    supplyRec := Entry.atReset { SupplyRec.reset with maxSlots := 2, flowCap := 300 }
    runs := [wateringRun]
    notice := { flags := 0, mask := 0, pending := false } }

/-- The premises about the state between two steps, as one check. -/
def calm (s : State) : Bool :=
  s.work == { pass := false, free := false, sweep := false, stop := false, mark := false } && s.mv == mvWanted s &&
  allSlots.all (fun x => !slotDue s x) && decide ((s.runs.map (·.bed)).Nodup) &&
  s.locks.effective == composeLock (termsInForce s)

/-- What the check says. -/
theorem calm_sound {s : State} (h : calm s = true) : Rested s ∧ NoSwapDue s ∧ QueueLaw s ∧ LockLaw s := by
  simp only [calm, Bool.and_eq_true, beq_iff_eq, decide_eq_true_eq, List.all_eq_true, Bool.not_eq_true'] at h
  obtain ⟨⟨⟨⟨hw, hm⟩, hd⟩, hq⟩, hl⟩ := h
  exact ⟨⟨hw, hm⟩, fun x => hd x (mem_allSlots x), hq, hl⟩

/-- The premises of a statement about a request that is taken. -/
def ready (kind : Byte) (body : List Byte) (s : State) : Bool := calm s && canTake { kind := kind, body := body } s

theorem ready_sound {kind : Byte} {body : List Byte} {s : State} (h : ready kind body s = true) :
    Takes kind body s ∧ Rested s ∧ NoSwapDue s ∧ QueueLaw s ∧ LockLaw s := by
  simp only [ready, Bool.and_eq_true] at h
  exact ⟨h.2, calm_sound h.1⟩

/-- The garden in another sequencer state, with nothing ON. -/
def gardenIn (q : SeqState) : State :=
  { garden.setSeq { garden.seq with state := q } with runs := [{ wateringRun with state := .held }] }

theorem test_garden_is_lawful : (calm garden && crossChecks garden) = true := by decide +kernel

/-! ## Steps on the garden -/

/-- The state after a command. -/
def after (c : Instr) (s : State) : State :=
  match exec c s with
  | .next t => t
  | .fault _ | .refused _ => s

/-- 06 R102, R103, 05 R79: the second pulse ends at 600 of 724 s and the bed soaks; 300 s at 120 dL/min over 80 credit 75. -/
theorem test_pulse_expiry : let t := after (.pulseExpiry 0) garden
    (t.runs.map fun r => (r.state, r.delivered, r.expiry)) = [(.soak, 600, some 1900)] ∧
    t.valveLive[(0 : Fin 32)].state = .closing ∧ deficitOf t 0 = deficitOf (accrue 0 garden) 0 - 75 := by decide +kernel

/-- 06 R109, R110: 60 s for bed 1 go to the HUB section's end and are granted; the answer carries 60 s and 90 dL. -/
theorem test_run_start : let t := after (.runStart [1, 60, 0]) garden
    (t.runs.map fun r => (r.bed, r.state)) = [(1, .on), (0, .on)] ∧
    answerOf t = some { kind := 0x8B, body := [0, 60, 0, 90, 0] } := by decide +kernel

/-- 08 R149: a HUB lock of CANCEL with IMMEDIATE timing removes every run. -/
theorem test_lock_set :
    let r := Entry.atReset { LockRec.reset 0 0 with enabled := true, mode := .cancel }
    let s := { garden with lockRecs := garden.lockRecs.set 4 r }
    (after (.lockSet []) s).runs = [] ∧ answerOf (after (.lockSet []) s) =
      some { kind := 0x92, body := [0, 1, 1, 0] } := by decide +kernel

/-- 02 R30: an overcurrent from RUNNING. -/
theorem test_overcurrent : let t := after .overcurrent { garden with mon := { garden.mon with measureSince := some 1299 } }
    t.seq.state = .lineOff ∧ t.lpwr = false ∧ t.mon.backoff = some 1330 ∧ t.valveLive[(0 : Fin 32)].state = .closed ∧
    t.runs.map (·.state) = [.held] := by decide +kernel

/-- 11 R179 to R181: STATUS, sent byte by byte, stands in the request queue. -/
theorem test_frame_received : ((execAll ((0xD3 :: frameTail { kind := 0x14, body := [] }).map fun b =>
    .hubByteReceived b false) garden).map fun t => t.hub.requests) = some [{ kind := 0x14, body := [] }] := by
  decide +kernel

/-! ## States and operands that meet the premises of the statements -/

theorem witness_StepRunsFrontCommand : { garden with pending := [.status [], .cycleMark] }.pending =
    .status [] :: [.cycleMark] := rfl

theorem witness_IdleStep : State.reset.pending = [] ∧ dueCommands (arbitrate State.reset) = [] ∧
    dueCommands (arbitrate garden) ≠ [] ∧ garden.pending = [] := by decide +kernel

theorem witness_Resets :
    ([.stopped, .halted, .lockedOut, .running, .step, .stopping, .lineOff] : List SeqState).all
      (fun q => ready 0x18 [] (gardenIn q)) = true ∧
    (garden.setHub { garden.hub with htx := .answer ⟨0x98, [0]⟩, resetOwed := true }).hub.htx = .answer ⟨0x98, [0]⟩ := by
  decide +kernel

/-- The garden's port with so many requests in its queue. -/
def crowded (n : Nat) : State :=
  garden.setHub { garden.hub with requests := List.replicate n { kind := 0x14, body := [] } }

theorem witness_FrameSentByteByByteIsReadBack : (crowded 3).hub.framer = .hunting ∧ (crowded 4).hub.framer = .hunting ∧
    (crowded 4).hub.holdOff = false ∧ (List.replicate 239 (0 : Byte)).length ≤ 239 ∧ (crowded 3).hub.requests.length < 4 ∧
    4 ≤ (crowded 4).hub.requests.length := by decide +kernel

/-- The garden's framer after these bytes of a frame. -/
def receivingGarden (n : Nat) (got : List Byte) : State :=
  (crowded n).setHub { (crowded n).hub with framer := .receiving got }

theorem witness_FramerFollowsItsTable :
    calm (receivingGarden 0 []) = true ∧ calm (receivingGarden 0 [1]) = true ∧ calm garden = true ∧
    (receivingGarden 0 [1]).hub.framer = .receiving ((1 : Byte) :: []) ∧ ([] : List Byte).length + 2 < (1 : Byte).toNat + 3 ∧
    (receivingGarden 3 (frameTail ⟨0x14, []⟩).dropLast).hub.framer = .receiving (frameTail ⟨0x14, []⟩).dropLast ∧
    calm (receivingGarden 4 (frameTail ⟨0x94, [0]⟩).dropLast) = true ∧
    (0 : Byte) ≠ (frameTail ⟨0x14, []⟩).getLastD 0 := by decide +kernel

theorem witness_ArbiterChoosesInItsOrder :
    let s := garden.setHub { garden.hub with htx := .report ⟨0xE1, []⟩ }
    let h := garden.setHub { garden.hub with holdOff := true }
    let a := garden.setHub { garden.hub with htx := .answer ⟨0x94, []⟩, holdOff := true }
    s.hub.htx = .report ⟨0xE1, []⟩ ∧ s.hub.holdOff = false ∧ h.hub.holdOff = true ∧ h.hub.htx = .idle ∧
    a.hub.htx ≠ .idle ∧ a.hub.resetOwed = false := by decide +kernel

/-- Sixteen PASSes outstanding, all of them replies that wait (11 R182). -/
def sixteenPasses : State := garden.setHub { garden.hub with passWait := List.replicate 16 ⟨0xE2, [7, 1]⟩ }

theorem witness_EveryTakenRequestIsAnswered : (0x7F : Byte).toNat < 0x80 ∧ ready 0x7F [] garden = true ∧
    ready 0x17 [] sixteenPasses = true ∧ bodyLengthAllowed 0x17 ([] : List Byte).length = false := by decide +kernel

theorem witness_PortMakesItsOwnChecks :
    ready 0x01 [0] garden = true ∧ bodyLengthAllowed 0x01 1 = false ∧ ready 0x18 [0] garden = true ∧
    bodyLengthAllowed 0x18 1 = false ∧ ready 0 [] garden = true ∧ ready 0x19 [] garden = true ∧ ready 0x7F [] garden = true ∧
    canTake ⟨0x14, []⟩ (sixteenPasses.setHub { garden.hub with answer := some ⟨0x94, []⟩ }) = false ∧
    ready 0x17 [1] sixteenPasses = true ∧ ready 0x17 (List.replicate 7 0) sixteenPasses = true ∧
    16 ≤ passesQueued sixteenPasses + sixteenPasses.hub.passWait.length := by decide +kernel

/-- The bytes of the garden's first node record at another address. -/
def movedNode : List Byte := { (gardenNode .valveDecoder 11).active with outputs := 1 }.bytes

/-- A pending copy of a node entry, and the same SWAP_DUE. -/
def pendingGarden (due : Bool) : State :=
  { garden with nodes := garden.nodes.set 0 { garden.nodes[(0 : Fin 48)] with
      pending := some { (gardenNode .valveDecoder 11).active with outputs := 1 }, due := due } }

theorem witness_LoadIsJudgedInOrder : tableSize 9 = none ∧ tableSize 0 = some 48 ∧ tableSize 8 = some 5 ∧
    ready 0x01 (9 :: 0 :: []) garden = true ∧ ready 0x01 (0 :: 48 :: movedNode) garden = true ∧
    ready 0x01 (0 :: 0 :: movedNode) garden = true ∧ movedNode.length = recordLength (.node 0) ∧
    slotDue (pendingGarden true) (.node 0) = true ∧ canTake ⟨0x01, 0 :: 0 :: movedNode⟩ (pendingGarden true) = true ∧
    ([] : List Byte).length ≠ recordLength (.lock 4) := by decide +kernel

theorem witness_LoadIsJudgedInOrder_ranges : RecordInRange (.node 0) movedNode ∧
    ¬ RecordInRange (.node 0) (5 :: movedNode.tail) ∧ RecordInRange (.poll 0) [2, 0, 47, 9, 9] ∧
    ¬ RecordInRange (.poll 0) [2, 0, 48, 9, 9] ∧ RecordInRange (.lock 3) [1, 0, 0, 1, 0, 1, 0] ∧
    ¬ RecordInRange (.lock 3) [1, 0, 0, 1, 0, 2, 0] := by
  have three : ((3 : Fin 5) = 1) = False ∧ ((3 : Fin 5) = 2) = False := by decide
  refine ⟨?_, ?_, ?_, ?_, ?_, ?_⟩ <;> simp only [RecordInRange, Between, three, false_implies, true_and] <;> decide +kernel

/-- The garden with a weather record pending. -/
def pendingWeather : State := { garden with weatherRec := { garden.weatherRec with pending := some WeatherRec.reset } }

/-- A pending copy for one entry of each table: as it stands, or a little moved. -/
def stage : Slot → State → State
  | .node n, s => { s with nodes := s.nodes.set n { s.nodes[n] with pending := some { s.nodes[n].active with address := 77 } } }
  | .poll i, s => { s with polls := s.polls.set i { s.polls[i] with pending := some { nodes := [0, 2] } } }
  | .valve v, s => { s with valves := s.valves.set v { s.valves[v] with pending := some { s.valves[v].active with flow := 60 } } }
  | .bed b, s => { s with beds := s.beds.set b { s.beds[b] with pending := some { s.beds[b].active with area := 90 } } }
  | .supply, s => { s with supplyRec := { s.supplyRec with pending := some SupplyRec.reset } }
  | .line, s => { s with lineRec := { s.lineRec with pending := some LineRec.reset } }
  | .weather, s => { s with weatherRec := { s.weatherRec with pending := some WeatherRec.reset } }
  | .drying, s => { s with drying := { s.drying with pending := some DryingRec.reset } }
  | .lock i, s => { s with lockRecs := s.lockRecs.set i { s.lockRecs[i] with pending := some (LockRec.reset 20 10) } }

/-- Several of them. -/
def staged (s : State) (xs : List Slot) : State := xs.foldr stage s

/-- The garden with a poll entry pending that names an unused node. -/
def pendingPoll : State :=
  { garden with polls := garden.polls.set 0 { garden.polls[(0 : Fin 32)] with pending := some { nodes := [47] } } }

theorem witness_UpdateIsJudgedInOrder : namedSlots 9 = none ∧ namedSlots 0xFF = some allSlots ∧
    ready 0x03 [0xFF] garden = true ∧ ready 0x03 [0xFF] (pendingGarden false) = true ∧
    slotDue (pendingGarden true) (.node 0) = true ∧
    firstFailure (allSlots.filter (slotPending pendingPoll)) pendingPoll = some (.poll 0) ∧
    ready 0x03 [0xFF] pendingPoll = true ∧ allSlots.filter (slotPending garden) = [] ∧
    allSlots.filter (slotPending { garden with supplyRec := { garden.supplyRec with pending := some SupplyRec.reset } }) =
      [.supply] ∧
    slotReady { garden with supplyRec := { garden.supplyRec with pending := some SupplyRec.reset } } .supply = false ∧
    allSlots.filter (slotPending pendingWeather) = [.weather] ∧ ready 0x03 [0xFF] pendingWeather = true ∧
    crossChecks pendingWeather = true ∧ slotReady pendingWeather .weather = true ∧
    allSlots.filter (slotPending (staged (gardenIn .stopped) [.drying, .weather, .node 0])) =
      [.node 0, .weather, .drying] ∧
    ready 0x03 [0xFF] (staged (gardenIn .stopped) [.drying, .weather, .node 0]) = true ∧
    firstFailure [.node 0, .weather, .drying] (staged (gardenIn .stopped) [.drying, .weather, .node 0]) = none := by
  decide +kernel

theorem witness_DiscardClearsPendingCopies : namedSlots 9 = none ∧ (namedSlots 0).isSome = true ∧
    ready 0x04 [0] (pendingGarden false) = true ∧ canTake ⟨0x04, [0]⟩ (pendingGarden true) = true ∧
    (pendingGarden true).mv = mvWanted (pendingGarden true) := by decide +kernel

theorem witness_RecordsReadBackAsLoaded :
    (NodeRec.parse movedNode).isSome = true ∧ (PollRec.parse [2, 0, 47, 9, 9]).isSome = true ∧
    (ValveRec.parse (gardenValve 1 1000).active.bytes).isSome = true ∧
    (BedRec.parse (gardenBed 31 47).active.bytes).isSome = true ∧ (SupplyRec.parse SupplyRec.reset.bytes).isSome = true ∧
    (LineRec.parse LineRec.reset.bytes).isSome = true ∧ (WeatherRec.parse WeatherRec.reset.bytes).isSome = true ∧
    (DryingRec.parse DryingRec.reset.bytes).isSome = true ∧ (LockRec.parse 2 (LockRec.reset 65136 100).bytes).isSome = true ∧
    [movedNode.length, (gardenValve 1 1000).active.bytes.length, (gardenBed 31 47).active.bytes.length,
      SupplyRec.reset.bytes.length, DryingRec.reset.bytes.length, (LockRec.reset 0 0).bytes.length] =
      [10, 5, 32, 12, 32, 7] := by decide +kernel

theorem witness_sequencer_requests :
    ([.stopped, .running, .step, .stopping, .halted, .lineOff, .lockedOut] : List SeqState).all (fun q =>
      ready 0x05 [] (gardenIn q) && ready 0x06 [] (gardenIn q) && ready 0x07 [] (gardenIn q) &&
      ready 0x08 [] (gardenIn q)) = true := by decide +kernel

theorem witness_StepRunsOneCycle : calm (gardenIn .step) = true ∧ (gardenIn .step).seq.phase ≠ .noCycle ∧
    (gardenIn .stopped).lcq.clearOwed = false ∧
    (gardenIn .step).seq.tx = .idle := by decide +kernel

/-- The garden under too much current, with these faults listed. -/
def shorted (faults : List Nat) : State :=
  { garden with mon := { faults := faults, backoff := none, measureSince := some 1299, swapEnded := none, sensed := 600 } }

theorem witness_OvercurrentCutsLinePower : (shorted []).lpwr = true ∧ (shorted []).mon.measureSince.isSome = true ∧
    calm (shorted []) = true ∧ calm (shorted [701, 702]) = true ∧ (1300 : Nat) - 701 < 600 ∧ ¬ (1300 : Nat) - 700 < 600 := by
  decide +kernel

/-- 10 R174, fourth row: the line settings swap at the mark to a trip level of 15, 750 mA, and the trip at 600 mA follows; a
second later nothing is left of it. -/
theorem test_trip_after_the_swap :
    let s := shorted []
    let line : Entry LineRec := { active := LineRec.reset, pending := some { LineRec.reset with trip := 15 }, due := true }
    let t := after .cycleMark { s with lineRec := line }
    t.lineRec.active.trip = 15 ∧ t.mon.measureSince = none ∧ (after .overcurrent t).seq.state = .lineOff ∧
    (after .overcurrent (tick t)).seq.state = .running := by decide +kernel

theorem witness_PowerReturnsAndCurrentIsMeasured :
    ([.running, .stopped, .halted] : List ResumeTarget).all (fun r =>
      calm { (gardenIn .lineOff) with
        lpwr := false, seq := { (gardenIn .lineOff).seq with resume := r }
        mon := { garden.mon with backoff := some 1300 } }) = true ∧ (1300 : Nat) ≤ garden.partTime := by decide +kernel

theorem witness_BeaconSilenceClosesTheField :
    ([.stopped, .halted, .lineOff, .lockedOut] : List SeqState).all (fun q =>
      calm { (gardenIn q) with beacon := some 1300 } && !(gardenIn q).seq.state.marking) = true := by decide +kernel

theorem witness_CycleMarkOpensTheNextCycle :
    ([1022, 1023, 63] : List Nat).all (fun n => calm (garden.setSeq { garden.seq with cycle := n, rollCount := 1 })) = true ∧
    calm (gardenIn .stopping) = true ∧
    calm ((gardenIn .step).setSeq { (gardenIn .step).seq with phase := .noCycle, tx := .mark }) = true ∧
    garden.seq.tx = .idle ∧ garden.seq.rollCount = 0 ∧
    calm (garden.setNodeLive 2 { heardNode with presence := .missing }) = true := by decide +kernel

/-- The probe's node entry SWAP_DUE to another address, in a garden that marks. -/
def dueGarden : State :=
  let s := stage (.node 1) garden
  { s with nodes := s.nodes.set 1 { s.nodes[(1 : Fin 48)] with due := true } }

/-- 10 R171: the entry waits for the mark, and swaps at it. -/
theorem test_mark_swaps : let t := after .cycleMark dueGarden
    slotReady dueGarden (.node 1) = false ∧ slotDue t (.node 1) = false ∧ t.nodes[(1 : Fin 48)].active.address = 77 ∧
    t.seq.phase = .marked ∧ t.notice.isSet .updateDone = true := by decide +kernel

theorem witness_CycleMarkOpensTheNextCycle_due : allSlots.filter (slotDue dueGarden) = [.node 1] ∧
    dueGarden.work = garden.work ∧ dueGarden.mv = mvWanted dueGarden ∧ dueGarden.seq.state = .running ∧
    dueGarden.seq.tx = .idle := by decide +kernel

theorem witness_PollPartSendsItsPolls :
    ([.running, .step, .stopping] : List SeqState).all (fun q =>
      calm ((gardenIn q).setSeq { (gardenIn q).seq with phase := .marked, tx := .mark }) &&
      calm ((gardenIn q).setSeq { (gardenIn q).seq with phase := .polling, toPoll := [1, 2] }) &&
      (gardenIn q).seq.state.marking) = true ∧
    rollCallChoice (garden.setNodeLive 2 { heardNode with presence := .missing }) = [2] ∧ rollCallChoice garden = [] := by
  decide +kernel

/-- The garden's command part with so many bit times left. -/
def slotGarden (left : Nat) (closes : List (Fin 32)) (fifo : List FifoEntry) : State :=
  { garden with
    seq := { garden.seq with cycleLength := 2000, nextSlot := 2000 - left }
    lcq := { garden.lcq with
      closes := closes.foldl (fun (c : Vector (Option Marks) 32) (v : Fin 32) => c.set v (some .fresh)) garden.lcq.closes
      fifo := fifo } }

theorem witness_CommandSlotArbiterPicksTheOccupant :
    calm (slotGarden 200 [3, 5] []) = true ∧ (slotGarden 200 [3, 5] []).lcq.closes[(3 : Fin 32)] = some .fresh ∧
    calm (slotGarden 360 [] [.pass 7 [] false]) = true ∧ calm (slotGarden 359 [] [.pass 7 [] false]) = true ∧
    calm (slotGarden 200 [] [.openValve 1 .tried, .openValve 3 .fresh]) = true ∧
    calm ((slotGarden 200 [] []).setSeq { (slotGarden 200 [] []).seq with phase := .polling }) = true ∧
    (slotGarden 200 [] []).seq.cycleLength - (slotGarden 200 [] []).seq.nextSlot = 200 := by decide +kernel

/-- The garden polling a node of this presence and miss count. -/
def polling (n : Fin 48) (presence : Presence) (misses : Nat) : State :=
  (garden.setSeq { garden.seq with tx := .poll n (byteOf garden.nodes[n].active.address) }).setNodeLive n
    { heardNode with presence := presence, misses := misses }

/-- A frame whose first start bit falls at `start`, its bytes without idle time between them. -/
def replyAt (start : Nat) (bytes : List Byte) : Reply :=
  .frame ((lineFrame bytes).zipIdx.map fun x => (if x.2 = 0 then start else 0, x.1))

/-- A reply at the start of a poll's window. -/
def reply (bytes : List Byte) : Reply := replyAt 30 bytes

theorem witness_PollOutcomeMovesPresence :
    ([(.present, 0), (.present, 2), (.missing, 3), (.absent, 3), (.absent, 0)] : List (Presence × Nat)).all (fun x =>
      calm (polling 1 x.1 x.2)) = true ∧ (polling 1 .present 1).seq.tx = .poll 1 20 ∧
    acceptReport 20 (singleSlot 30 16) (reply [0x52, 20, 0xD0, 7]) = some (.soilProbe, [0xD0, 7]) ∧
    acceptReport 20 (singleSlot 30 16) .silent = none ∧ (polling 1 .present 1).lcq.clearOwed = false := by decide +kernel

/-- 10 R171, 02 R25: a stopped garden whose last poll, of the probe at address 20, runs on. -/
def lastPoll : State := (polling 1 .present 0).setSeq { (polling 1 .present 0).seq with state := .stopped, phase := .noCycle }

/-- 10 R171, 03 R47: the probe's entry swaps to address 77 at once, inside that poll's slot. -/
theorem test_swap_inside_a_poll : let t := after (.update [0]) (stage (.node 1) lastPoll)
    slotReady lastPoll (.node 1) = true ∧ t.nodes[(1 : Fin 48)].active.address = 77 ∧ t.seq.tx = .poll 1 20 ∧
    t.nodeLive[(1 : Fin 48)].presence = .absent := by decide +kernel

/-- The poll's entry after a swap: at another address, or unused. -/
def swappedPoll (unused : Bool) : State :=
  { lastPoll with nodes := lastPoll.nodes.set 1 (if unused then Entry.atReset NodeRec.reset else
      Entry.atReset { lastPoll.nodes[(1 : Fin 48)].active with address := 77 }) }

/-- 03 R36: an unused entry is never matched to a reply. -/
theorem test_unused_takes_no_outcome : let t := after (.pollOutcome .silent) (swappedPoll true)
    t.nodeLive = (swappedPoll true).nodeLive ∧ t.seq.tx = .idle := by decide +kernel

theorem witness_PollOutcomeMovesPresence_swapped :
    ([swappedPoll true, swappedPoll false]).all calm = true ∧ (swappedPoll false).seq.tx = .poll 1 20 ∧
    byteOf (swappedPoll false).nodes[(1 : Fin 48)].active.address ≠ 20 ∧
    (swappedPoll true).nodes[(1 : Fin 48)].active.used = false ∧
    (swappedPoll false).nodes[(1 : Fin 48)].active.kind = .soilProbe ∧ (swappedPoll false).lcq.clearOwed = false := by
  decide +kernel

/-- A poll of the probe that forwards under this policy, with a last value of 2000 and so many reports held. -/
def forwarding (policy delta held : Nat) : State :=
  let s := polling 1 .present 0
  { (s.setNodeLive 1 { heardNode with forwarded := some 2000 }).setHub
      { s.hub with reports := List.replicate held ⟨0xE1, []⟩ } with
    nodes := s.nodes.set 1 (Entry.atReset { s.nodes[(1 : Fin 48)].active with forward := policy, delta := delta }) }

theorem witness_PollOutcomeMovesPresence_reports :
    ([forwarding 0 1 0, forwarding 1 1 7, forwarding 1 1 8, forwarding 2 10 0, forwarding 2 11 0]).all calm = true ∧
    acceptReport 20 (singleSlot 30 16) (reply [0x52, 20, 0xDA, 7]) = some (.soilProbe, put2 2010) := by decide +kernel

/-- The garden with a SET_OUTPUT for valve 1 in flight. -/
def commanding (q : SeqState) (k : CommandKind) (detached : Bool) (l : ValveLive) : State :=
  (slotGarden 200 (if k = .closeValve then [1] else []) (if k = .openValve then [.openValve 1 .fresh] else [])
    |>.setSeq { garden.seq with state := q, tx := .command 1 k 10 2 detached }).setValveLive 1 l

/-- A live valve in a state with so many attempts made. -/
def liveValve (x : ValveState) (attempts : Nat) : ValveLive :=
  { state := x, mode := .auto, owner := none, assumedOpen := false, attempts := attempts, latched := false }

theorem witness_CommandOutcomeMovesTheValve :
    calm (commanding .running .openValve false (liveValve .opening 0)) = true ∧
    calm (commanding .step .closeValve false (liveValve .closing 1)) = true ∧
    calm (commanding .running .closeValve false (liveValve .fault 2)) = true ∧
    calm (commanding .stopping .openValve true (liveValve .opening 2)) = true ∧
    (commanding .step .closeValve false (liveValve .closing 1)).lcq.clearOwed = false ∧
    acceptAck 10 2 .openValve (singleSlot 40 16) (replyAt 40 [0x60, 10, 2]) = true ∧
    acceptAck 10 2 .closeValve (singleSlot 40 16) (replyAt 40 [0x60, 10, 1]) = true ∧
    acceptAck 10 2 .closeValve (singleSlot 40 16) (replyAt 56 [0x60, 10, 1]) = false := by decide +kernel

/-- What marks stop leaves owed while a transaction runs on: the clearing, or the open's withdrawal. -/
def owing (clear withdraw : Bool) (s : State) : State :=
  s.setQueue { s.lcq with clearOwed := clear, withdrawOwed := withdraw }

theorem witness_CommandOutcomeMovesTheValve_owed :
    calm (owing true false (commanding .stopped .openValve false (liveValve .opening 0))) = true ∧
    calm (owing true false (commanding .halted .closeValve true (liveValve .closing 0))) = true ∧
    calm (owing false true (commanding .running .openValve false (liveValve .opening 1))) = true ∧
    ((commanding .running .openValve false (liveValve .opening 1)).lcq.openMarks 1).isSome = true ∧
    SeqState.stopped.marking = false ∧ SeqState.halted.marking = false := by decide +kernel

/-- The garden with a PASS in flight among so many. -/
def passing (n failures : Nat) : State :=
  (slotGarden 400 [] (List.replicate n (.pass 9 [] false) ++ [.pass 7 [1] true])).setSeq
    { garden.seq with tx := .pass 7, ltx := passFrame 7 [1], echoFailures := failures }

theorem witness_PassOutcomeIsReplied : calm (passing 0 0) = true ∧ calm (passing 15 0) = true ∧
    (passing 15 0).lcq.clearOwed = false ∧ (passing 14 0).lcq.fifo.length < 16 ∧
    acceptPassAnswer 7 (doubleSlot 40 16) (replyAt 40 [0x71, 7, 5]) = some [5] ∧
    calm (owing true false { (passing 2 0).setSeq { (passing 2 0).seq with state := .stopped } with runs := [] }) = true := by
  decide +kernel

theorem witness_EchoMismatchIsCountedAndHalts : calm (passing 0 1) = true ∧ calm (passing 0 2) = true ∧
    (passing 0 1).seq.tx = .pass 7 ∧ (polling 1 .present 0).lcq.withdrawOwed = false ∧ (polling 1 .present 0).seq.tx ≠ .idle ∧ (passing 0 2).seq.state.marking = true := by
  decide +kernel

/-- The garden with another effective lock, from a HUB source of that mode. -/
def locked (m : LockMode) : State :=
  { garden with
    lockRecs := garden.lockRecs.set 4
      (Entry.atReset { LockRec.reset 0 0 with enabled := true, mode := m, timing := .pulseEnd })
    locks := { garden.locks with cond := { garden.locks.cond with hub := true }, effective := some (m, .pulseEnd) } }

theorem witness_PulseExpiryEndsThePulse : findRun garden 0 = some wateringRun ∧ valveOf garden 0 = some 0 ∧
    garden.valveLive[(0 : Fin 32)].state = .opened ∧ garden.bedLive[(0 : Fin 24)].isSome = true ∧ calm garden = true ∧
    garden.seq.state ≠ .stopping ∧ calm (locked .pause) = true ∧ calm (locked .cancel) = true ∧
    calm (garden.setRuns [{ wateringRun with planned := 600 }]) = true ∧
    calm (garden.setRuns [{ wateringRun with stopAtPulseEnd := true }]) = true ∧ commandWaits garden 0 = false := by
  decide +kernel

/-- Bed 0's run soaking to 1300. -/
def soakingRun : Run := { wateringRun with state := .soak, pulseStart := none }

theorem witness_SoakExpiryQueuesOrHolds : findRun (garden.setRuns [soakingRun]) 0 = some soakingRun ∧
    calm (garden.setRuns [soakingRun]) = true ∧ calm ((locked .pause).setRuns [soakingRun]) = true ∧
    calm ((gardenIn .stopping).setRuns [soakingRun]) = true ∧
    calm ((garden.setRuns [soakingRun]).setValveLive 0 (liveValve .fault 3)) = true := by decide +kernel

theorem witness_RunStartIsJudgedInOrder :
    ([[24, 0, 0], [0, 33, 28], [1, 32, 28], [2, 1, 0], [0, 1, 0], [1, 0, 0]] : List (List Byte)).all (fun body =>
      ready 0x0B body garden) = true ∧ ready 0x0B [1, 1, 0] (locked .cancel) = true ∧
    garden.beds[(2 : Fin 24)].active.used = false ∧ valveOf garden 1 = some 1 ∧
    ready 0x0B [1, 1, 0] (garden.setValveLive 1 { liveValve .closed 0 with mode := .forcedClosed }) = true ∧
    ready 0x0B [1, 0, 0] (garden.setBedLive 1 (some { balance 0 0 with lastAccrual := 1300 })) = true := by decide +kernel

theorem witness_RunsAreStoppedAndAdjusted :
    ready 0x0C [24] garden = true ∧ ready 0x0C [1] garden = true ∧ ready 0x0C [0] garden = true ∧
    ready 0x0D [] garden = true ∧ ready 0x0E [24, 0, 0, 60, 0] garden = true ∧ ready 0x0E [0, 59, 0, 60, 0] garden = true ∧
    ready 0x0E [0, 16, 14, 32, 28] garden = true ∧ ready 0x0E [1, 0, 0, 60, 0] garden = true ∧ findRun garden 1 = none := by
  decide +kernel

/-- Bed 0's grant whose open waits in the FIFO with these marks, or is gone. -/
def openingGarden (open_ : Option Marks) : State :=
  ((garden.setValveLive 0 { liveValve .opening 0 with owner := some 0 }).setRuns
    [{ wateringRun with delivered := 0, pulseStart := none, expiry := none }]).setQueue
      { garden.lcq with fifo := open_.toList.map (FifoEntry.openValve 0) }

/-- The tables pass their checks and every run's bed is used, as one check. -/
def bedded (s : State) : Bool :=
  crossChecks s && s.runs.all fun r => s.beds[r.bed].active.used && (valveOf s r.bed).isSome

theorem bedded_sound {s : State} (h : bedded s = true) : TableLaw s ∧ RunBedLaw s := by
  simp only [bedded, Bool.and_eq_true, List.all_eq_true] at h
  exact ⟨h.1, fun r hr => h.2 r hr⟩

theorem witness_RunsAreStoppedAndAdjusted_opening :
    ([none, some Marks.fresh, some { attempted := true, sent := true }] : List (Option Marks)).all (fun m =>
      ready 0x0C [0] (openingGarden m) && bedded (openingGarden m) && (openingGarden m).lcq.openMarks 0 == m &&
      !flying (openingGarden m) 0 .openValve) = true ∧
    ready 0x0C [0] (gardenIn .stopping) = true := by decide +kernel

/-- The conditions of a demand check, as one check. -/
theorem asks_sound {s : State} {b : Fin 24} {l : BedLive} (h : s.bedLive[b] = some l) (d : (demandValve s b).isSome = true) :
    Asks s b l := by
  unfold demandValve at d
  split at d
  · cases d
  · rename_i v hv
    split at d
    · rename_i c
      simp only [Bool.and_eq_true, Bool.not_eq_true', beq_iff_eq, bne_iff_ne, BedRec.isAuto, windowNow, BedRec.windowOpen,
        cancelInForce, findRun, Option.isNone_iff_eq_none, List.find?_eq_none, deficitOf, h, decide_eq_true_eq] at c
      obtain ⟨⟨⟨⟨⟨⟨⟨⟨hu, hm⟩, ha⟩, hf⟩, hc, hw⟩, hk⟩, hr⟩, -⟩, hd⟩ := c
      refine ⟨hu, hm, ⟨v, ?_, ha, hf⟩, hc, ?_, ?_, fun r hr' => by simpa using hr r hr', hd⟩
      · simp only [valveOf, valveRef] at hv
        split at hv
        · simp only [Option.some.injEq] at hv; rw [← hv]
        · cases hv
      · unfold WindowOpen
        split at hw
        · exact .inl ‹_›
        · split at hw
          · simp only [Bool.and_eq_true, decide_eq_true_eq] at hw; exact .inr (.inl ⟨‹_›, hw.1, hw.2⟩)
          · simp only [Bool.or_eq_true, decide_eq_true_eq] at hw; exact .inr (.inr ⟨by omega, hw⟩)
      · intro i hi
        simp [hi] at hk
    · cases d

theorem witness_DemandCheckAsksForARun : Asks garden 1 (balance 0 200) ∧ garden.bedLive[(1 : Fin 24)] = some (balance 0 200) ∧
    garden.bedLive[(2 : Fin 24)] = none ∧ ¬ Asks garden 0 (balance 398 106) :=
  ⟨asks_sound rfl (by decide +kernel), rfl, rfl,
    fun h => h.2.2.2.2.2.2.1 wateringRun (List.mem_singleton.2 rfl) rfl⟩

/-- 05 R82, R83: bed 1's evaluation accrues 21 minutes at 48 and asks for its run, which is granted. -/
theorem test_evaluation_asks : let t := after (.evaluationExpiry 1) garden
    (t.runs.map fun r => (r.bed, r.origin, r.state, r.volume)) =
      [(0, .auto, .on, 1448), (1, .auto, .on, 1608)] ∧ deficitOf t 1 = 201 := by decide +kernel

/-- Bed 1 queued behind bed 0's pulse, passed over so often, and bed 2 behind it on a small valve of a second decoder; under
this flow cap. -/
def queuedGarden (skips cap : Nat) : State :=
  { garden.setRuns [wateringRun, { newRun garden 1 .auto 60 90 with skips := skips }, newRun garden 2 .auto 60 60] with
    nodes := garden.nodes.set 3 (gardenNode .valveDecoder 40)
    nodeLive := garden.nodeLive.set 3 heardNode
    valves := garden.valves.set 2 (Entry.atReset { used := true, decoder := 3, output := 1, flow := 60 })
    beds := garden.beds.set 2 (gardenBed 2 255)
    bedLive := garden.bedLive.set 2 (some (balance 0 200))
    supplyRec := Entry.atReset { garden.supplyRec.active with flowCap := cap } }

theorem witness_GrantPassKeepsBudget :
    ([queuedGarden 0 210, queuedGarden 7 209, queuedGarden 8 209] : List State).all (fun s => calm s && bedded s) = true ∧
    (queuedGarden 0 210).seq.state = .running ∧ (queuedGarden 0 210).locks.effective = none ∧
    valveOf garden 1 = some 1 ∧ garden.valveLive[(1 : Fin 32)].state = .closed ∧ decoderPresence garden 1 = .present ∧
    slotsInUse garden = 1 ∧ flowInUse garden + flowOf garden 1 = 210 ∧
    [queuedGarden 0 210, queuedGarden 7 209, queuedGarden 8 209].map
      (fun s => (grantPass s).runs.map fun r => (r.state, r.skips)) =
      [[(.on, 0), (.on, 0), (.queued, 0)], [(.on, 0), (.queued, 8), (.on, 0)], [(.on, 0), (.queued, 8), (.queued, 0)]] := by
  decide +kernel

theorem witness_EvaluationAndStalenessAccrueBeds :
    garden.bedLive[(0 : Fin 24)] = some (balance 398 106) ∧ (balance 398 106).evaluateAt ≤ garden.partTime ∧
    calm garden = true ∧ calm { garden with partTime := 21600 } = true ∧ garden.weather.reference = some 0 ∧
    calm { garden with partTime := 21600, weather := { garden.weather with status := .waiting } } = true := by decide +kernel

theorem witness_ProbeReadingMovesEstimateAndDeficit :
    ([950, 949, 3650, 3651, 2000] : List Nat).all (fun n =>
      acceptReport 20 (singleSlot 30 16) (reply (0x52 :: 20 :: put2 n)) == some (.soilProbe, put2 n)) = true ∧
    (polling 1 .present 0).probes[(1 : Fin 48)] = some { state := .ok, rejects := 0, lastCount := none, reference := 0 } ∧
    (polling 1 .present 0).nodes[(1 : Fin 48)].active.kind = .soilProbe ∧ calm (polling 1 .missing 3) = true ∧
    garden.beds[(0 : Fin 24)].active.names 1 = true ∧ garden.beds[(1 : Fin 24)].active.names 1 = false := by decide +kernel

theorem witness_WeatherReportIsTaken :
    acceptReport 30 (singleSlot 30 16) (reply [0x53, 30, 0x13, 1, 40, 0, 12, 0]) =
      some (.weather, [0x13, 1, 40, 0, 12, 0]) ∧
    (polling 2 .present 0).nodes[(2 : Fin 48)].active.kind = .weather ∧ calm (polling 2 .present 0) = true ∧
    calm (polling 2 .absent 0) = true ∧ (polling 2 .present 0).weather.baseline = some 5 := by decide +kernel

/-- Valves are owned by their beds' ON runs alone, and while marks are sent no beacon timer runs and no clearing is owed; as
one check. -/
def owned (s : State) : Bool :=
  (List.finRange 32).all (fun v => match s.valveLive[v].owner with
    | none => true
    | some b => valveOf s b == some v && s.runs.any fun r => r.bed == b && r.state == .on) &&
  (!s.seq.state.marking || s.beacon.isNone && !s.lcq.clearOwed)

theorem owned_sound {s : State} (h : owned s = true) : SoleOwnerLaw s ∧ MarksLaw s := by
  simp only [owned, Bool.and_eq_true, List.all_eq_true, Bool.or_eq_true, Bool.not_eq_true'] at h
  refine ⟨fun v b hv => ?_, fun hm => ?_⟩
  · have := h.1 v (List.mem_finRange v)
    simp only [hv, Bool.and_eq_true, beq_iff_eq, List.any_eq_true] at this
    exact ⟨this.1, this.2⟩
  · rcases h.2 with h | h
    · rw [hm] at h; cases h
    · exact ⟨Option.isNone_iff_eq_none.mp h.1, h.2⟩

theorem witness_DecoderReportReconciles :
    acceptReport 10 (singleSlot 30 16) (reply [0x51, 10, 2]) = some (.valveDecoder, [2]) ∧
    ([.opened, .fault, .closing, .closed] : List ValveState).all (fun x =>
      calm ((polling 0 .present 0).setValveLive 1 (liveValve x 0)) &&
      owned ((polling 0 .present 0).setValveLive 1 (liveValve x 0))) = true ∧
    calm ((polling 0 .present 0).setValveLive 0 { liveValve .detached 0 with mode := .detached }) = true ∧
    (polling 0 .present 0).valves[(0 : Fin 32)].active.decoder = 0 ∧ (polling 0 .present 0).lcq.openMarks 1 = none ∧
    calm ((polling 0 .present 0).setValveLive 1 (liveValve .opening 0)) = true := by decide +kernel

/-- 07 R128, note: valve 0, OPEN for bed 0, is reported closed and valve 1, CLOSED, is reported open; the pass that the fault
triggers finds valve 1 CLOSING already and leaves bed 1's run QUEUED. -/
theorem test_report_judged_when_taken :
    let s := polling 0 .present 0
    let t := after (.pollOutcome (reply [0x51, 10, 2])) (s.setRuns (s.runs ++ [newRun s 1 .auto 60 90]))
    (t.valveLive[(0 : Fin 32)].state, t.valveLive[(1 : Fin 32)].state, t.valveLive[(1 : Fin 32)].latched) =
      (.fault, .closing, true) ∧ t.runs.map (·.state) = [.held, .queued] := by decide +kernel

theorem witness_DecoderReportReconciles_loss_and_return :
    ([.opening, .opened, .closing, .fault, .closed] : List ValveState).all (fun x =>
      calm ((polling 0 .present 2).setValveLive 1 (liveValve x 0)) &&
      owned ((polling 0 .present 2).setValveLive 1 (liveValve x 0))) = true ∧
    ([polling 0 .missing 3,
      { (polling 0 .missing 3).setSeq { (polling 0 .missing 3).seq with state := .step } with runs := [] }] : List State).all
      (fun s => [true, false].all fun x =>
        let t := (s.setValveLive 1 { liveValve .fault 0 with assumedOpen := x }).setValveLive 0 (liveValve .closed 0)
        calm t && owned t) = true ∧
    acceptReport 10 (singleSlot 30 16) .silent = none := by decide +kernel

theorem witness_ValveModeFollowsItsTables :
    ([[32, 0], [0, 4], [2, 0], [1, 0], [1, 1], [1, 2], [0, 3]] : List (List Byte)).all (fun body =>
      ready 0x11 body garden) = true ∧ garden.valves[(2 : Fin 32)].active.used = false ∧
    ready 0x11 [1, 1] (slotGarden 200 [] (List.replicate 16 (.pass 7 [] false))) = true ∧
    ready 0x11 [1, 2] ((slotGarden 200 [] [.openValve 1 .fresh]).setValveLive 1 (liveValve .opening 0)) = true ∧
    ready 0x11 [1, 0] (garden.setValveLive 1 (liveValve .fault 3)) = true ∧
    ready 0x11 [1, 0] (garden.setValveLive 1 { liveValve .closed 0 with mode := .forcedClosed }) = true := by decide +kernel

/-- IN_A a rain contact, low since 1298.4 s. -/
def contactGarden : State :=
  { garden with
    supplyRec := Entry.atReset { garden.supplyRec.active with actionA := .rainContact }
    monitor := { garden.monitor with inputA := InputLive.fresh .low 1298 400000 } }

theorem witness_LockCommandsMoveTheirCondition : ready 0x12 [] garden = true ∧ ready 0x13 [] (locked .pause) = true ∧
    calm (garden.setLocks { garden.locks with rainHold := some 1300 }) = true ∧ calm contactGarden = true ∧
    contactGarden.supplyRec.active.action .a = .rainContact ∧
    contactDue (advance 400000 contactGarden) .a = true ∧ contactDue (advance 399999 contactGarden) .a = false ∧
    (contactGarden.monitor.input .a).stable ≠ some (contactGarden.monitor.input .a).level := by decide +kernel

/-- IN_A a rain gauge, low since 1299.5 s and armed, its last tip at `last` µs; IN_B a flow input, high since the same moment
with its rise not yet judged, its last edge at `edge` µs; with this rain source and RAIN_HOLD threshold. -/
def tippingGarden (source : RainSource) (threshold : Nat) (last edge : Option Nat) : State :=
  { contactGarden with
    supplyRec := Entry.atReset { garden.supplyRec.active with actionA := .rainTips, actionB := .flow }
    weatherRec := Entry.atReset { garden.weatherRec.active with source := source }
    lockRecs := garden.lockRecs.set 1 (Entry.atReset (LockRec.reset threshold 120))
    monitor := { garden.monitor with
      inputA := { InputLive.fresh .low 1299 500000 with lastTip := last }
      inputB := { InputLive.fresh .high 1299 500000 with rising := true, lastEdge := edge }
      window := some { start := 1295, count := 7, calmStart := true, changed := false } } }

/-- 09 R155, R157: a tip reaches 20 ms at 1299.52 s, and counts 200 ms after the previous one, not sooner; an edge counts 1
ms after the previous one. -/
theorem witness_LocalInputsAreCounted :
    calm (tippingGarden .weather 1 none none) = true ∧ calm (tippingGarden .localTips 1 none none) = true ∧
    calm (tippingGarden .localTips 2 (some 1299320000) (some 1299499000)) = true ∧
    calm (tippingGarden .localTips 2 (some 1299320001) (some 1299499001)) = true ∧
    tipDue (tippingGarden .localTips 2 (some 1299320000) none) .a = true ∧
    tipDue (tippingGarden .localTips 2 (some 1299320001) none) .a = false ∧
    (tippingGarden .localTips 2 none none).supplyRec.active.action .b = .flow ∧
    [some 1299499000, some 1299499001].map (fun e =>
      (after (.flowEdge ⟨.b, 0⟩) (tippingGarden .weather 1 none e)).monitor.window.map (·.count)) = [some 8, some 7] ∧
    (tippingGarden .localTips 1 none none).lockRecs[(1 : Fin 5)].active.enabled = false := by decide +kernel

/-- 09 R155: a gauge found low at set-up has its 20 ms from the set-up, whatever the low lasted before. -/
theorem test_tip_after_set_up :
    let low := { garden with micros := 499000, monitor := { garden.monitor with inputA := InputLive.fresh .low 1200 0 } }
    let t := supplySwapped low.supplyRec.active { low.supplyRec.active with actionA := .rainTips }
      { low with supplyRec := Entry.atReset { low.supplyRec.active with actionA := .rainTips } }
    [505000, 518999, 519000].map (fun m => tipDue (advance m t) .a) = [false, false, true] := by decide +kernel

/-- The garden with a flow window that ends now. -/
def flowGarden (count high low leak : Nat) (settled : Bool) : State :=
  { garden with monitor := { garden.monitor with
      window := some { start := 1290, count := count, calmStart := settled, changed := false }
      highCount := high, lowCount := low, leakCount := leak } }

theorem witness_FlowWindowIsJudged :
    ([flowGarden 900 0 0 0 false, flowGarden 900 0 0 0 true, flowGarden 1200 1 0 0 true, flowGarden 0 0 2 0 true]).all
      calm = true ∧ expectedFlow garden = 120 ∧
    highFlow garden.supplyRec.active { measured := 157, expected := 120, settled := true } = true ∧
    highFlow garden.supplyRec.active { measured := 156, expected := 120, settled := true } = false ∧
    lowFlow garden.supplyRec.active { measured := 59, expected := 120, settled := true } = true ∧
    leaks ((flowGarden 203 0 0 2 true).setValveLive 0 (liveValve .closed 0))
      { measured := 27, expected := 0, settled := true } = true := by decide +kernel

/-- The garden as second 59 of this minute ends. -/
def turning (minute : Nat) : State :=
  { garden with clock := { valid := true, minute := minute, second := 59, turnDue := true } }

/-- 06 R115, R119: the transition alone, and behind a TIME_SET to minute 4500, where the old clock's is not made. -/
theorem test_time_set_first :
    ((after .minuteTransition (turning 1319)).clock.minute, (after .minuteTransition (turning 1319)).clock.second) = (1320, 0) ∧
    (after .minuteTransition (after (.timeSet [148, 17, 30]) (turning 1319))).clock =
      { valid := true, minute := 4500, second := 30, turnDue := false } := by decide +kernel

theorem witness_ClockMovesAndWindowsClose : calm (turning 10079) = true ∧ calm (turning 1319) = true ∧
    (turning 1319).clock.turnDue = true ∧ garden.clock.turnDue = false ∧ garden.clock.valid = true ∧
    calm (turning 1079) = true ∧ garden.beds[(1 : Fin 24)].active.windowOpen 1079 = false ∧
    garden.beds[(1 : Fin 24)].active.windowOpen 1080 = true ∧ (demandValve (nextMinute (turning 1079)) 1).isSome = true ∧
    ready 0x09 [96, 39, 0] garden = true ∧ ready 0x09 [95, 39, 59] garden = true ∧ ready 0x09 [0, 0, 60] garden = true ∧
    garden.beds[(0 : Fin 24)].active.windowOpen 1319 = true ∧ garden.beds[(0 : Fin 24)].active.windowOpen 1320 = false := by
  decide +kernel

/-- 06 R117: bed 1's window opens at 18:00 and its demand check makes its run; bed 0 has a run already. -/
theorem test_window_opens : (after .minuteTransition (turning 1079)).runs.map (fun r => (r.bed, r.origin)) =
    [(0, .auto), (1, .auto)] := by decide +kernel

theorem witness_ReadingRequestsAnswerFromTheState :
    ([[9, 0, 0], [0, 48, 0], [0, 0, 0], [0, 0, 1], [0, 0, 2]] : List (List Byte)).all (fun body => ready 0x02 body garden &&
      ready 0x02 body (pendingGarden false)) = true ∧
    ready 0x0A [] garden = true ∧ ready 0x0F [24] garden = true ∧ ready 0x0F [23] garden = true ∧ ready 0x14 [] garden = true ∧
    ready 0x10 [24] garden = true ∧ ready 0x10 [2] garden = true ∧ ready 0x10 [1] garden = true := by decide +kernel

theorem witness_AnswerRecordsAreLaidOut : headDue (pendingGarden true) = some (.node 0) ∧ headDue garden = none ∧
    garden.partTime < 4294967296 ∧ (locked .pause).locks.effective = some (.pause, .pulseEnd) ∧
    garden.hub.reports.length ≤ 8 := by decide +kernel

theorem witness_flags_and_mask : ready 0x16 [0, 0, 2, 0] garden = true ∧ ready 0x16 [255, 255, 1, 0] garden = true ∧
    ready 0x15 [0, 0, 2, 0] garden = true ∧ ready 0x15 [255, 254, 1, 0] garden = true ∧
    ready 0x15 [0, 1, 0, 0] { garden with
      runs := []
      locks := { garden.locks with
        cond := { garden.locks.cond with supply := true }, effective := some (.cancel, .immediate) } } = true := by
  decide +kernel

theorem witness_PassJoinsTheFifo : ready 0x17 [0] garden = true ∧ ready 0x17 [251] garden = true ∧
    ready 0x17 [1, 1, 2, 3, 4, 5, 6] garden = true ∧ ready 0x17 [250] (gardenIn .stopped) = true ∧
    ready 0x17 [250] (slotGarden 200 [] (List.replicate 16 (.openValve 1 .fresh))) = true ∧
    passesQueued garden + garden.hub.passWait.length < 16 := by decide +kernel

theorem witness_EachBlockIsMovedByItsOwnCommands : calm garden = true ∧ (exec .cycleMark garden matches .next _) ∧
    garden.hub.resetOwed = false := by decide +kernel

/-- The garden stopped with its field at rest, and one entry pending. -/
def swapGarden (x : Slot) : State := stage x ((gardenIn .stopped).setValveLive 0 (liveValve .closed 0))

theorem witness_SwapsActAsTheirTablesSay :
    ([.node 0, .node 1, .node 2, .poll 0, .valve 1, .bed 1, .supply, .line, .weather, .drying, .lock 2, .lock 3] :
      List Slot).all (fun x =>
        let s := swapGarden x
        ready 0x03 [0xFF] s && crossChecks s && decide (allSlots.filter (slotPending s) = [x]) && slotReady s x &&
        (firstFailure [x] s).isNone) = true ∧ namedSlots (0xFF : Byte).toNat = some allSlots := by decide +kernel

/-- The laws of watering hold in the garden, where a run is ON. -/
theorem witness_StepKeepsRunsOnOnlyInRunning : WateringLaw garden := by
  have due : ∀ x, slotDue garden x = false := (calm_sound (by decide +kernel : calm garden = true)).2.1
  have runs : garden.runs = [wateringRun] := rfl
  have fifo : garden.lcq.fifo = [] := rfl
  have closes : garden.lcq.closes = Vector.replicate 32 none := rfl
  have staged : allSlots.filter (slotDue garden) = [] := by simp [due]
  refine ⟨⟨?_, ?_, by unfold SlotLaw; decide +kernel, by unfold FlowLaw; decide +kernel⟩,
    by unfold QueueLaw; decide +kernel, ?_, (bedded_sound (by decide +kernel)).2, ?_, ?_, ?_, ?_,
    by unfold TableLaw; decide +kernel, ?_, by rw [staged]; rfl⟩
  · intro r hr _
    rw [runs, List.mem_singleton] at hr
    subst hr
    exact ⟨0, by decide +kernel⟩
  · have h : ∀ v : Fin 32, garden.valveLive[v].owner.isSome = true → v = 0 := by decide +kernel
    intro v b hv
    obtain rfl := h v (by rw [hv]; rfl)
    obtain rfl : b = 0 := by simpa [garden] using hv.symm
    exact ⟨by decide +kernel, wateringRun, by simp [runs], rfl, rfl⟩
  · intro r _ _
    exact ⟨rfl, fun m h => by cases h⟩
  · intro v; simp [fifo, closes]
  · intro v; simp [LineQueue.openMarks, openMarksIn, fifo]
  · exact fun _ => ⟨rfl, rfl⟩
  · exact ⟨fun h => by rcases h with h | h <;> (cases h), fun h => by cases h⟩
  · intro x h; rw [due x] at h; cases h

/-- The same with another node table, where the staged update in progress is lawful. -/
theorem watering_with_nodes {ns : Vector (Entry NodeRec) 48} (h : StagedLaw { garden with nodes := ns }) :
    WateringLaw { garden with nodes := ns } :=
  have g := witness_StepKeepsRunsOnOnlyInRunning
  ⟨g.1, g.2.1, g.2.2.1, g.2.2.2.1, g.2.2.2.2.1, g.2.2.2.2.2.1, g.2.2.2.2.2.2.1, g.2.2.2.2.2.2.2.1, h⟩

/-- A node entry waits for the next mark: its swap condition fails. -/
theorem witness_StepKeepsTheTablesConsistent : WateringLaw dueGarden ∧ Rested dueGarden ∧ ¬ NoSwapDue dueGarden ∧
    headDue dueGarden = some (.node 1) ∧ ¬ SwapCondition dueGarden (.node 1) ∧ dueGarden.pending = [] := by
  have due : ∀ x ∈ allSlots, slotDue dueGarden x = true → slotPending dueGarden x = true := by decide +kernel
  have node : slotDue dueGarden (.node 1) = true := by decide +kernel
  refine ⟨watering_with_nodes ⟨by unfold TableLaw; decide +kernel, fun x => due x (mem_allSlots x), by decide +kernel⟩,
    ⟨rfl, by unfold MasterValveLaw; decide +kernel⟩, fun h => by simp [h (.node 1)] at node, by decide +kernel, ?_, rfl⟩
  rintro (h | h | h | h) <;> (cases h)

/-- Sixteen PASSes at most, in the FIFO and waiting for their reports. -/
theorem witness_StepKeepsTheQueuesBounded : PassLaw sixteenPasses ∧ PassLaw (passing 15 0) := by
  refine ⟨⟨by decide +kernel, fun a h => by cases h⟩, by decide +kernel, fun a _ => ⟨7, [1], ?_⟩⟩
  decide +kernel

/-- Every law that the steps are said to keep holds in the garden, not at reset alone. -/
theorem witness_laws : calm garden = true ∧ crossChecks garden = true ∧ garden.lpwr = garden.seq.state.powered ∧
    (garden.nodeLive.all fun l => decide (l.misses ≤ 3)) = true ∧ (step garden matches .next _) := by decide +kernel

end Sys2Proof.Machine
end

section
/-! SUPPORT. What the moves of the Dispatcher, Valve Control, the Lock Unit, the Weather Unit and the Node Table do to the
Line Command Queue, to live valves and nodes outside their scope, and to the runs that are ON. -/

namespace Sys2Proof.Machine

/-! ## Readings of the queue -/

@[simp] theorem FifoEntry.opens_openValve (v w : Fin 32) (m : Marks) : (FifoEntry.openValve w m).opens v = (w == v) := (rfl)
@[simp] theorem FifoEntry.opens_pass (v : Fin 32) (a : Byte) (d : List Byte) (f : Bool) :
    (FifoEntry.pass a d f).opens v = false := (rfl)
@[simp] theorem FifoEntry.isPass_openValve (w : Fin 32) (m : Marks) : (FifoEntry.openValve w m).isPass = false := (rfl)
@[simp] theorem FifoEntry.isPass_pass (a : Byte) (d : List Byte) (f : Bool) : (FifoEntry.pass a d f).isPass = true := (rfl)

@[simp] theorem openMarksIn_nil (v : Fin 32) : openMarksIn [] v = none := rfl

theorem openMarksIn_cons (e : FifoEntry) (es : List FifoEntry) (v : Fin 32) :
    openMarksIn (e :: es) v = (match e with
      | .openValve w m => if w = v then some m else openMarksIn es v
      | .pass _ _ _ => openMarksIn es v) := by
  cases e with
  | openValve w m => by_cases h : w = v <;> simp [openMarksIn, h]
  | pass a d f => simp [openMarksIn]

/-- The marks of a valve's open are found among its opens alone. -/
theorem openMarksIn_filter (es : List FifoEntry) (v : Fin 32) :
    openMarksIn (es.filter (FifoEntry.opens v)) v = openMarksIn es v := by
  induction es with
  | nil => rfl
  | cons e es ih =>
    cases e with
    | openValve w m => by_cases h : w = v <;> simp [openMarksIn_cons, h, ih]
    | pass a d f => simp [openMarksIn_cons, ih]

theorem openMarksIn_eq_none {es : List FifoEntry} {v : Fin 32} :
    openMarksIn es v = none ↔ es.filter (FifoEntry.opens v) = [] := by
  induction es with
  | nil => simp
  | cons e es ih =>
    cases e with
    | openValve w m => by_cases h : w = v <;> simp [openMarksIn_cons, h, ih]
    | pass a d f => simp [openMarksIn_cons, ih]

/-- Opens of other valves do not matter to a valve's marks. -/
theorem openMarksIn_congr {es fs : List FifoEntry} {v : Fin 32}
    (h : es.filter (FifoEntry.opens v) = fs.filter (FifoEntry.opens v)) : openMarksIn es v = openMarksIn fs v := by
  rw [← openMarksIn_filter es, h, openMarksIn_filter]

/-- How many commands wait for a valve (01 R12). -/
def LineQueue.waiting (q : LineQueue) (v : Fin 32) : Nat :=
  (q.fifo.filter (FifoEntry.opens v)).length + (if q.closes[v].isSome then 1 else 0)

theorem oneCommandLaw_iff {s : State} : OneCommandLaw s ↔ ∀ v, s.lcq.waiting v ≤ 1 := Iff.rfl

/-- What an operation on the commands of one valve does to the queue: the PASSes, the commands of other valves and what is
owed stay, the FIFO does not overflow, and the valve has no second command. -/
structure QueueMove (v : Fin 32) (q q' : LineQueue) : Prop where
  clearOwed : q'.clearOwed = q.clearOwed
  withdrawOwed : q'.withdrawOwed = q.withdrawOwed
  length : q.fifo.length ≤ 16 → q'.fifo.length ≤ 16
  passes : q'.fifo.filter FifoEntry.isPass = q.fifo.filter FifoEntry.isPass
  opens : ∀ w, w ≠ v → q'.fifo.filter (FifoEntry.opens w) = q.fifo.filter (FifoEntry.opens w)
  closes : ∀ w : Fin 32, w ≠ v → q'.closes[w] = q.closes[w]
  waiting : q.waiting v ≤ 1 → q'.waiting v ≤ 1

namespace QueueMove

theorem refl (v : Fin 32) (q : LineQueue) : QueueMove v q q := by
  constructor
  case closes => intros; rfl
  case opens => intros; rfl
  all_goals first | rfl | exact id

theorem trans {v : Fin 32} {q q' q'' : LineQueue} (h : QueueMove v q q') (k : QueueMove v q' q'') : QueueMove v q q'' where
  clearOwed := k.clearOwed.trans h.clearOwed
  withdrawOwed := k.withdrawOwed.trans h.withdrawOwed
  length x := k.length (h.length x)
  passes := k.passes.trans h.passes
  opens w x := (k.opens w x).trans (h.opens w x)
  closes w x := (k.closes w x).trans (h.closes w x)
  waiting x := k.waiting (h.waiting x)

end QueueMove

/-- The entries that are no open of a valve hold every PASS and every other open. -/
theorem filter_isPass_of_not_opens (v : Fin 32) (es : List FifoEntry) :
    (es.filter fun e => !e.opens v).filter FifoEntry.isPass = es.filter FifoEntry.isPass := by
  rw [List.filter_filter]
  refine List.filter_congr fun e _ => ?_
  cases e <;> simp

theorem filter_opens_of_not_opens {v w : Fin 32} (h : w ≠ v) (es : List FifoEntry) :
    (es.filter fun e => !e.opens v).filter (FifoEntry.opens w) = es.filter (FifoEntry.opens w) := by
  rw [List.filter_filter]
  refine List.filter_congr fun e _ => ?_
  cases e with
  | openValve x m => by_cases k : x = w <;> simp [k, h]
  | pass a d f => simp

theorem filter_opens_self_of_not_opens (v : Fin 32) (es : List FifoEntry) :
    (es.filter fun e => !e.opens v).filter (FifoEntry.opens v) = [] := by
  simp

/-- The open of a valve leaves. -/
def LineQueue.withoutOpen (v : Fin 32) (q : LineQueue) : LineQueue := { q with fifo := q.fifo.filter fun e => !e.opens v }

/-- The close flag of a valve is written. -/
def LineQueue.withClose (v : Fin 32) (m : Option Marks) (q : LineQueue) : LineQueue := { q with closes := q.closes.set v m }

theorem LineQueue.withoutOpen_move (v : Fin 32) (q : LineQueue) : QueueMove v q (q.withoutOpen v) where
  clearOwed := rfl
  withdrawOwed := rfl
  length h := (List.length_filter_le _ _).trans h
  passes := filter_isPass_of_not_opens v _
  opens _ h := filter_opens_of_not_opens h _
  closes _ _ := rfl
  waiting h := by
    simp only [LineQueue.waiting, LineQueue.withoutOpen, filter_opens_self_of_not_opens, List.length_nil] at h ⊢
    exact (Nat.add_le_add_right (Nat.zero_le _) _).trans h

/-- A close flag written where no open waits, or cleared, or rewritten. -/
theorem LineQueue.withClose_move (v : Fin 32) (m : Option Marks) (q : LineQueue)
    (h : m = none ∨ q.closes[v].isSome = true ∨ q.openMarks v = none) : QueueMove v q (q.withClose v m) where
  clearOwed := rfl
  withdrawOwed := rfl
  length h := h
  passes := rfl
  opens _ _ := rfl
  closes w h := by simp [LineQueue.withClose, Fin.val_ne_of_ne h.symm]
  waiting k := by
    simp only [LineQueue.waiting, LineQueue.withClose, Fin.getElem_fin, Vector.getElem_set_self] at k ⊢
    rcases h with rfl | h | h
    · simp only [Option.isSome_none, Bool.false_eq_true, if_false, Nat.add_zero]
      omega
    · rw [if_pos (by simpa using h)] at k
      split <;> omega
    · rw [openMarksIn_eq_none.1 h]
      split <;> simp

/-- An open joins the tail where there is room and no command waits. -/
theorem LineQueue.append_open_move (v : Fin 32) (q : LineQueue) (hl : q.fifo.length < 16) (hc : q.closes[v] = none)
    (ho : q.openMarks v = none) : QueueMove v q { q with fifo := q.fifo ++ [.openValve v .fresh] } where
  clearOwed := rfl
  withdrawOwed := rfl
  length _ := by simpa using hl
  passes := by simp
  opens w h := by simp [Ne.symm h]
  closes _ _ := rfl
  waiting _ := by
    have := openMarksIn_eq_none.1 ho
    simp only [LineQueue.waiting, List.filter_append, this, hc, Option.isSome_none]
    simp

/-! ## The setters of the queue -/

section
variable (s : State) (v : Fin 32)

@[simp] theorem setFifo_lcq (f : List FifoEntry) : (setFifo f s).lcq = { s.lcq with fifo := f } := by
  simp only [setFifo]; split <;> rfl
@[simp] theorem setFifo_seq (f : List FifoEntry) : (setFifo f s).seq = s.seq := by simp only [setFifo]; split <;> rfl
@[simp] theorem setFifo_hub (f : List FifoEntry) : (setFifo f s).hub = s.hub := by simp only [setFifo]; split <;> rfl
@[simp] theorem setFifo_runs (f : List FifoEntry) : (setFifo f s).runs = s.runs := by simp only [setFifo]; split <;> rfl
@[simp] theorem setFifo_valveLive (f : List FifoEntry) : (setFifo f s).valveLive = s.valveLive := by
  simp only [setFifo]; split <;> rfl
@[simp] theorem setFifo_nodeLive (f : List FifoEntry) : (setFifo f s).nodeLive = s.nodeLive := by
  simp only [setFifo]; split <;> rfl

@[simp] theorem setClose_lcq (m : Option Marks) : (setClose v m s).lcq = s.lcq.withClose v m := rfl
@[simp] theorem setClose_seq (m : Option Marks) : (setClose v m s).seq = s.seq := rfl
@[simp] theorem setClose_hub (m : Option Marks) : (setClose v m s).hub = s.hub := rfl
@[simp] theorem setClose_runs (m : Option Marks) : (setClose v m s).runs = s.runs := rfl
@[simp] theorem setClose_valveLive (m : Option Marks) : (setClose v m s).valveLive = s.valveLive := rfl
@[simp] theorem setClose_nodeLive (m : Option Marks) : (setClose v m s).nodeLive = s.nodeLive := rfl

@[simp] theorem dropOpen_lcq : (dropOpen v s).lcq = s.lcq.withoutOpen v := by simp [dropOpen, LineQueue.withoutOpen]
@[simp] theorem dropOpen_seq : (dropOpen v s).seq = s.seq := by simp [dropOpen]
@[simp] theorem dropOpen_hub : (dropOpen v s).hub = s.hub := by simp [dropOpen]
@[simp] theorem dropOpen_runs : (dropOpen v s).runs = s.runs := by simp [dropOpen]
@[simp] theorem dropOpen_valveLive : (dropOpen v s).valveLive = s.valveLive := by simp [dropOpen]
@[simp] theorem dropOpen_nodeLive : (dropOpen v s).nodeLive = s.nodeLive := by simp [dropOpen]

/-- Detaching touches the tag of the transaction in progress alone. -/
theorem detach_eq : detach v s = s ∨ ∃ k a o d, s.seq.tx = .command v k a o d ∧
    detach v s = s.setSeq { s.seq with tx := .command v k a o true } := by
  unfold detach
  split
  next w k a o d h =>
    split
    next hw => subst hw; exact .inr ⟨k, a, o, d, h, rfl⟩
    next => exact .inl rfl
  next => exact .inl rfl

@[simp] theorem detach_lcq : (detach v s).lcq = s.lcq := by rcases detach_eq s v with h | ⟨_, _, _, _, _, h⟩ <;> simp [h]
@[simp] theorem detach_hub : (detach v s).hub = s.hub := by rcases detach_eq s v with h | ⟨_, _, _, _, _, h⟩ <;> simp [h]
@[simp] theorem detach_runs : (detach v s).runs = s.runs := by
  rcases detach_eq s v with h | ⟨_, _, _, _, _, h⟩ <;> simp [h]
@[simp] theorem detach_valveLive : (detach v s).valveLive = s.valveLive := by
  rcases detach_eq s v with h | ⟨_, _, _, _, _, h⟩ <;> simp [h]
@[simp] theorem detach_nodeLive : (detach v s).nodeLive = s.nodeLive := by
  rcases detach_eq s v with h | ⟨_, _, _, _, _, h⟩ <;> simp [h]

@[simp] theorem LineQueue.withoutOpen_closes (q : LineQueue) : (q.withoutOpen v).closes = q.closes := rfl
@[simp] theorem LineQueue.withClose_fifo (m : Option Marks) (q : LineQueue) : (q.withClose v m).fifo = q.fifo := rfl
@[simp] theorem LineQueue.withClose_openMarks (m : Option Marks) (q : LineQueue) (w : Fin 32) :
    (q.withClose v m).openMarks w = q.openMarks w := rfl
@[simp] theorem LineQueue.withClose_closes_self (m : Option Marks) (q : LineQueue) : (q.withClose v m).closes[v] = m := by
  simp [LineQueue.withClose]
@[simp] theorem LineQueue.withoutOpen_openMarks_self (q : LineQueue) : (q.withoutOpen v).openMarks v = none :=
  openMarksIn_eq_none.2 (filter_opens_self_of_not_opens v _)

end

end Sys2Proof.Machine
end

section
/-! SUPPORT. The scope of a move: which valves, nodes it may touch. -/
namespace Sys2Proof.Machine

/-- What a move may touch: the valves and the nodes it is about, whether it may submit an open outside a grant, and whether
it may drop what the step owes. -/
structure Scope where
  valve : Fin 32 → Prop
  node : Fin 48 → Prop
  opens : Prop
  drops : Prop

/-- Nothing but what a grant pass may touch. -/
def Scope.none : Scope := { valve := fun _ => False, node := fun _ => False, opens := False, drops := True }

/-- One valve, with no open submitted. -/
def Scope.only (v : Fin 32) : Scope := { valve := fun w => w = v, node := fun _ => False, opens := False, drops := True }

/-- Every valve and node. -/
def Scope.all : Scope := { valve := fun _ => True, node := fun _ => True, opens := True, drops := True }

/-- A grant pass may open the valve: RUNNING, and the valve CLOSED and AUTO (06 R98, R99). -/
def Grantable (s : State) (v : Fin 32) : Prop :=
  s.seq.state = .running ∧ s.valveLive[v].state = .closed ∧ s.valveLive[v].mode = .auto

/-- A move of the scope may touch the valve: it is one of the scope's, or a grant pass may open it. -/
def May (c : Scope) (s : State) (v : Fin 32) : Prop := c.valve v ∨ Grantable s v

theorem May.congr {c : Scope} {s t : State} {v : Fin 32} (h : May c s v) (hs : t.seq.state = s.seq.state)
    (hl : t.valveLive = s.valveLive) : May c t v := h.imp_right fun g => by unfold Grantable at *; rwa [hs, hl]

/-- Every ON run of `t` is that of a bed with an ON run in `s`. -/
def OnFrom (s t : State) : Prop := ∀ q ∈ t.runs, q.state = .on → ∃ r ∈ s.runs, r.bed = q.bed ∧ r.state = .on

theorem OnFrom.refl (s : State) : OnFrom s s := fun q h k => ⟨q, h, rfl, k⟩

theorem OnFrom.of_runs {s t : State} (h : t.runs = s.runs) : OnFrom s t := fun q hq k => ⟨q, h ▸ hq, rfl, k⟩

theorem OnFrom.trans {s t u : State} (h : OnFrom s t) (k : OnFrom t u) : OnFrom s u := fun q hq hon => by
  obtain ⟨r, hr, hb, ho⟩ := k q hq hon
  obtain ⟨p, hp, hpb, hpo⟩ := h r hr ho
  exact ⟨p, hp, hpb.trans hb, hpo⟩

/-- A valve with its waiting commands is as it was. -/
structure SameValve (w : Fin 32) (s t : State) : Prop where
  live : t.valveLive[w] = s.valveLive[w]
  close : t.lcq.closes[w] = s.lcq.closes[w]
  opens : t.lcq.openMarks w = s.lcq.openMarks w

/-- The work owed is not taken back: the mark to come stands, and so does a sweep (10 R171, R173). -/
def Owes (s t : State) : Prop := t.work.mark = s.work.mark ∧ (s.work.sweep = true → t.work.sweep = true)

theorem Owes.refl (s : State) : Owes s s := ⟨rfl, id⟩

theorem Owes.trans {s t u : State} (h : Owes s t) (k : Owes t u) : Owes s u := ⟨k.1.trans h.1, fun x => k.2 (h.2 x)⟩

/-- What a move does beside its own effect: the transaction in progress may become detached; the queue keeps its size, its
PASSes, one command per valve and what is owed; the port stays; valves and nodes outside the scope stay, but for valves that a
grant pass may open; outside RUNNING no run enters ON. -/
structure Move (c : Scope) (s t : State) : Prop where
  seq : t.seq = { s.seq with tx := t.seq.tx }
  tx : t.seq.tx = s.seq.tx ∨
    ∃ v k a o d, s.seq.tx = .command v k a o d ∧ t.seq.tx = .command v k a o true
  clearOwed : t.lcq.clearOwed = s.lcq.clearOwed
  withdrawOwed : t.lcq.withdrawOwed = s.lcq.withdrawOwed
  hub : t.hub = s.hub
  length : FifoLaw s → FifoLaw t
  one : OneCommandLaw s → OneCommandLaw t
  passes : t.lcq.fifo.filter FifoEntry.isPass = s.lcq.fifo.filter FifoEntry.isPass
  shrinks : ¬ c.opens → s.seq.state ≠ .running → t.lcq.fifo.length ≤ s.lcq.fifo.length
  valves : ∀ w, ¬ c.valve w → ¬ Grantable s w → SameValve w s t
  nodes : ∀ m : Fin 48, ¬ c.node m → t.nodeLive[m] = s.nodeLive[m]
  on : s.seq.state ≠ .running → OnFrom s t
  owed : ¬ c.drops → Owes s t

namespace Move
variable {c : Scope} {s t u : State}

theorem seqState (h : Move c s t) : t.seq.state = s.seq.state := by rw [h.seq]

theorem trans (h : Move c s t) (k : Move c t u) : Move c s u where
  seq := by rw [k.seq, h.seq]
  tx := by
    rcases h.tx with e | ⟨v, kd, a, o, d, e, e'⟩ <;> rcases k.tx with f | ⟨w, kd', a', o', d', f, f'⟩
    · exact .inl (f.trans e)
    · exact .inr ⟨w, kd', a', o', d', e ▸ f, f'⟩
    · exact .inr ⟨v, kd, a, o, d, e, f.trans e'⟩
    · rw [e'] at f; cases f
      exact .inr ⟨_, _, _, _, d, e, f'⟩
  clearOwed := k.clearOwed.trans h.clearOwed
  withdrawOwed := k.withdrawOwed.trans h.withdrawOwed
  hub := k.hub.trans h.hub
  length x := k.length (h.length x)
  one x := k.one (h.one x)
  passes := k.passes.trans h.passes
  shrinks x y := (k.shrinks x (by rwa [h.seqState])).trans (h.shrinks x y)
  valves w x y := by
    have hw := h.valves w x y
    have kw := k.valves w x (by unfold Grantable; rwa [h.seqState, hw.live])
    exact ⟨kw.live.trans hw.live, kw.close.trans hw.close, kw.opens.trans hw.opens⟩
  nodes m x := (k.nodes m x).trans (h.nodes m x)
  on x := (h.on x).trans (k.on (by rwa [h.seqState]))
  owed x := (h.owed x).trans (k.owed x)

/-- A move of blocks that the queue, the valves and the nodes do not see. -/
theorem aside (seq : t.seq = s.seq) (lcq : t.lcq = s.lcq) (hub : t.hub = s.hub) (live : t.valveLive = s.valveLive)
    (node : t.nodeLive = s.nodeLive) (on : s.seq.state ≠ .running → OnFrom s t)
    (owed : ¬ c.drops → Owes s t := by exact fun _ => ⟨rfl, id⟩) : Move c s t where
  seq := by rw [seq]
  tx := .inl (by rw [seq])
  clearOwed := by rw [lcq]
  withdrawOwed := by rw [lcq]
  hub := hub
  length := by simp only [FifoLaw, lcq, imp_self]
  one := by simp only [OneCommandLaw, lcq, imp_self]
  passes := by rw [lcq]
  shrinks _ _ := by rw [lcq]
  valves w _ _ := ⟨by rw [live], by rw [lcq], by rw [lcq]⟩
  nodes m _ := by rw [node]
  on := on
  owed := owed

theorem refl (s : State) : Move c s s := aside rfl rfl rfl rfl rfl fun _ => .refl s

/-- A fold of moves is one. -/
theorem foldl {α : Type} {f : State → α → State} (hf : ∀ s a, Move c s (f s a)) (as : List α) (s : State) :
    Move c s (as.foldl f s) := by
  induction as generalizing s with
  | nil => exact refl s
  | cons a as ih => exact (hf s a).trans (ih (f s a))

/-- A wider scope. -/
theorem mono {d : Scope} (h : Move c s t) (hv : ∀ w, c.valve w → d.valve w) (hn : ∀ m, c.node m → d.node m)
    (ho : c.opens → d.opens) (hd : c.drops → d.drops) : Move d s t :=
  { h with
    owed := fun x => h.owed fun y => x (hd y)
    shrinks := fun x => h.shrinks fun y => x (ho y)
    valves := fun w x => h.valves w fun y => x (hv w y)
    nodes := fun m x => h.nodes m fun y => x (hn m y) }

/-- Detaching alone. -/
theorem detach (v : Fin 32) (s : State) : Move c s (detach v s) := by
  rcases detach_eq s v with h | ⟨k, a, o, d, e, h⟩
  · rw [h]; exact .refl s
  · rw [h]
    exact { aside (s := s) (t := s) rfl rfl rfl rfl rfl fun _ => .refl s with
      seq := rfl
      tx := .inr ⟨v, k, a, o, d, e, rfl⟩
      valves := fun _ _ _ => ⟨rfl, rfl, rfl⟩ }

/-- An operation on the commands of one valve of the scope, or of one that a grant pass may open. -/
theorem ofQueue (v : Fin 32) (hv : May c s v) (hq : QueueMove v s.lcq t.lcq)
    (hs : ¬ c.opens → s.seq.state ≠ .running → t.lcq.fifo.length ≤ s.lcq.fifo.length)
    (seq : t.seq = s.seq) (hub : t.hub = s.hub) (live : t.valveLive = s.valveLive) (node : t.nodeLive = s.nodeLive)
    (runs : t.runs = s.runs) (owed : Owes s t) : Move c s t where
  seq := by rw [seq]
  tx := .inl (by rw [seq])
  clearOwed := hq.clearOwed
  withdrawOwed := hq.withdrawOwed
  hub := hub
  length := hq.length
  one h w := by
    by_cases hw : w = v
    · subst hw; exact hq.waiting (h w)
    · have := h w
      rwa [← hq.opens w hw, ← hq.closes w hw] at this
  passes := hq.passes
  shrinks := hs
  valves w x y := by
    have hw : w ≠ v := by rintro rfl; exact hv.elim x y
    exact ⟨by rw [live], hq.closes w hw, openMarksIn_congr (hq.opens w hw)⟩
  nodes m _ := by rw [node]
  on _ := .of_runs runs
  owed _ := owed

end Move

section
variable {c : Scope} (s : State) (v : Fin 32)

theorem setValveLive_move (l : ValveLive) (hv : May c s v) : Move c s (s.setValveLive v l) :=
  { Move.aside (c := c) (s := s) (t := s) rfl rfl rfl rfl rfl fun _ => .refl s with
    valves := fun w x y => by
      have hw : w ≠ v := by rintro rfl; exact hv.elim x y
      exact ⟨by simp [Fin.val_ne_of_ne hw.symm], rfl, rfl⟩ }

theorem setNodeLive_move (n : Fin 48) (l : NodeLive) (hn : c.node n) : Move c s (s.setNodeLive n l) :=
  { Move.aside (c := c) (s := s) (t := s) rfl rfl rfl rfl rfl fun _ => .refl s with
    valves := fun _ _ _ => ⟨rfl, rfl, rfl⟩
    nodes := fun m x => by
      have hm : m ≠ n := by rintro rfl; exact x hn
      simp [Fin.val_ne_of_ne hm.symm] }

theorem setBedLive_move (b : Fin 24) (l : Option BedLive) : Move c s (s.setBedLive b l) :=
  .aside rfl rfl rfl rfl rfl fun _ => .of_runs rfl
theorem setWork_move (w : Work) (h : ¬ c.drops → Owes s (s.setWork w)) : Move c s (s.setWork w) :=
  .aside rfl rfl rfl rfl rfl (fun _ => .of_runs rfl) h
theorem setMonitor_move (m : SupplyMonitor) : Move c s (s.setMonitor m) := .aside rfl rfl rfl rfl rfl fun _ => .of_runs rfl
theorem setFlag_move (f : Flag) : Move c s (setFlag f s) := .aside rfl rfl rfl rfl rfl fun _ => .of_runs rfl
theorem choose_move (n : Nat) : Move c s { s with choice := n } := .aside rfl rfl rfl rfl rfl fun _ => .of_runs rfl
theorem setLocks_move (l : LockUnit) : Move c s (s.setLocks l) := .aside rfl rfl rfl rfl rfl fun _ => .of_runs rfl
theorem setWeatherUnit_move (w : WeatherUnit) : Move c s (s.setWeatherUnit w) :=
  .aside rfl rfl rfl rfl rfl fun _ => .of_runs rfl
theorem setProbe_move (n : Fin 48) (p : Option ProbeLive) : Move c s (s.setProbe n p) :=
  .aside rfl rfl rfl rfl rfl fun _ => .of_runs rfl
theorem owePass_move : Move c s (owePass s) := setWork_move s _ fun _ => ⟨rfl, id⟩
theorem oweSweep_move : Move c s (oweSweep s) := setWork_move s _ fun _ => ⟨rfl, fun _ => rfl⟩
theorem oweReport_move : Move c s (oweReport s) := setWork_move s _ fun _ => ⟨rfl, fun _ => rfl⟩
theorem setRuns_move (rs : List Run) (h : s.seq.state ≠ .running → OnFrom s (s.setRuns rs)) : Move c s (s.setRuns rs) :=
  .aside rfl rfl rfl rfl rfl h

/-- A bed's run found in the queue stands there. -/
theorem findRun_mem {b : Fin 24} {r : Run} (h : findRun s b = some r) : r ∈ s.runs ∧ r.bed = b :=
  ⟨List.mem_of_find?_eq_some h, by simpa using List.find?_some h⟩

/-- A record put in place of one that was ON, or that is not ON. -/
theorem putRun_move (r : Run) (h : s.seq.state ≠ .running → r.state = .on → ∃ q, findRun s r.bed = some q ∧ q.state = .on) :
    Move c s (putRun s r) := by
  refine setRuns_move s _ fun hs q hq ho => ?_
  obtain ⟨p, hp, e⟩ := List.mem_map.1 hq
  by_cases hb : p.bed = r.bed
  · rw [if_pos hb] at e
    subst e
    obtain ⟨q, hf, hqo⟩ := h hs ho
    have := findRun_mem s hf
    exact ⟨q, this.1, this.2, hqo⟩
  · rw [if_neg hb] at e
    subst e
    exact ⟨p, hp, rfl, ho⟩

/-! ## The Line Command Queue -/

theorem setFifo_owes (f : List FifoEntry) : Owes s (setFifo f s) := by
  simp only [setFifo]
  split <;> exact ⟨rfl, id⟩

theorem dropOpen_move (hv : May c s v) : Move c s (dropOpen v s) :=
  .ofQueue v hv (by rw [dropOpen_lcq]; exact s.lcq.withoutOpen_move v)
    (fun _ _ => by rw [dropOpen_lcq]; exact List.length_filter_le _ _) (by simp) (by simp) (by simp) (by simp) (by simp)
    (setFifo_owes s _)

theorem setClose_move (m : Option Marks) (hv : May c s v)
    (h : m = none ∨ s.lcq.closes[v].isSome = true ∨ s.lcq.openMarks v = none) : Move c s (setClose v m s) :=
  .ofQueue v hv (s.lcq.withClose_move v m h) (fun _ _ => Nat.le_refl _) rfl rfl rfl rfl rfl (.refl s)

theorem closeRequest_move (hv : May c s v) : Move c s (closeRequest v s) := by
  simp only [closeRequest]
  split
  · exact .refl s
  · exact dropOpen_move s v hv
  · have hd : Move c s (if flying s v .openValve then detach v s else s) := by
      split
      · exact .detach v s
      · exact .refl s
    have hl : (if flying s v .openValve then detach v s else s).lcq = s.lcq := by split <;> simp
    have hg : May c (if flying s v .openValve then detach v s else s) v := hv.congr hd.seqState (by split <;> simp)
    split
    · exact (hd.trans (dropOpen_move _ v hg)).trans
        (setClose_move _ v _ (hg.congr (by simp) (by simp)) (.inr (.inr (by simp))))
    next hn => exact hd.trans (setClose_move _ v _ hg (.inr (.inr (by simpa [hl] using hn))))

theorem openRequest_move (hv : May c s v) (ho : c.opens ∨ s.seq.state = .running) :
    Move c s (openRequest v s) := by
  simp only [openRequest]
  split
  · exact .refl s
  · exact .refl s
  next hr =>
    have hr' : s.lcq.openMarks v = none ∧ s.lcq.fifo.length < 16 := by
      unfold openResult at hr
      split at hr
      · cases hr
      next hn =>
        split at hr
        · cases hr
        next hf => exact ⟨by simpa using hn, by omega⟩
    have hd : Move c s (if flying s v .closeValve then detach v s else s) := by
      split
      · exact .detach v s
      · exact .refl s
    have hl : (if flying s v .closeValve then detach v s else s).lcq = s.lcq := by split <;> simp
    have hg : May c (if flying s v .closeValve then detach v s else s) v := hv.congr hd.seqState (by split <;> simp)
    have key : ∀ t : State, Move c s t → May c t v → t.lcq.openMarks v = none → t.lcq.fifo.length < 16 →
        t.lcq.closes[v] = none → Move c s (appendOpen v t) := by
      intro t h g h1 h2 h3
      refine h.trans (.ofQueue v g ?_ (fun x y => ?_) (by simp [appendOpen]) (by simp [appendOpen]) (by simp [appendOpen])
        (by simp [appendOpen]) (by simp [appendOpen]) (setFifo_owes t _))
      · simpa [appendOpen] using t.lcq.append_open_move v h2 h3 h1
      · rw [h.seqState] at y
        exact (ho.elim x y).elim
    split
    · refine key _ (hd.trans (setClose_move _ v _ hg (.inl rfl))) (hg.congr rfl rfl) ?_ ?_ ?_
      · simpa [hl] using hr'.1
      · simpa [hl] using hr'.2
      · exact LineQueue.withClose_closes_self v none _
    next hn =>
      refine key _ hd hg (by rw [hl]; exact hr'.1) (by rw [hl]; exact hr'.2) ?_
      rw [hl]; simpa using hn

theorem withdraw_move (hv : May c s v) : Move c s (withdraw v s) := by
  unfold withdraw
  split
  · have hg : May c (detach v s) v := hv.congr (Move.detach (c := c) v s).seqState (by simp)
    exact ((Move.detach v s).trans (setClose_move _ v none hg (.inl rfl))).trans (dropOpen_move _ v (hg.congr rfl rfl))
  · exact .refl s

end

end Sys2Proof.Machine
end

section
/-! SUPPORT. What each operation of the Dispatcher, Valve Control, the Locks, the Weather and the Nodes moves: one lemma
per operation, in the order of the model. -/

namespace Sys2Proof.Machine

section
variable {c : Scope} (s : State)

/-! ## Balances and runs -/

theorem onBed_move (b : Fin 24) (f : BedLive → BedLive) : Move c s (onBed b f s) := by
  unfold onBed
  split
  · exact .refl s
  · exact setBedLive_move s b _

theorem accrue_move (b : Fin 24) : Move c s (accrue b s) := onBed_move s b _
theorem accrueAll_move : Move c s (accrueAll s) := .foldl (fun t b => accrue_move t b) _ s
theorem takeReading_move (b : Fin 24) (w : Nat) : Move c s (takeReading b w s) := onBed_move s b _
theorem waterCredit_move (b : Fin 24) (secs flow : Nat) : Move c s (waterCredit b secs flow s) :=
  (accrue_move s b).trans (onBed_move _ b _)
theorem rainCredit_move (b : Fin 24) (d : Nat) : Move c s (rainCredit b d s) := (accrue_move s b).trans (onBed_move _ b _)
theorem setHoldEnd_move (b : Fin 24) : Move c s (setHoldEnd b s) := onBed_move s b _

/-- A record put that is not ON. -/
theorem putRun_move_off (r : Run) (h : r.state ≠ .on) : Move c s (putRun s r) := putRun_move s r fun _ k => absurd k h

theorem releaseCheck_move (b : Fin 24) : Move c s (releaseCheck b s) := by
  unfold releaseCheck
  split
  · exact .refl s
  · split
    · exact putRun_move_off s _ (by simp only [ne_eq]; split <;> simp)
    · exact .refl s

theorem releaseAll_move : Move c s (releaseAll s) := .foldl (fun t b => releaseCheck_move t b) _ s

theorem noteValveChange_move : Move c s (noteValveChange s) := setMonitor_move s _

theorem writeValve_move (v : Fin 32) (l : ValveLive) (hv : May c s v) : Move c s (writeValve v l s) := by
  simp only [writeValve]
  have h := setValveLive_move s v l hv
  split
  · have k : Move c s (oweReport
        (if s.valveLive[v].state ≠ l.state then noteValveChange (s.setValveLive v l) else s.setValveLive v l)) := by
      split
      · exact (h.trans (noteValveChange_move _)).trans (oweReport_move _)
      · exact h.trans (oweReport_move _)
    split
    · exact k.trans (releaseCheck_move _ _)
    · exact k
  · split
    · exact (h.trans (noteValveChange_move _)).trans (oweSweep_move _)
    · exact h

@[simp] theorem closeRequest_valveLive (v : Fin 32) : (closeRequest v s).valveLive = s.valveLive := by
  simp only [closeRequest]
  split
  · rfl
  · simp
  · split <;> split <;> simp

@[simp] theorem openRequest_valveLive (v : Fin 32) : (openRequest v s).valveLive = s.valveLive := by
  simp only [openRequest]
  split
  · rfl
  · rfl
  · split <;> split <;> simp [appendOpen]

@[simp] theorem withdraw_valveLive (v : Fin 32) : (withdraw v s).valveLive = s.valveLive := by
  unfold withdraw
  split <;> simp

theorem Move.may {t : State} {v : Fin 32} (h : Move c s t) (hv : May c s v) (hl : t.valveLive = s.valveLive) : May c t v :=
  hv.congr h.seqState hl

theorem valveStop_move (v : Fin 32) (hv : May c s v) : Move c s (valveStop v s) := by
  simp only [valveStop]
  have h := closeRequest_move s v hv
  have hw (l : ValveLive) : Move c s (writeValve v l (closeRequest v s)) :=
    h.trans (writeValve_move _ v l (h.may s hv (by simp)))
  split
  · split <;> exact hw _
  · exact hw _
  all_goals exact writeValve_move s v _ hv

/-! ## Grant passes -/

theorem grant_move (r : Run) (v : Fin 32) (hv : Grantable s v) : Move c s (grant r v s) := by
  have h1 : Move c s (putRun s { r with state := .on, skips := 0 }) := putRun_move s _ fun k => absurd hv.1 k
  have m1 := h1.may s (.inr hv) rfl
  have h2 := h1.trans (openRequest_move _ v m1 (.inr hv.1))
  exact h2.trans (writeValve_move _ v _ (h2.may s (.inr hv) (by simp [putRun])))

theorem bumpSkips_move (bs : List (Fin 24)) : Move c s (bumpSkips bs s) := by
  refine setRuns_move s _ fun _ q hq ho => ?_
  obtain ⟨p, hp, rfl⟩ := List.mem_map.1 hq
  refine ⟨p, hp, ?_⟩
  split at ho <;> simp_all

/-- A scan grants the valve of a bed whose run is QUEUED, and only one that a grant pass may open. -/
theorem scanStep_granted {b : Fin 24} {r : Run} {v : Fin 32} (h : scanStep s b = .granted r v) :
    findRun s b = some r ∧ valveOf s b = some v ∧ r.state = .queued ∧ s.valveLive[v].state = .closed ∧
      s.valveLive[v].mode = .auto ∧ s.lcq.fifo.length < 16 := by
  unfold scanStep at h
  split at h
  next r' v' hr hv =>
    split at h
    · cases h
    next hq =>
      simp only [not_or, not_not, eligible, Bool.not_eq_false, Bool.and_eq_true, beq_iff_eq] at hq
      split at h
      · split at h
        · cases h
        next hl => cases h; exact ⟨hr, hv, hq.1, hq.2.1.1.1, hq.2.1.1.2, by omega⟩
      · split at h <;> cases h
  · cases h

theorem grantScan_move (bs passed bumped : List (Fin 24)) (hr : s.seq.state = .running) :
    Move c s (grantScan bs passed bumped s) := by
  induction bs generalizing passed bumped s with
  | nil => exact bumpSkips_move s _
  | cons b bs ih =>
    unfold grantScan
    split
    · exact ih s _ _ hr
    · exact ih s _ _ hr
    · exact bumpSkips_move s _
    next r v h =>
      obtain ⟨-, -, -, hc, ha, -⟩ := scanStep_granted s h
      have hg := grant_move (c := c) s r v ⟨hr, hc, ha⟩
      exact hg.trans (ih _ _ _ (by rw [hg.seqState, hr]))

theorem grantPass_move : Move c s (grantPass s) := by
  unfold grantPass
  split
  next h => exact grantScan_move s _ _ _ (by simp only [passOpen, Bool.and_eq_true, beq_iff_eq] at h; exact h.1.1)
  · exact .refl s

theorem pass_move : Move c s (pass s) := by
  simp only [pass]
  split
  · split
    · exact (choose_move s _).trans (owePass_move _)
    · exact (choose_move s _).trans (grantPass_move _)
  · exact grantPass_move s

/-! ## Pulses, removal, creation, demand -/

theorem startPulse_move (b : Fin 24) : Move c s (startPulse b s) := by
  unfold startPulse
  split
  · exact .refl s
  next r h =>
    split
    next ho => exact putRun_move s _ fun _ _ => ⟨r, by rw [show r.bed = b from (findRun_mem s h).2]; exact h, ho⟩
    · exact .refl s

@[simp] theorem Run.applyPlan_bed (r : Run) : r.applyPlan.bed = r.bed := by unfold Run.applyPlan; split <;> rfl
@[simp] theorem Run.applyPlan_state (r : Run) : r.applyPlan.state = r.state := by unfold Run.applyPlan; split <;> rfl

theorem endPulse_move (b : Fin 24) (stop : Bool) (h : stop = true → ∀ v, c.valve v) : Move c s (endPulse b stop s) := by
  simp only [endPulse]
  split
  · exact .refl s
  next r hr =>
    have hp (d : Nat) : Move c s (putRun s { r.applyPlan with delivered := d, pulseStart := none, expiry := none }) :=
      putRun_move s _ fun _ ho =>
        ⟨r, by simpa [(findRun_mem s hr).2] using hr, by simpa using ho⟩
    split
    · exact hp _
    · split
      next hs => exact ((hp _).trans (waterCredit_move _ b _ _)).trans (valveStop_move _ _ (.inl (h hs _)))
      · exact (hp _).trans (waterCredit_move _ b _ _)

/-- Records taken out of the queue. -/
theorem setRuns_filter_move (p : Run → Bool) : Move c s (s.setRuns (s.runs.filter p)) :=
  setRuns_move s _ fun _ q hq ho => ⟨q, (List.mem_filter.1 hq).1, rfl, ho⟩

theorem takeOut_move (b : Fin 24) (r : Run) : Move c s (takeOut b r s) := by
  simp only [takeOut]
  have h := (setRuns_filter_move (c := c) s fun q => q.bed != b).trans (setHoldEnd_move _ b)
  split
  · exact (h.trans (setFlag_move _ _)).trans (oweSweep_move _)
  · exact h.trans (oweSweep_move _)

theorem dropRun_move (b : Fin 24) : Move c s (dropRun b s) := by
  unfold dropRun
  split
  · exact .refl s
  · exact (takeOut_move s b _).trans (pass_move _)

theorem removeRun_move (b : Fin 24) (h : ∀ v, c.valve v) : Move c s (removeRun b s) := by
  unfold removeRun
  split
  · exact .refl s
  · split
    · exact (endPulse_move s b true fun _ => h).trans (dropRun_move _ b)
    · exact dropRun_move s b

theorem leaveOn_move (r : Run) (h : r.state ≠ .on) : Move c s (leaveOn r s) :=
  ((putRun_move_off s r h).trans (oweSweep_move _)).trans (pass_move _)

theorem endEarly_move (b : Fin 24) (x : HeldReasons) (stop : Bool) (h : stop = true → ∀ v, c.valve v) :
    Move c s (endEarly b x stop s) := by
  simp only [endEarly]
  have k := endPulse_move s b stop h
  split
  · exact k
  · split
    · exact k.trans (takeOut_move _ b _)
    · exact k.trans ((putRun_move_off _ _ (by simp)).trans (oweSweep_move _))

theorem earlyEnd_move (b : Fin 24) (x : HeldReasons) (stop : Bool) (h : stop = true → ∀ v, c.valve v) :
    Move c s (earlyEnd b x stop s) := by
  unfold earlyEnd
  split
  · exact (endEarly_move s b x stop h).trans (pass_move _)
  · exact .refl s

theorem pulseExpires_move (b : Fin 24) (h : ∀ v, c.valve v) : Move c s (pulseExpires b s) := by
  simp only [pulseExpires]
  have k := endPulse_move s b true fun _ => h
  split
  · exact k
  · split
    · exact k.trans (dropRun_move _ b)
    · split
      · exact k.trans (dropRun_move _ b)
      · exact k.trans (leaveOn_move _ _ (by simp))
      · exact k.trans (leaveOn_move _ _ (by simp))

theorem soakExpires_move (b : Fin 24) : Move c s (soakExpires b s) := by
  simp only [soakExpires]
  split
  · exact .refl s
  · split
    · exact (putRun_move_off s _ (by simp)).trans (pass_move _)
    · exact putRun_move_off s _ (by simp)

theorem runningLeft_move (h : ∀ v, c.valve v) : Move c s (runningLeft s) :=
  .foldl (fun t b => earlyEnd_move t b _ _ fun _ => h) _ s

theorem tellOwner_move {ends : Fin 24 → State → State} (h : ∀ b t, Move c t (ends b t)) (old new : ValveLive) :
    Move c s (tellOwner ends old new s) := by
  unfold tellOwner
  split
  · exact .refl s
  · split
    · exact h _ s
    · split
      · exact startPulse_move s _
      · exact .refl s

theorem shiftValve_move (v : Fin 32) (l : ValveLive) (hv : May c s v) : Move c s (shiftValve v l s) := by
  simp only [shiftValve]
  have h := writeValve_move s v l hv
  split
  · exact h.trans (tellOwner_move _ (fun b t => endEarly_move t b _ _ (by simp)) _ _)
  · exact h

theorem changeValve_move (v : Fin 32) (l : ValveLive) (hv : May c s v) : Move c s (changeValve v l s) := by
  simp only [changeValve]
  have h := writeValve_move s v l hv
  split
  · exact (h.trans (tellOwner_move _ (fun b t => earlyEnd_move t b _ _ (by simp)) _ _)).trans (pass_move _)
  · exact h

theorem createRun_move (r : Run) (h : r.state ≠ .on) : Move c s (createRun r s) := by
  refine (setRuns_move s _ fun _ q hq ho => ⟨q, ?_, rfl, ho⟩).trans (pass_move _)
  have hne : q ≠ r := by rintro rfl; exact h ho
  simp only [State.setRuns_runs, insertRun] at hq
  split at hq <;> simp_all
  exact hq.elim (·.1) (·.1)

theorem demandCheck_move (b : Fin 24) : Move c s (demandCheck b s) := by
  unfold demandCheck
  split
  · exact .refl s
  · exact createRun_move s _ (by simp [autoRun, newRun])

theorem forBeds_move (acts : Fin 24 → Bool) {f : Fin 24 → State → State} (h : ∀ b t, Move c t (f b t)) :
    Move c s (forBeds acts f s) :=
  inAnyOrder_keeps .refl .trans (fun t n => choose_move t n) h _ _ s

theorem demandAll_move : Move c s (demandAll s) := forBeds_move s _ fun b t => demandCheck_move t b

/-! ## Valve Control -/

theorem latchFault_move (v : Fin 32) (hv : May c s v) : Move c s (latchFault v s) :=
  (setValveLive_move s v _ hv).trans (setFlag_move _ _)

/-- A valve whose state and mode are kept may still be touched. -/
theorem May.of_live {t : State} {v : Fin 32} (h : May c s v) (hs : t.seq.state = s.seq.state)
    (hl : t.valveLive[v].state = s.valveLive[v].state) (hm : t.valveLive[v].mode = s.valveLive[v].mode) : May c t v :=
  h.imp_right fun g => by unfold Grantable at *; rwa [hs, hl, hm]

theorem latchFault_may {t : State} {v : Fin 32} (h : May c t v) : May c (latchFault v t) v :=
  h.of_live t rfl (by simp [latchFault]) (by simp [latchFault])

theorem withdraw_latch_move (v : Fin 32) (l : ValveLive) (hv : May c s v) :
    Move c s (changeValve v l (latchFault v (withdraw v s))) := by
  have h1 := withdraw_move s v hv
  have m1 := h1.may s hv (by simp)
  exact (h1.trans (latchFault_move _ v m1)).trans (changeValve_move _ v _ (latchFault_may m1))

theorem failedAttempt_move (v : Fin 32) (hv : May c s v) : Move c s (failedAttempt v s) := by
  simp only [failedAttempt]
  split
  · exact setValveLive_move s v _ hv
  · exact withdraw_latch_move s v _ hv

theorem valveOutcome_move (v : Fin 32) (k : CommandKind) (answered : Bool) (hv : May c s v) :
    Move c s (valveOutcome v k answered s) := by
  simp only [valveOutcome]
  split
  iterate 3
    · split
      · exact changeValve_move s v _ hv
      · exact failedAttempt_move s v hv
  · exact .refl s

theorem reconcile_move (v : Fin 32) (isOpen : Bool) (hv : May c s v) : Move c s (reconcile v isOpen s) := by
  simp only [reconcile]
  have hl := latchFault_move s v hv
  have hm : May c (latchFault v s) v := latchFault_may hv
  have hc := closeRequest_move s v hv
  split
  · have k := closeRequest_move _ v hm
    exact (hl.trans k).trans (shiftValve_move _ v _ (k.may _ hm (by simp)))
  · exact hl.trans (shiftValve_move _ v _ hm)
  · exact hc.trans (shiftValve_move _ v _ (hc.may s hv (by simp)))
  · exact shiftValve_move s v _ hv
  · exact .refl s

theorem decoderReport_move (n : Fin 48) (outputs : Nat) (h : ∀ v, c.valve v) : Move c s (decoderReport n outputs s) := by
  refine (Move.foldl (fun t v => reconcile_move t v _ (.inl (h v))) _ s).trans (.foldl (fun t v => ?_) _ _)
  split
  · exact pass_move t
  · exact .refl t

theorem loseDecoder_move (v : Fin 32) (hv : May c s v) : Move c s (loseDecoder v s) := by
  simp only [loseDecoder]
  split
  iterate 3 exact withdraw_latch_move s v _ hv
  · split
    · have h := withdraw_move s v hv
      exact h.trans (setValveLive_move _ v _ (h.may s hv (by simp)))
    · exact .refl s
  all_goals exact .refl s

theorem decoderLost_move (n : Fin 48) (h : ∀ v, c.valve v) : Move c s (decoderLost n s) :=
  .foldl (fun t v => loseDecoder_move t v (.inl (h v))) _ s

/-- A close request and the change that goes with it. -/
theorem close_change_move (v : Fin 32) (l : ValveLive) (hv : May c s v) : Move c s (changeValve v l (closeRequest v s)) := by
  have h := closeRequest_move s v hv
  exact h.trans (changeValve_move _ v l (h.may s hv (by simp)))

theorem liftFault_move (v : Fin 32) (hv : May c s v) : Move c s (liftFault v s) := by
  simp only [liftFault]
  split
  · split
    · exact close_change_move s v _ hv
    · exact changeValve_move s v _ hv
  · exact .refl s

theorem decoderReturned_move (n : Fin 48) (h : ∀ v, c.valve v) : Move c s (decoderReturned n s) :=
  .foldl (fun t v => liftFault_move t v (.inl (h v))) _ s

theorem settleClosed_move (v : Fin 32) (hv : May c s v) : Move c s (settleClosed v s) := by
  unfold settleClosed
  split
  · exact changeValve_move s v _ hv
  · exact .refl s

theorem openWithdrawn_move (v : Fin 32) (sent : Bool) (hv : May c s v) : Move c s (openWithdrawn v sent s) := by
  simp only [openWithdrawn]
  split
  · split
    · exact close_change_move s v _ hv
    · exact changeValve_move s v _ hv
  · exact .refl s

theorem setValveMode_move (v : Fin 32) (m : ValveMode) (hv : May c s v) (ho : m = .forcedOpen → c.opens) :
    Move c s (setValveMode v m s) := by
  simp only [setValveMode]
  split
  · split
    · exact .refl s
    · exact close_change_move s v _ hv
  · split
    · have h := openRequest_move s v hv (.inl (ho rfl))
      exact h.trans (changeValve_move _ v _ (h.may s hv (by simp)))
    · exact changeValve_move s v _ hv
  · split
    · split
      · exact close_change_move s v _ hv
      · exact changeValve_move s v _ hv
    · exact close_change_move s v _ hv
  · have h := withdraw_move s v hv
    exact h.trans (changeValve_move _ v _ (h.may s hv (by simp)))

theorem forcedToAuto_move (h : ∀ v, c.valve v) : Move c s (forcedToAuto s) := by
  refine .foldl (fun t v => ?_) _ s
  split
  · exact setValveMode_move t v .auto (.inl (h v)) (by simp)
  · exact .refl t

theorem valveSwapped_move (v : Fin 32) (old new : ValveRec) (h : ∀ v, c.valve v) : Move c s (valveSwapped v old new s) := by
  simp only [valveSwapped]
  refine .trans (.trans (.trans ?_ (noteValveChange_move _)) (changeValve_move _ v _ (.inl (h v)))) (pass_move _)
  split
  · exact withdraw_move s v (.inl (h v))
  · exact .refl s

/-! ## The Lock Unit -/

theorem lockOnset_move (m : LockMode) (i : LockTiming) (h : ∀ v, c.valve v) : Move c s (lockOnset m i s) := by
  simp only [lockOnset]
  split <;> split
  · exact (Move.foldl (fun t b => removeRun_move t b h) _ s).trans (.foldl (fun t b => dropRun_move t b) _ _)
  · exact .foldl (fun t b => dropRun_move t b) _ s
  · exact .foldl (fun t b => earlyEnd_move t b _ _ fun _ => h) _ s
  · exact .refl s

theorem lockLeaves_move : Move c s (lockLeaves s) :=
  ((releaseAll_move s).trans (grantPass_move _)).trans (demandAll_move _)

theorem recomputeLock_move (h : ∀ v, c.valve v) : Move c s (recomputeLock s) := by
  simp only [recomputeLock]
  split
  · exact .refl s
  · have k (l : LockUnit) : Move c s (setFlag .lockChange (s.setLocks l)) := (setLocks_move s l).trans (setFlag_move _ _)
    split
    · exact (k _).trans (lockLeaves_move _)
    · split
      · exact (k _).trans (lockOnset_move _ _ _ h)
      · exact k _

theorem setCondition_move (x : Source) (b : Bool) (h : ∀ v, c.valve v) : Move c s (setCondition x b s) := by
  unfold setCondition
  split
  · exact .refl s
  · exact (setLocks_move s _).trans (recomputeLock_move _ h)

theorem raiseSupply_move (h : ∀ v, c.valve v) : Move c s (raiseSupply s) := by
  unfold raiseSupply
  split
  · exact .refl s
  · exact (setCondition_move s _ _ h).trans (forcedToAuto_move _ h)

theorem handWeather_move (t : Int) (v : Nat) (h : ∀ v, c.valve v) : Move c s (handWeather t v s) := by
  simp only [handWeather]
  have k := setLocks_move (c := c) s { s.locks with handed := some (t, v) }
  split
  · have k' := k.trans (choose_move _ (s.choice + 1))
    split
    · exact (k'.trans (setCondition_move _ _ _ h)).trans (setCondition_move _ _ _ h)
    · exact (k'.trans (setCondition_move _ _ _ h)).trans (setCondition_move _ _ _ h)
  · exact (k.trans (setCondition_move _ _ _ h)).trans (setCondition_move _ _ _ h)

theorem rainHoldDelta_move (d : Nat) (h : ∀ v, c.valve v) : Move c s (rainHoldDelta d s) := by
  simp only [rainHoldDelta]
  split
  · exact (setLocks_move s _).trans (setCondition_move _ _ _ h)
  · exact .refl s

/-! ## Probes and weather -/

theorem probeReading_move (n : Fin 48) (x : Nat) : Move c s (probeReading n x s) := by
  simp only [probeReading]
  split
  · exact .refl s
  · have h (p : Option ProbeLive) := setProbe_move (c := c) s n p
    split
    · split
      · exact h _
      · exact ((h _).trans (takeReading_move _ _ _)).trans (demandCheck_move _ _)
    · split
      · exact (h _).trans (setFlag_move _ _)
      · exact h _

theorem probeReturns_move (n : Fin 48) : Move c s (probeReturns n s) := by
  unfold probeReturns
  split
  · exact .refl s
  · split
    · exact setProbe_move s n _
    · exact .refl s

theorem probeSwapped_move (n : Fin 48) (old new : NodeRec) : Move c s (probeSwapped n old new s) := by
  unfold probeSwapped
  split
  · split
    · exact setProbe_move s n _
    · exact probeReturns_move s n
  · exact setProbe_move s n _

theorem judgeProbe_move (n : Fin 48) : Move c s (judgeProbe n s) := by
  unfold judgeProbe
  split
  · exact .refl s
  · exact setProbe_move s n _

theorem evaluate_move (b : Fin 24) : Move c s (evaluate b s) := by
  simp only [evaluate]
  exact ((Move.foldl (fun t n => judgeProbe_move t n) _ s).trans (onBed_move _ b _)).trans (accrue_move _ b)

theorem setWeather_move (w : WeatherUnit) : Move c s (setWeather w s) := by
  simp only [setWeather]
  split
  · exact ((accrueAll_move s).trans (setWeatherUnit_move _ w)).trans (demandAll_move _)
  · exact setWeatherUnit_move s w

theorem recomputeRate_move : Move c s (recomputeRate s) := by
  unfold recomputeRate
  split
  · exact setWeather_move s _
  · exact .refl s

theorem rainToBeds_move (d : Nat) : Move c s (rainToBeds d s) :=
  (Move.foldl (fun t b => rainCredit_move t b d) _ s).trans (demandAll_move _)

theorem rainDelta_move (d : Nat) (h : ∀ v, c.valve v) : Move c s (rainDelta d s) := by
  simp only [rainDelta]
  split
  · have k := choose_move (c := c) s (s.choice + 1)
    split
    · exact (k.trans (rainHoldDelta_move _ d h)).trans (rainToBeds_move _ d)
    · exact (k.trans (rainToBeds_move _ d)).trans (rainHoldDelta_move _ d h)
  · exact (rainToBeds_move s d).trans (rainHoldDelta_move _ d h)

theorem rainCounter_move (x : Nat) (h : ∀ v, c.valve v) : Move c s (rainCounter x s) := by
  simp only [rainCounter]
  split
  · split
    · exact setWeatherUnit_move s _
    · split
      · exact .refl s
      · split
        · exact (setWeatherUnit_move s _).trans (rainDelta_move _ _ h)
        · exact (setWeatherUnit_move s _).trans (setFlag_move _ _)
  · exact .refl s

theorem localTip_move (h : ∀ v, c.valve v) : Move c s (localTip s) := by
  unfold localTip
  split
  · exact rainDelta_move s 1 h
  · exact .refl s

theorem weatherReport_move (t : Int) (v x : Nat) (h : ∀ v, c.valve v) : Move c s (weatherReport t v x s) :=
  ((setWeather_move s _).trans (handWeather_move _ _ _ h)).trans (rainCounter_move _ x h)

theorem dropBaseline_move : Move c s (dropBaseline s) := setWeatherUnit_move s _

theorem weatherNodeSwapped_move (old new : NodeRec) : Move c s (weatherNodeSwapped old new s) := by
  unfold weatherNodeSwapped
  split
  · split
    · exact setWeather_move s _
    · exact dropBaseline_move s
  · split
    · exact setWeather_move s _
    · exact .refl s

theorem weatherRecSwapped_move (old new : WeatherRec) : Move c s (weatherRecSwapped old new s) := by
  unfold weatherRecSwapped
  split
  · exact (dropBaseline_move s).trans (recomputeRate_move _)
  · exact recomputeRate_move s

/-! ## The Node Table -/

theorem presenceChanged_move (n : Fin 48) (l : NodeLive) (hn : c.node n) : Move c s (presenceChanged n l s) :=
  (setNodeLive_move s n _ hn).trans (setFlag_move _ _)

theorem nodePresent_move (n : Fin 48) (k : NodeKind) (prior : Presence) (h : ∀ v, c.valve v) :
    Move c s (nodePresent n k prior s) := by
  unfold nodePresent
  split
  · split
    · exact (decoderReturned_move s n h).trans (pass_move _)
    · exact pass_move s
  · split
    · exact probeReturns_move s n
    · exact .refl s
  · exact dropBaseline_move s
  all_goals exact .refl s

theorem nodeMissing_move (n : Fin 48) (k : NodeKind) (h : ∀ v, c.valve v) : Move c s (nodeMissing n k s) := by
  unfold nodeMissing
  split
  · exact decoderLost_move s n h
  · exact .refl s

theorem pollMiss_move (n : Fin 48) (hn : c.node n) (h : ∀ v, c.valve v) : Move c s (pollMiss n s) := by
  simp only [pollMiss]
  split
  · exact setNodeLive_move s n _ hn
  · exact setNodeLive_move s n _ hn
  · split
    · exact setNodeLive_move s n _ hn
    · exact (presenceChanged_move s n _ hn).trans (nodeMissing_move _ n _ h)

theorem pollHeard_move (n : Fin 48) (hn : c.node n) (h : ∀ v, c.valve v) : Move c s (pollHeard n s) := by
  simp only [pollHeard]
  split
  · exact setNodeLive_move s n _ hn
  · exact (presenceChanged_move s n _ hn).trans (nodePresent_move _ n _ _ h)

theorem consumeReport_move (n : Fin 48) (k : NodeKind) (p : List Byte) (h : ∀ v, c.valve v) :
    Move c s (consumeReport n k p s) := by
  unfold consumeReport
  split
  · exact probeReading_move s n _
  · exact weatherReport_move s _ _ _ h
  · exact decoderReport_move s n _ h
  all_goals exact .refl s

theorem losePower_move (n : Fin 48) (hn : c.node n) : Move c s (losePower n s) := by
  simp only [losePower]
  split
  · split
    · exact setNodeLive_move s n _ hn
    · exact presenceChanged_move s n _ hn
  · exact .refl s

theorem nodesPowerOff_move (hn : ∀ n, c.node n) : Move c s (nodesPowerOff s) :=
  .foldl (fun t n => losePower_move t n (hn n)) _ s

theorem nodeLiveSwapped_move (n : Fin 48) (old new : NodeRec) (hn : c.node n) :
    Move c s (nodeLiveSwapped n old new s) := by
  simp only [nodeLiveSwapped]
  split
  · split
    · exact setNodeLive_move s n _ hn
    · exact presenceChanged_move s n _ hn
  · exact setNodeLive_move s n _ hn

theorem decoderSwapped_move (n : Fin 48) (old new : NodeRec) (h : ∀ v, c.valve v) :
    Move c s (decoderSwapped n old new s) := by
  unfold decoderSwapped
  split
  · exact decoderLost_move s n h
  · exact .refl s

theorem nodeSwapped_move (n : Fin 48) (old new : NodeRec) (hn : c.node n) (h : ∀ v, c.valve v) :
    Move c s (nodeSwapped n old new s) :=
  (((nodeLiveSwapped_move s n old new hn).trans (probeSwapped_move _ n old new)).trans
    (weatherNodeSwapped_move _ old new)).trans (decoderSwapped_move _ n old new h)

end

end Sys2Proof.Machine
end

section
/-! SUPPORT. Replies handed over, clearings of the command FIFO, and what the Sequencer's operations keep of the queues. -/

namespace Sys2Proof.Machine

/-! ## Replies handed over -/

/-- A PASS_REPLY offered to the port (11 R184). -/
def HubPort.offer (f : HubFrame) (h : HubPort) : HubPort :=
  if h.reports.length < 8 && h.passWait.isEmpty then { h with reports := h.reports ++ [f] }
  else { h with passWait := h.passWait ++ [f] }

/-- PASS_REPLYs offered one after another. -/
def HubPort.offerAll (fs : List HubFrame) (h : HubPort) : HubPort := fs.foldl (fun k f => k.offer f) h

@[simp] theorem HubPort.offerAll_cons (f : HubFrame) (fs : List HubFrame) (h : HubPort) :
    h.offerAll (f :: fs) = (h.offer f).offerAll fs := (rfl)

theorem offerPassReply_eq (f : HubFrame) (s : State) : offerPassReply f s = s.setHub (s.hub.offer f) := by
  simp only [offerPassReply, HubPort.offer]
  split <;> rfl

namespace HubPort
variable (f : HubFrame) (fs : List HubFrame) (h : HubPort)

theorem offer_held : (h.offer f).reports ++ (h.offer f).passWait = h.reports ++ h.passWait ++ [f] := by
  unfold offer
  split
  next k => simp only [Bool.and_eq_true, List.isEmpty_iff] at k; simp [k.2]
  next => simp

theorem offer_reports_le (k : h.reports.length ≤ 8) : (h.offer f).reports.length ≤ 8 := by
  unfold offer
  split
  next x => simp only [Bool.and_eq_true, decide_eq_true_eq] at x; simpa using x.1
  next => exact k

theorem offer_passWait_le : (h.offer f).passWait.length ≤ h.passWait.length + 1 := by
  unfold offer
  split <;> simp

theorem offer_frame : h.offer f = { h with reports := (h.offer f).reports, passWait := (h.offer f).passWait } := by
  unfold offer
  split <;> rfl

theorem offerAll_held : (h.offerAll fs).reports ++ (h.offerAll fs).passWait = h.reports ++ h.passWait ++ fs := by
  induction fs generalizing h with
  | nil => simp [offerAll]
  | cons f fs ih => simpa [offer_held] using ih (h.offer f)

theorem offerAll_reports_le (k : h.reports.length ≤ 8) : (h.offerAll fs).reports.length ≤ 8 := by
  induction fs generalizing h with
  | nil => exact k
  | cons f fs ih => exact ih _ (h.offer_reports_le f k)

theorem offerAll_passWait_le : (h.offerAll fs).passWait.length ≤ h.passWait.length + fs.length := by
  induction fs generalizing h with
  | nil => exact Nat.le_refl _
  | cons f fs ih =>
    have := h.offer_passWait_le f
    exact (ih (h.offer f)).trans (by simp only [List.length_cons]; omega)

theorem offerAll_frame :
    h.offerAll fs = { h with reports := (h.offerAll fs).reports, passWait := (h.offerAll fs).passWait } := by
  induction fs generalizing h with
  | nil => rfl
  | cons f fs ih =>
    rw [offerAll_cons, ih (h.offer f), h.offer_frame f]

end HubPort

/-- The PASSes of some entries are answered, in some order; nothing else moves but the choice counter (01 R19). -/
theorem passesDown_eq (es : List FifoEntry) (s : State) :
    ∃ order n, order.Perm (es.filterMap FifoEntry.lineDown) ∧
      passesDown es s = { s with hub := s.hub.offerAll order, choice := n } := by
  obtain ⟨order, hp, n, hn⟩ := inAnyOrder_induction (next := Config.nextReply) (f := offerPassReply)
    (P := fun done t => ∃ n, t = { s with hub := s.hub.offerAll done, choice := n })
    (by rintro done _ n ⟨m, rfl⟩; exact ⟨n, rfl⟩)
    (by
      rintro done f _ ⟨m, rfl⟩
      exact ⟨m, by simp [offerPassReply_eq, State.setHub, HubPort.offerAll]⟩)
    _ (es.filterMap FifoEntry.lineDown) [] s (Nat.le_refl _) ⟨s.choice, rfl⟩
  exact ⟨order, n, hp, hn⟩

@[simp] theorem FifoEntry.lineDown_openValve (v : Fin 32) (m : Marks) : (FifoEntry.openValve v m).lineDown = none := (rfl)
@[simp] theorem FifoEntry.lineDown_pass (a : Byte) (d : List Byte) (f : Bool) :
    (FifoEntry.pass a d f).lineDown = some (passReplyFrame a .lineDown []) := (rfl)

/-- As many replies as PASSes. -/
theorem lineDown_length (es : List FifoEntry) :
    (es.filterMap FifoEntry.lineDown).length = (es.filter FifoEntry.isPass).length := by
  induction es with
  | nil => rfl
  | cons e es ih => cases e <;> simp [ih]

/-- The state in which entries have left the FIFO and their PASSes are answered. -/
def leaveFifo (leaves : FifoEntry → Bool) (order : List HubFrame) (n : Nat) (s : State) : State :=
  { setFifo (s.lcq.fifo.filter fun e => !leaves e) s with hub := s.hub.offerAll order, choice := n }

/-- The opens of some entries are reported withdrawn, in valve index order (07 R127). -/
def withdrawOpens (gone : List FifoEntry) (s : State) : State :=
  (List.finRange 32).foldl
    (fun u v => match openMarksIn gone v with
      | some m => openWithdrawn v m.sent u
      | none => u) s

/-- What a clearing does: entries leave, their PASSes are answered in some order, their opens reported. -/
theorem clearEntries_eq (leaves : FifoEntry → Bool) (s : State) :
    ∃ order n, order.Perm ((s.lcq.fifo.filter leaves).filterMap FifoEntry.lineDown) ∧
      clearEntries leaves s = withdrawOpens (s.lcq.fifo.filter leaves) (leaveFifo leaves order n s) := by
  obtain ⟨order, n, hp, he⟩ := passesDown_eq (s.lcq.fifo.filter leaves) (setFifo (s.lcq.fifo.filter fun e => !leaves e) s)
  refine ⟨order, n, hp, ?_⟩
  rw [show clearEntries leaves s = withdrawOpens (s.lcq.fifo.filter leaves)
    (passesDown (s.lcq.fifo.filter leaves) (setFifo (s.lcq.fifo.filter fun e => !leaves e) s)) from rfl, he, setFifo_hub]
  rfl

/-- One valve's part of `withdrawOpens`. -/
theorem withdrawOpens_step {c : Scope} (gone : List FifoEntry) (v : Fin 32) (s : State)
    (h : (openMarksIn gone v).isSome = true → May c s v) :
    Move c s (match openMarksIn gone v with
      | some m => openWithdrawn v m.sent s
      | none => s) := by
  split
  next m hm => exact openWithdrawn_move s v _ (h (by simp [hm]))
  · exact .refl s

theorem withdrawOpens_move {c : Scope} (gone : List FifoEntry) (s : State)
    (h : ∀ v, (openMarksIn gone v).isSome = true → c.valve v) : Move c s (withdrawOpens gone s) :=
  .foldl (fun t v => withdrawOpens_step gone v t fun x => .inl (h v x)) _ s

/-! ## The laws of the queues -/

/-- A PASS in flight has its place in the FIFO (01 R18). -/
def InFifo (s : State) : Prop := ∃ b d, FifoEntry.pass b d true ∈ s.lcq.fifo

/-- The four laws of the queues are kept. -/
structure QueuesKept (s t : State) : Prop where
  fifo : FifoLaw s → FifoLaw t
  one : OneCommandLaw s → OneCommandLaw t
  port : PortLaw s → PortLaw t
  pass : PassLaw s → PassLaw t

namespace QueuesKept
variable {s t u : State}

theorem refl (s : State) : QueuesKept s s := ⟨id, id, id, id⟩

theorem trans (h : QueuesKept s t) (k : QueuesKept t u) : QueuesKept s u :=
  ⟨k.fifo ∘ h.fifo, k.one ∘ h.one, k.port ∘ h.port, k.pass ∘ h.pass⟩

/-- A fold of operations that each keep the laws keeps them. -/
theorem foldl {α : Type} {f : State → α → State} (hf : ∀ s a, QueuesKept s (f s a)) (as : List α) (s : State) :
    QueuesKept s (as.foldl f s) := by
  induction as generalizing s with
  | nil => exact refl s
  | cons a as ih => exact (hf s a).trans (ih (f s a))

/-- What the laws speak of is as it was, but that the transmission may have ended. -/
theorem of_eq (lcq : t.lcq = s.lcq) (tx : ∀ a, t.seq.tx = .pass a → s.seq.tx = .pass a)
    (reports : t.hub.reports = s.hub.reports) (wait : t.hub.passWait = s.hub.passWait)
    (requests : s.hub.requests.length ≤ 4 → t.hub.requests.length ≤ 4) : QueuesKept s t where
  fifo h := by unfold FifoLaw at *; rwa [lcq]
  one h := by unfold OneCommandLaw at *; rwa [lcq]
  port h := by unfold PortLaw at *; rw [reports]; exact ⟨h.1, requests h.2⟩
  pass h := by
    obtain ⟨hn, hf⟩ := h
    refine ⟨?_, fun a ha => ?_⟩
    · unfold passesQueued at *; rwa [lcq, wait]
    · rw [lcq]; exact hf a (tx a ha)

/-- The same with the port untouched. -/
theorem of_lcq (lcq : t.lcq = s.lcq) (tx : ∀ a, t.seq.tx = .pass a → s.seq.tx = .pass a) (hub : t.hub = s.hub) :
    QueuesKept s t := of_eq lcq tx (by rw [hub]) (by rw [hub]) (by rw [hub]; exact id)

end QueuesKept

/-- A PASS that stands among the PASSes stands in the FIFO. -/
theorem inFifo_of_passes {s t : State} (h : t.lcq.fifo.filter FifoEntry.isPass = s.lcq.fifo.filter FifoEntry.isPass)
    (k : InFifo s) : InFifo t := by
  obtain ⟨b, d, hm⟩ := k
  have : FifoEntry.pass b d true ∈ s.lcq.fifo.filter FifoEntry.isPass := List.mem_filter.2 ⟨hm, rfl⟩
  rw [← h] at this
  exact ⟨b, d, (List.mem_filter.1 this).1⟩

/-- A move keeps a PASS in flight or none. -/
theorem Move.tx_pass {c : Scope} {s t : State} (h : Move c s t) (a : Byte) (ha : t.seq.tx = .pass a) : s.seq.tx = .pass a := by
  rcases h.tx with e | ⟨_, _, _, _, _, _, e⟩
  · rwa [e] at ha
  · rw [e] at ha; cases ha

theorem Move.kept {c : Scope} {s t : State} (h : Move c s t) : QueuesKept s t where
  fifo := h.length
  one := h.one
  port k := by unfold PortLaw at *; rwa [h.hub]
  pass k := by
    obtain ⟨hn, hf⟩ := k
    refine ⟨?_, fun a ha => inFifo_of_passes h.passes (hf a (h.tx_pass a ha))⟩
    unfold passesQueued at *
    rwa [h.passes, h.hub]

section
variable (s : State)

theorem offerReport_kept (f : HubFrame) : QueuesKept s (offerReport f s) := by
  unfold offerReport
  split
  next h =>
    simp only [reportFits, Bool.and_eq_true, decide_eq_true_eq] at h
    refine ⟨id, id, fun k => ⟨?_, k.2⟩, id⟩
    simpa using h.1
  next => exact .of_lcq rfl (fun _ => id) rfl

/-- A filtered FIFO keeps one command per valve. -/
theorem filter_oneCommand (p : FifoEntry → Bool) (q : LineQueue) (v : Fin 32) (h : q.waiting v ≤ 1) :
    { q with fifo := q.fifo.filter p }.waiting v ≤ 1 :=
  (Nat.add_le_add_right ((List.filter_sublist.filter _).length_le) _).trans h

/-- The PASSes that leave and those that stay. -/
theorem passes_split (leaves : FifoEntry → Bool) (es : List FifoEntry) :
    (es.filter FifoEntry.isPass).length =
      ((es.filter leaves).filter FifoEntry.isPass).length + ((es.filter fun e => !leaves e).filter FifoEntry.isPass).length := by
  simp only [← List.countP_eq_length_filter]
  exact List.countP_eq_countP_filter_add ..

theorem leaveFifo_kept (leaves : FifoEntry → Bool) (order : List HubFrame) (n : Nat)
    (ho : order.Perm ((s.lcq.fifo.filter leaves).filterMap FifoEntry.lineDown))
    (hx : ∀ a, s.seq.tx = .pass a → ∀ b d, leaves (.pass b d true) = false) :
    QueuesKept s (leaveFifo leaves order n s) where
  fifo h := by simpa [FifoLaw, leaveFifo] using (List.length_filter_le _ _).trans h
  one h v := by simp only [leaveFifo, setFifo_lcq]; exact filter_oneCommand _ s.lcq v (h v)
  port h := ⟨s.hub.offerAll_reports_le order h.1, by rw [leaveFifo, HubPort.offerAll_frame]; exact h.2⟩
  pass h := by
    obtain ⟨hn, hf⟩ := h
    constructor
    · have h1 := ho.length_eq
      rw [lineDown_length] at h1
      have h2 := passes_split leaves s.lcq.fifo
      have h3 := s.hub.offerAll_passWait_le order
      simp only [passesQueued, leaveFifo, setFifo_lcq] at *
      omega
    · intro a ha
      have ha' : s.seq.tx = .pass a := by simpa [leaveFifo] using ha
      obtain ⟨b, d, hm⟩ := hf a ha'
      exact ⟨b, d, by simpa [leaveFifo, hx a ha'] using hm⟩

/-- Entries that are no PASS in flight may be cleared. -/
theorem clearEntries_kept (leaves : FifoEntry → Bool)
    (hx : ∀ a, s.seq.tx = .pass a → ∀ b d, leaves (.pass b d true) = false) : QueuesKept s (clearEntries leaves s) := by
  obtain ⟨order, n, ho, he⟩ := clearEntries_eq leaves s
  rw [he]
  exact (leaveFifo_kept s leaves order n ho hx).trans (withdrawOpens_move (c := .all) _ _ fun _ _ => trivial).kept

/-- What a queue owes is not seen by the laws. -/
theorem setOwed_kept (x y : Bool) : QueuesKept s (s.setQueue { s.lcq with clearOwed := x, withdrawOwed := y }) :=
  ⟨id, id, id, id⟩

theorem clearFifo_kept (h : ∀ a, s.seq.tx ≠ .pass a) : QueuesKept s (clearFifo s) :=
  (setOwed_kept s false false).trans (clearEntries_kept _ _ fun a ha => absurd ha (h a))

theorem clearWaiting_kept : QueuesKept s (clearWaiting s) :=
  (setOwed_kept s false true).trans (clearEntries_kept _ _ fun _ _ _ _ => rfl)

theorem clearFlown_kept (v : Fin 32) : QueuesKept s (clearFlown v s) := clearEntries_kept _ _ fun _ _ _ _ => rfl

theorem queuePowerOff_kept : QueuesKept s (queuePowerOff s) := by
  obtain ⟨order, n, ho, he⟩ := passesDown_eq s.lcq.fifo (setFifo []
    (s.setQueue { s.lcq with closes := Vector.replicate 32 none, clearOwed := false, withdrawOwed := false }))
  simp only [queuePowerOff, he]
  refine ⟨fun _ => by simp [FifoLaw], fun _ v => by simp, fun h => ⟨?_, ?_⟩, fun h => ⟨?_, fun a ha => ?_⟩⟩
  · simpa using s.hub.offerAll_reports_le order h.1
  · simp only [State.setSeq_hub, setFifo_hub, State.setQueue_hub]
    rw [HubPort.offerAll_frame]; exact h.2
  · have h1 := ho.length_eq
    rw [lineDown_length] at h1
    have h3 := s.hub.offerAll_passWait_le order
    have := h.1
    simp only [passesQueued, State.setSeq_lcq, State.setSeq_hub, setFifo_lcq, setFifo_hub, State.setQueue_hub, List.filter_nil,
      List.length_nil] at *
    omega
  · simp at ha

/-! ## Transitions -/

theorem setFlag_kept (f : Flag) : QueuesKept s (setFlag f s) := (setFlag_move (c := .all) s f).kept

theorem setSeq_kept (q : Sequencer) (h : ∀ a, q.tx = .pass a → s.seq.tx = .pass a) : QueuesKept s (s.setSeq q) :=
  .of_lcq rfl h rfl

theorem setBeacon_kept (b : Option Nat) : QueuesKept s { s with beacon := b } := .of_lcq rfl (fun _ => id) rfl

theorem quiet_kept (q : SeqState) : QueuesKept s (quiet q s) := .of_lcq rfl (fun _ => id) rfl

theorem inTransaction_false {x : Transmission} (h : ¬ x.inTransaction = true) (a : Byte) : x ≠ .pass a := by
  rintro rfl; exact h rfl

theorem marksStop_kept : QueuesKept s (marksStop s) := by
  simp only [marksStop]
  split
  · exact ⟨id, id, id, id⟩
  next h => exact (setBeacon_kept s _).trans (clearFifo_kept _ (inTransaction_false h))

/-- The transmission ends. -/
theorem setTx_idle_kept : QueuesKept s (s.setSeq { s.seq with tx := .idle }) := setSeq_kept s _ (by simp)

theorem enterStopped_kept : QueuesKept s (enterStopped s) := by
  simp only [enterStopped]
  refine .trans ?_ (marksStop_kept _)
  split
  · exact (quiet_kept s _).trans (setTx_idle_kept _)
  · exact quiet_kept s _

theorem halt_kept : QueuesKept s (halt s) := by
  simp only [halt]
  refine .trans ?_ (marksStop_kept _)
  have h : QueuesKept s (quiet .halted (setFlag .seqHalted s)) := .of_lcq rfl (fun _ => id) rfl
  split
  · exact h.trans (runningLeft_move (c := .all) _ fun _ => trivial).kept
  · exact h

theorem marksStart_kept : QueuesKept s (marksStart s) := by
  simp only [marksStart]
  split
  · exact (setBeacon_kept s _).trans (clearWaiting_kept _)
  · exact setBeacon_kept s _

theorem beginMarking_kept (q : SeqState) (n : Nat) : QueuesKept s (beginMarking q n s) := setSeq_kept s _ fun _ => id

theorem enterRunning_kept (n : Nat) : QueuesKept s (enterRunning n s) :=
  ((marksStart_kept s).trans (beginMarking_kept _ _ _)).trans ((releaseAll_move (c := .all) _).trans (pass_move _)).kept

theorem enterStep_kept : QueuesKept s (enterStep s) := (marksStart_kept s).trans (beginMarking_kept _ _ _)

theorem enterStopping_kept : QueuesKept s (enterStopping s) := by
  have h : QueuesKept s (s.setSeq { s.seq with state := .stopping }) := .of_lcq rfl (fun _ => id) rfl
  exact h.trans ((runningLeft_move (c := .all) _ fun _ => trivial).trans (setWork_move _ _ (by simp [Scope.all]))).kept

theorem examineStop_kept : QueuesKept s (examineStop s) := by
  simp only [examineStop]
  have h := (setWork_move (c := .all) s { s.work with stop := false } (by simp [Scope.all])).kept
  split
  · exact h.trans (enterStopped_kept _)
  · exact h

theorem valvesPowerOff_kept : QueuesKept s (valvesPowerOff s) := by
  exact (setBeacon_kept s _).trans (Move.foldl (c := .all) (fun t v => settleClosed_move t v (.inl trivial)) _ _).kept

theorem beaconExpires_kept : QueuesKept s (beaconExpires s) := by
  exact (setBeacon_kept s _).trans ((Move.foldl (c := .all) (fun t v => withdraw_move t v (.inl trivial)) _ _).trans
    (Move.foldl (fun t v => settleClosed_move t v (.inl trivial)) _ _)).kept

theorem cutPower_kept (q : SeqState) (m : CurrentMonitor) : QueuesKept s (cutPower q m s) := by
  simp only [cutPower]
  have h : QueuesKept s (quiet q { s with lpwr := false, mon := m }) := .of_lcq rfl (fun _ => id) rfl
  refine .trans (.trans (.trans ?_ (queuePowerOff_kept _)) (valvesPowerOff_kept _))
    (nodesPowerOff_move (c := .all) _ fun _ => trivial).kept
  split
  · exact h.trans (runningLeft_move (c := .all) _ fun _ => trivial).kept
  · exact h

theorem trip_kept : QueuesKept s (trip s) := by
  simp only [trip]
  split
  · exact ((setFlag_kept s _).trans (setFlag_kept _ _)).trans (cutPower_kept _ _ _)
  · exact ((setFlag_kept s _).trans (setSeq_kept _ { s.seq with resume := resumeFor s.seq.state } fun _ => id)).trans (cutPower_kept _ _ _)

theorem powerOn_kept : QueuesKept s (powerOn s) := .of_lcq rfl (fun _ => id) rfl

theorem backoffEnds_kept : QueuesKept s (backoffEnds s) := by
  simp only [backoffEnds]
  split
  · exact (powerOn_kept s).trans (enterRunning_kept _ _)
  · exact (powerOn_kept s).trans (quiet_kept _ _)
  · exact (powerOn_kept s).trans (quiet_kept _ _)

theorem restoreLine_kept : QueuesKept s (restoreLine s) := .of_lcq rfl (fun _ => id) rfl

/-! ## Cycle, slots and transactions -/

theorem settleMark_kept : QueuesKept s (settleMark s) := by
  unfold settleMark
  split
  · exact .of_lcq rfl (fun _ h => by cases h) rfl
  · exact .refl s

/-- The entry is no PASS in flight. -/
def FifoEntry.stays : FifoEntry → Bool
  | .openValve _ _ => true
  | .pass _ _ flying => !flying

theorem dropPass_eq : dropPass s = setFifo (s.lcq.fifo.filter FifoEntry.stays) s := rfl

/-- The PASS in flight gives its place to its reply (01 R18). -/
theorem passReplied_kept (a : Byte) (f : HubFrame) (q : Sequencer) (hs : s.seq.tx = .pass a) (hq : q.tx = .idle) :
    QueuesKept s (offerPassReply f (dropPass (s.setSeq q))) := by
  rw [offerPassReply_eq, dropPass_eq]
  refine ⟨fun h => ?_, fun h v => ?_, fun h => ⟨?_, ?_⟩, fun h => ⟨?_, fun b hb => ?_⟩⟩
  · simp only [FifoLaw, State.setHub_lcq, setFifo_lcq]
    exact (List.length_filter_le _ _).trans h
  · simp only [State.setHub_lcq, setFifo_lcq]
    exact filter_oneCommand _ s.lcq v (h v)
  · simp only [State.setHub_hub, setFifo_hub]
    exact s.hub.offer_reports_le f h.1
  · simp only [State.setHub_hub, setFifo_hub, State.setSeq_hub]
    rw [HubPort.offer_frame]; exact h.2
  · obtain ⟨hn, hf⟩ := h
    obtain ⟨b, d, hm⟩ := hf a hs
    have h1 := s.hub.offer_passWait_le f
    have h2 := passes_split FifoEntry.stays s.lcq.fifo
    have h3 : 0 < ((s.lcq.fifo.filter fun e => !e.stays).filter FifoEntry.isPass).length :=
      List.length_pos_of_mem (a := .pass b d true) (by simp [hm, FifoEntry.stays])
    simp only [passesQueued, State.setHub_lcq, State.setHub_hub, setFifo_lcq, setFifo_hub, State.setSeq_lcq,
      State.setSeq_hub] at *
    omega
  · simp [hq] at hb

theorem abandonTx_kept : QueuesKept s (abandonTx s) := by
  simp only [abandonTx]
  split
  next a h => exact passReplied_kept s a _ _ h rfl
  all_goals exact setTx_idle_kept s

theorem countMismatch_kept : QueuesKept s (countMismatch s) := by
  simp only [countMismatch]
  have h := setSeq_kept s { s.seq with echoFailures := min 3 (s.seq.echoFailures + 1) } fun _ => id
  split
  · exact h.trans (halt_kept _)
  · exact h

theorem payClearing_kept (tx : Transmission) (h : ∀ a, s.seq.tx ≠ .pass a) : QueuesKept s (payClearing tx s) := by
  simp only [payClearing]
  split
  · exact clearFifo_kept s h
  · split
    · have k : QueuesKept s (s.setQueue { s.lcq with withdrawOwed := false }) := ⟨id, id, id, id⟩
      split
      · exact k.trans (clearFlown_kept _ _)
      · exact k
    · exact .refl s

/-- An entry at the start of a cycle: its attempted mark is cleared (01 R3). -/
def FifoEntry.renewed : FifoEntry → FifoEntry
  | .openValve v m => .openValve v { m with attempted := false }
  | .pass a d f => .pass a d f

@[simp] theorem FifoEntry.renewed_opens (v : Fin 32) (e : FifoEntry) : e.renewed.opens v = e.opens v := by cases e <;> rfl
@[simp] theorem FifoEntry.renewed_isPass (e : FifoEntry) : e.renewed.isPass = e.isPass := by cases e <;> rfl

theorem clearAttempted_fifo : (clearAttempted s).lcq.fifo = s.lcq.fifo.map FifoEntry.renewed := by
  simp only [clearAttempted, State.setQueue_lcq]
  refine List.map_congr_left fun e _ => ?_
  cases e <;> rfl

theorem clearAttempted_closes (v : Fin 32) :
    (clearAttempted s).lcq.closes[v] = (s.lcq.closes[v]).map fun m => { m with attempted := false } := by
  simp [clearAttempted]

/-- A map that keeps what a predicate counts. -/
theorem length_filter_map_of_eq {α : Type} (p : α → Bool) (f : α → α) (h : ∀ a, p (f a) = p a) (as : List α) :
    ((as.map f).filter p).length = (as.filter p).length := by
  simp only [List.filter_map, List.length_map, Function.comp_def, h]

theorem clearAttempted_waiting (v : Fin 32) : (clearAttempted s).lcq.waiting v = s.lcq.waiting v := by
  simp only [LineQueue.waiting, clearAttempted_fifo, clearAttempted_closes, Option.isSome_map,
    length_filter_map_of_eq _ _ (FifoEntry.renewed_opens v)]

theorem clearAttempted_kept : QueuesKept s (clearAttempted s) where
  fifo h := by simpa [FifoLaw, clearAttempted_fifo] using h
  one h := oneCommandLaw_iff.2 fun v => (clearAttempted_waiting s v).trans_le (h v)
  port h := ⟨h.1, h.2⟩
  pass h := by
    obtain ⟨hn, hf⟩ := h
    refine ⟨?_, fun a ha => ?_⟩
    · rw [passesQueued, clearAttempted_fifo, length_filter_map_of_eq _ _ FifoEntry.renewed_isPass]
      exact hn
    · obtain ⟨b, d, hm⟩ := hf a ha
      exact ⟨b, d, List.mem_map.2 ⟨_, hm, rfl⟩⟩

theorem openCycle_kept : QueuesKept s (openCycle s) := by
  unfold openCycle
  exact setSeq_kept s _ (by simp)

theorem beginPolls_kept : QueuesKept s (beginPolls s) := by
  simp only [beginPolls]
  split <;> exact .of_lcq rfl (fun _ => id) rfl

theorem beginPollSlot_kept (n : Fin 48) (rest : List (Fin 48)) : QueuesKept s (beginPollSlot n rest s) :=
  setSeq_kept s _ (by simp)

theorem sendCommand_kept (v : Fin 32) (k : CommandKind) : QueuesKept s (sendCommand v k s) :=
  setSeq_kept s _ (by simp)

/-- Replacing an element that a predicate counts by one that it counts as well. -/
theorem countP_set_of_eq {α : Type} (p : α → Bool) (as : List α) (i : Nat) (a b : α) (h : as[i]? = some a) (hp : p b = p a) :
    (as.set i b).countP p = as.countP p := by
  obtain ⟨hi, rfl⟩ := List.getElem?_eq_some_iff.1 h
  rw [List.countP_set (by omega), hp]
  by_cases hc : p as[i] = true
  · have : 0 < as.countP p := List.countP_pos_iff.2 ⟨_, List.getElem_mem hi, hc⟩
    simp only [hc, if_true]
    omega
  · simp [hc]

theorem sendPass_kept (i : Nat) : QueuesKept s (sendPass i s) := by
  unfold sendPass
  split
  next a d f h =>
    have key (p : FifoEntry → Bool) (hp : p (.pass a d true) = p (.pass a d f)) :
        ((s.lcq.fifo.set i (.pass a d true)).filter p).length = (s.lcq.fifo.filter p).length := by
      simpa only [← List.countP_eq_length_filter] using countP_set_of_eq p _ i _ _ h hp
    refine ⟨fun k => by simpa [FifoLaw] using k, fun k v => ?_, id, fun k => ⟨?_, fun b _ => ⟨a, d, ?_⟩⟩⟩
    · simp only [State.setSeq_lcq, State.setQueue_lcq, key _ (show FifoEntry.opens v _ = FifoEntry.opens v _ from rfl)]
      exact k v
    · simp only [passesQueued, State.setSeq_lcq, State.setQueue_lcq, key FifoEntry.isPass rfl]
      exact k.1
    · obtain ⟨hi, -⟩ := List.getElem?_eq_some_iff.1 h
      exact List.mem_set hi _
  · exact .refl s

theorem beginCommandSlot_kept : QueuesKept s (beginCommandSlot s) := by
  simp only [beginCommandSlot]
  have k := setSeq_kept s
    { s.seq with phase := .commands, position := s.seq.nextSlot, nextSlot := s.seq.nextSlot + 160 } fun _ => id
  split
  · exact k.trans (sendCommand_kept _ _ _)
  · exact k.trans (sendCommand_kept _ _ _)
  · exact k.trans (sendPass_kept _ _)
  · exact k

theorem commandLeaves_move {c : Scope} (v : Fin 32) (k : CommandKind) (hv : May c s v) : Move c s (commandLeaves v k s) := by
  cases k
  · exact dropOpen_move s v hv
  · exact setClose_move s v _ hv (.inl rfl)

/-- An entry with other marks, where it is the open of a valve. -/
def FifoEntry.remarked (v : Fin 32) (m : Marks) (e : FifoEntry) : FifoEntry := if e.opens v then .openValve v m else e

@[simp] theorem FifoEntry.remarked_opens (v w : Fin 32) (m : Marks) (e : FifoEntry) :
    (e.remarked v m).opens w = e.opens w := by
  unfold remarked
  cases e with
  | openValve x n => by_cases h : x = v <;> simp [h]
  | pass a d f => simp

@[simp] theorem FifoEntry.remarked_isPass (v : Fin 32) (m : Marks) (e : FifoEntry) : (e.remarked v m).isPass = e.isPass := by
  unfold remarked
  cases e with
  | openValve x n => by_cases h : x = v <;> simp [h]
  | pass a d f => simp

theorem FifoEntry.remarked_of_not (v : Fin 32) (m : Marks) {e : FifoEntry} (h : e.opens v = false) : e.remarked v m = e := by
  simp [remarked, h]

/-- Entries that are no opens of the valve are found again. -/
theorem filter_map_remarked (p : FifoEntry → Bool) (v : Fin 32) (m : Marks) (hp : ∀ e, p (e.remarked v m) = p e)
    (hv : ∀ e, p e = true → e.opens v = false) (es : List FifoEntry) :
    (es.map (FifoEntry.remarked v m)).filter p = es.filter p := by
  rw [List.filter_map, show p ∘ FifoEntry.remarked v m = p from funext hp]
  refine (List.map_congr_left fun e he => FifoEntry.remarked_of_not v m (hv e (List.mem_filter.1 he).2)).trans (List.map_id _)

/-- A valve's open rewritten with other marks. -/
theorem LineQueue.remark_move (v : Fin 32) (m : Marks) (q : LineQueue) :
    QueueMove v q { q with fifo := q.fifo.map (FifoEntry.remarked v m) } where
  clearOwed := rfl
  withdrawOwed := rfl
  length h := by simpa using h
  passes := filter_map_remarked _ v m (FifoEntry.remarked_isPass v m) (fun e h => by cases e <;> simp_all) _
  opens w hw := filter_map_remarked _ v m (FifoEntry.remarked_opens v w m)
    (fun e h => by cases e <;> simp_all) _
  closes _ _ := rfl
  waiting h := by
    simp only [LineQueue.waiting] at h ⊢
    rwa [length_filter_map_of_eq _ _ (FifoEntry.remarked_opens v v m)]

theorem commandStays_move {c : Scope} (v : Fin 32) (k : CommandKind) (hv : May c s v) : Move c s (commandStays v k s) := by
  cases k
  · exact .ofQueue v hv (s.lcq.remark_move v .tried) (fun _ _ => by simp [commandStays]) rfl rfl rfl rfl rfl ⟨rfl, id⟩
  · simp only [commandStays]
    split
    next h => exact setClose_move s v _ hv (.inr (.inl h))
    · exact .refl s

@[simp] theorem commandLeaves_valveLive (v : Fin 32) (k : CommandKind) : (commandLeaves v k s).valveLive = s.valveLive := by
  cases k <;> simp [commandLeaves]

@[simp] theorem commandStays_valveLive (v : Fin 32) (k : CommandKind) : (commandStays v k s).valveLive = s.valveLive := by
  cases k
  · rfl
  · simp only [commandStays]; split <;> rfl

/-- The transaction of a valve's command ends: the command leaves or stays, and Valve Control takes the outcome. -/
theorem commandEnds_move {c : Scope} (v : Fin 32) (k : CommandKind) (d a : Bool) (hv : c.valve v) :
    Move c (echoGood (s.setSeq { s.seq with tx := .idle })) (commandEnds v k d a s) := by
  simp only [commandEnds]
  split
  · exact .refl _
  · refine .trans ?_ (valveOutcome_move _ v k a (.inl hv))
    split
    · exact commandLeaves_move _ v k (.inl hv)
    · exact commandStays_move _ v k (.inl hv)

theorem echoGood_kept : QueuesKept s (echoGood s) := setSeq_kept s _ fun _ => id

theorem commandEnds_kept (v : Fin 32) (k : CommandKind) (d a : Bool) : QueuesKept s (commandEnds v k d a s) :=
  ((setTx_idle_kept s).trans (echoGood_kept _)).trans (commandEnds_move (c := .all) s v k d a trivial).kept

theorem passEnds_kept (a : Byte) (x : Option (List Byte)) (h : s.seq.tx = .pass a) : QueuesKept s (passEnds a x s) := by
  simp only [passEnds]
  split <;> exact passReplied_kept s a _ _ h rfl

theorem forwardReport_kept (n : Fin 48) (k : NodeKind) (p : List Byte) : QueuesKept s (forwardReport n k p s) := by
  simp only [forwardReport]
  split
  · split
    · exact (offerReport_kept s _).trans (setNodeLive_move (c := .all) _ n _ trivial).kept
    · exact offerReport_kept s _
  · exact .refl s

theorem pollResult_kept (n : Fin 48) (r : Option (NodeKind × List Byte)) : QueuesKept s (pollResult n r s) := by
  have hm : QueuesKept s (pollMiss n s) := (pollMiss_move (c := .all) s n trivial fun _ => trivial).kept
  unfold pollResult
  split
  · exact hm
  · split
    · exact ((pollHeard_move (c := .all) s n trivial fun _ => trivial).trans
        (consumeReport_move _ n _ _ fun _ => trivial)).kept.trans (forwardReport_kept _ n _ _)
    · exact hm

theorem pollDelivered_kept (n : Fin 48) (a : Byte) (r : Option (NodeKind × List Byte)) :
    QueuesKept s (pollDelivered n a r s) := by
  simp only [pollDelivered]
  split
  · split
    · exact pollResult_kept s n r
    · have h := (choose_move (c := .all) s (s.choice + 1)).kept
      split
      · exact h.trans (pollResult_kept _ n r)
      · exact h
  · exact .refl s

/-! ## Swaps and the end of a step -/

theorem onSlot_move {c : Scope} (f : EntryOp) (x : Slot) : Move c s (onSlot f x s) := by
  cases x <;> exact .aside rfl rfl rfl rfl rfl fun _ => .of_runs rfl

theorem judgeMeasure_move {c : Scope} : Move c s (judgeMeasure s) := .aside rfl rfl rfl rfl rfl fun _ => .of_runs rfl

theorem lineSwapped_move {c : Scope} : Move c s (lineSwapped s) := by
  simp only [lineSwapped]
  split
  · exact (judgeMeasure_move s).trans (.aside rfl rfl rfl rfl rfl fun _ => .of_runs rfl)
  · exact judgeMeasure_move s

theorem swapEffects_move {c : Scope} (x : Slot) (hv : ∀ v, c.valve v) (hn : ∀ n, c.node n) : Move c s (swapEffects x s) := by
  have h := onSlot_move (c := c) s ⟨Entry.swap⟩ x
  cases x with
  | node n => exact h.trans (nodeSwapped_move _ n _ _ (hn n) hv)
  | poll _ => exact h
  | valve v => exact h.trans (valveSwapped_move _ v _ _ hv)
  | bed b => exact (((accrue_move s b).trans (onSlot_move _ _ _)).trans (setBedLive_move _ b _)).trans (demandCheck_move _ b)
  | supply => exact h.trans (((setMonitor_move _ _).trans (setCondition_move _ _ _ hv)).trans (pass_move _))
  | line => exact h.trans (lineSwapped_move _)
  | weather => exact h.trans (weatherRecSwapped_move _ _ _)
  | drying => exact h.trans (recomputeRate_move _)
  | lock i => exact h.trans ((setLocks_move _ _).trans (recomputeLock_move _ hv))

theorem swapSlot_move {c : Scope} (x : Slot) (hv : ∀ v, c.valve v) (hn : ∀ n, c.node n) : Move c s (swapSlot x s) := by
  simp only [swapSlot]
  split
  · exact (swapEffects_move s x hv hn).trans (setFlag_move _ _)
  · exact swapEffects_move s x hv hn

theorem sweepTurn_kept : QueuesKept s (sweepTurn s) := by
  unfold sweepTurn
  split
  · exact (swapSlot_move (c := .all) s _ (fun _ => trivial) fun _ => trivial).kept
  · exact (setWork_move (c := .all) s _ (by simp [Scope.all])).kept

theorem settleTurns_kept (n : Nat) : QueuesKept s (settleTurns n s) := by
  induction n generalizing s with
  | zero => exact .refl s
  | succ n ih =>
    have hp (w : Work) : QueuesKept s (pass (s.setWork w)) := ((setWork_move (c := .all) s w (by simp [Scope.all])).trans (pass_move _)).kept
    unfold settleTurns
    split
    · exact (examineStop_kept s).trans (ih _)
    · split
      · exact (hp _).trans (ih _)
      · split
        · exact (sweepTurn_kept s).trans (ih _)
        · split
          · exact (hp _).trans (ih _)
          · exact .refl s

theorem judgeMv_move {c : Scope} : Move c s (judgeMv s) := .aside rfl rfl rfl rfl rfl fun _ => .of_runs rfl

theorem settle_kept : QueuesKept s (settle s) :=
  (settleTurns_kept s 1024).trans ((setWork_move (c := .all) _ _ (by simp [Scope.all])).trans (judgeMv_move _)).kept

end

end Sys2Proof.Machine
end

section
/-! SUPPORT and PROOF. What the Port's rules and every command keep of the queues, and with it the law of their sizes. -/

namespace Sys2Proof.Machine

section
variable (s : State)

/-! ## The port -/

/-- A report that departs leaves room that the oldest waiting PASS_REPLY takes (11 R184). -/
theorem HubPort.departReport_le (h : HubPort) (hr : h.reports ≠ []) :
    h.departReport.reports.length ≤ h.reports.length ∧ h.departReport.passWait.length ≤ h.passWait.length ∧
      h.departReport.requests = h.requests := by
  have := List.length_pos_iff.2 hr
  unfold departReport
  split
  · simp
  next w ws e => simp [e]; omega

theorem arbitrate_kept : QueuesKept s (arbitrate s) := by
  unfold arbitrate
  split
  · split
    · exact .of_eq rfl (fun _ => id) rfl rfl id
    · split
      · exact .of_eq rfl (fun _ => id) rfl rfl id
      · split
        · exact .refl s
        next f fs e =>
          obtain ⟨hr, hw, hq⟩ := s.hub.departReport_le (by simp [e])
          refine ⟨id, id, fun k => ⟨hr.trans k.1, ?_⟩, fun k => ⟨(Nat.add_le_add_left hw _).trans k.1, k.2⟩⟩
          exact (congrArg List.length hq).trans_le k.2
  · exact .refl s

theorem complete_kept : QueuesKept s (complete s) := (settle_kept s).trans (arbitrate_kept _)

theorem atHead_kept (f : HubFrame) : QueuesKept s (atHead f s) := by
  unfold atHead
  split
  · exact .of_eq rfl (fun _ => id) rfl rfl fun _ => by simp
  · exact .refl s

theorem putAnswer_kept (kind : Byte) (r : Result) (body : List Byte) : QueuesKept s (putAnswer kind r body s) :=
  .of_eq rfl (fun _ => id) rfl rfl id

theorem answerRuling_kept (kind : Byte) (r : Ruling) (h : QueuesKept s r.state) : QueuesKept s (answerRuling kind r) :=
  ((h.trans (settle_kept _)).trans (putAnswer_kept _ _ _ _)).trans (arbitrate_kept _)

theorem takeRequest_kept (kind : Byte) (lengths : Nat → Bool) (rule : List Byte → State → Ruling) (body : List Byte)
    (h : ∀ t, QueuesKept t (rule body t).state) : QueuesKept s (takeRequest kind lengths rule body s) := by
  simp only [takeRequest]
  split
  · refine (atHead_kept s { kind := kind, body := body }).trans (answerRuling_kept _ _ _ ?_)
    split
    · exact h _
    · exact .refl _
  · exact .refl s

theorem intake_kept (f : HubFrame) : QueuesKept s (intake f s) := by
  unfold intake
  split
  · exact .refl s
  · split
    · exact setFlag_kept s _
    next h => exact .of_eq rfl (fun _ => id) rfl rfl fun _ => by simp; omega

/-- The port changes beside its queues. -/
theorem setHub_kept (h : HubPort) (hr : h.reports = s.hub.reports) (hw : h.passWait = s.hub.passWait)
    (hq : s.hub.requests.length ≤ 4 → h.requests.length ≤ 4) : QueuesKept s (s.setHub h) := .of_eq rfl (fun _ => id) hr hw hq

theorem setFramer_kept (x : Framer) : QueuesKept s (s.setHub { s.hub with framer := x }) := setHub_kept s _ rfl rfl id

theorem framerByte_kept (b : Byte) : QueuesKept s (framerByte b s) := by
  unfold framerByte
  split
  · split
    · exact setFramer_kept s _
    · exact .refl s
  · split
    · exact setFramer_kept s _
    · exact setFramer_kept s _
  · dsimp only
    split
    · refine (setFramer_kept s .hunting).trans ?_
      simp only [checkFrame]
      split
      · exact intake_kept _ _
      · exact .refl _
    · exact setFramer_kept s _

/-- Every law of the queues holds at a reset. -/
theorem blocksReset_kept (now : Nat) (micros : Micros) (clock : Clock) : QueuesKept s (blocksReset now micros clock s) where
  fifo _ := by simp [FifoLaw, blocksReset, judgeMeasure, State.reset]
  one _ v := by simp [blocksReset, judgeMeasure, State.reset]
  port _ := by simp [PortLaw, blocksReset, judgeMeasure, State.reset]
  pass _ := by simp [PassLaw, passesQueued, blocksReset, judgeMeasure, State.reset]

/-! ## The rules of the requests -/

theorem seqRunRule_kept (body : List Byte) : QueuesKept s (seqRunRule body s).state := by
  unfold seqRunRule
  split
  iterate 2 exact enterRunning_kept s 0
  iterate 3 exact .refl s
  · exact setSeq_kept s _ fun _ => id
  · exact .refl s

theorem seqStopRule_kept (body : List Byte) : QueuesKept s (seqStopRule body s).state := by
  unfold seqStopRule
  split
  · exact enterStopping_kept s
  iterate 3 exact .refl s
  · exact quiet_kept s _
  · exact setSeq_kept s _ fun _ => id
  · exact .refl s

theorem seqStepRule_kept (body : List Byte) : QueuesKept s (seqStepRule body s).state := by
  unfold seqStepRule
  split
  · exact enterStep_kept s
  all_goals exact .refl s

theorem lineRestoreRule_kept (body : List Byte) : QueuesKept s (lineRestoreRule body s).state := by
  unfold lineRestoreRule
  split
  · exact restoreLine_kept s
  all_goals exact .refl s

theorem passRule_kept (body : List Byte) (h : passWaits s = false) : QueuesKept s (passRule body s).state := by
  simp only [passRule]
  split
  · exact .refl s
  · split
    · exact .refl s
    · split
      · exact .refl s
      next hf =>
        simp only [passWaits, decide_eq_false_iff_not, Nat.not_le] at h
        refine ⟨fun _ => ?_, fun k v => ?_, fun k => ?_, fun k => ⟨?_, fun a ha => ?_⟩⟩
        · simp only [FifoLaw, accept, setFifo_lcq, List.length_append, List.length_singleton]; omega
        · simpa [accept] using k v
        · simpa [PortLaw, accept] using k
        · simp only [passesQueued, accept, setFifo_lcq, setFifo_hub, List.filter_append, List.length_append] at h ⊢
          simp only [List.filter_cons_of_pos, FifoEntry.isPass_pass, List.filter_nil, List.length_singleton]
          omega
        · obtain ⟨b, d, hm⟩ := k.2 a (by simpa [accept] using ha)
          exact ⟨b, d, by simp [accept, hm]⟩

theorem windowCloses_move {c : Scope} (b : Fin 24) : Move c s (windowCloses b s) := by
  unfold windowCloses
  split
  · exact .refl s
  next r h =>
    split
    · exact .refl s
    · split
      next ho => exact putRun_move s _ fun _ _ => ⟨r, by rw [show r.bed = b from (findRun_mem s h).2]; exact h, ho⟩
      · exact dropRun_move s b

theorem setClock_move {c : Scope} (k : Clock) : Move c s { s with clock := k } := .aside rfl rfl rfl rfl rfl fun _ => .of_runs rfl

theorem timeSetRule_move {c : Scope} (body : List Byte) : Move c s (timeSetRule body s).state := by
  unfold timeSetRule
  split
  · exact .refl s
  · exact ((setClock_move s _).trans (forBeds_move _ _ fun b t => windowCloses_move t b)).trans (demandAll_move _)

theorem runStartRule_move {c : Scope} (body : List Byte) : Move c s (runStartRule body s).state := by
  have hc (t : State) (b : Fin 24) (v : Fin 32) (n : Nat) : Move c t (createRun (hubRun t b v n) t) :=
    createRun_move t _ (by simp [hubRun, newRun])
  simp only [runStartRule]
  split
  · exact .refl s
  · iterate 4
      split
      · exact .refl s
    split
    · exact .refl s
    · iterate 2
        split
        · exact .refl s
      split
      · split
        · exact accrue_move s _
        · exact (accrue_move s _).trans (hc _ _ _ _)
      · exact hc _ _ _ _

theorem runStopRule_move (body : List Byte) : Move .all s (runStopRule body s).state := by
  unfold runStopRule
  split
  · exact .refl s
  · split
    · exact .refl s
    · exact removeRun_move s _ fun _ => trivial

@[simp] theorem Run.adjust_bed (p k : Nat) (r : Run) : (r.adjust p k).bed = r.bed := by unfold Run.adjust; split <;> rfl
@[simp] theorem Run.adjust_state (p k : Nat) (r : Run) : (r.adjust p k).state = r.state := by
  unfold Run.adjust; split <;> rfl

theorem runAdjustRule_move {c : Scope} (body : List Byte) : Move c s (runAdjustRule body s).state := by
  unfold runAdjustRule
  split
  · exact .refl s
  · split
    · exact .refl s
    · split
      · exact .refl s
      next r h => exact putRun_move s _ fun _ ho => ⟨r, by simpa [(findRun_mem s h).2] using h, by simpa using ho⟩

theorem runListRule_state (body : List Byte) : (runListRule body s).state = s := by
  unfold runListRule
  split <;> rfl

theorem bedStateRule_move {c : Scope} (body : List Byte) : Move c s (bedStateRule body s).state := by
  unfold bedStateRule
  split
  · exact .refl s
  · split
    · exact .refl s
    · exact accrue_move s _

theorem valveModeRule_move (body : List Byte) : Move .all s (valveModeRule body s).state := by
  unfold valveModeRule
  split
  · exact .refl s
  · split
    · exact .refl s
    · iterate 2
        split
        · exact .refl s
      exact setValveMode_move s _ _ (.inl trivial) fun _ => trivial

theorem clearFlags_move {c : Scope} (x : BitVec 32) : Move c s (clearFlags x s) :=
  .aside rfl rfl rfl rfl rfl fun _ => .of_runs rfl

/-- Live states of valves and nodes may change as a whole. -/
theorem Move.of_lives {s t : State} (seq : t.seq = s.seq) (lcq : t.lcq = s.lcq) (hub : t.hub = s.hub)
    (runs : t.runs = s.runs) : Move .all s t where
  seq := by rw [seq]
  tx := .inl (by rw [seq])
  clearOwed := by rw [lcq]
  withdrawOwed := by rw [lcq]
  hub := hub
  length := by simp only [FifoLaw, lcq, imp_self]
  one := by simp only [OneCommandLaw, lcq, imp_self]
  passes := by rw [lcq]
  shrinks _ _ := by rw [lcq]
  valves _ h := absurd trivial h
  nodes _ h := absurd trivial h
  on _ := .of_runs runs
  owed h := absurd trivial h

theorem clearChanges_move : Move .all s (clearChanges s) := by
  apply Move.of_lives <;> simp only [clearChanges]

theorem clearLatches_move : Move .all s (clearLatches s) := by
  apply Move.of_lives <;> simp only [clearLatches]

theorem flagsClearRule_move (body : List Byte) : Move .all s (flagsClearRule body s).state := by
  have h1 (x : BitVec 32) : Move .all s (if namesFlag x .nodeChange then clearChanges (clearFlags x s) else clearFlags x s) := by
    split
    · exact (clearFlags_move s x).trans (clearChanges_move _)
    · exact clearFlags_move s x
  have h2 (x : BitVec 32) (t : State) (h : Move .all s t) :
      Move .all s (if namesFlag x .valveFault then clearLatches t else t) := by
    split
    · exact h.trans (clearLatches_move _)
    · exact h
  simp only [flagsClearRule]
  split
  · exact .refl s
  · dsimp only
    split
    · exact (h2 _ _ (h1 _)).trans (setCondition_move _ _ _ fun _ => trivial)
    · exact h2 _ _ (h1 _)

theorem resetPartRule_kept (body : List Byte) : QueuesKept s (resetPartRule body s).state := by
  unfold resetPartRule
  split
  iterate 3 exact .of_eq rfl (fun _ => id) rfl rfl id
  all_goals exact .refl s

theorem loadRecord_move {c : Scope} {t : State} (x : Slot) (bs : List Byte) (h : loadRecord x bs s = some t) : Move c s t := by
  cases x <;> obtain ⟨r, -, rfl⟩ := Option.map_eq_some_iff.1 h <;> exact .aside rfl rfl rfl rfl rfl fun _ => .of_runs rfl

theorem loadRule_move {c : Scope} (body : List Byte) : Move c s (loadRule body s).state := by
  unfold loadRule
  split
  · exact .refl s
  · split
    · exact .refl s
    · split
      · exact .refl s
      · split
        · exact .refl s
        next t h =>
          split
          · exact .refl s
          · exact loadRecord_move s _ _ h

theorem readRule_state (body : List Byte) : (readRule body s).state = s := by
  simp only [readRule]
  split
  · rfl
  · split
    · rfl
    · split
      · rfl
      · split
        · split <;> rfl
        · rfl

theorem firstSweep_move {c : Scope} (n : Nat) (hv : ∀ v, c.valve v) (hn : ∀ n, c.node n) : Move c s (firstSweep n s) := by
  induction n generalizing s with
  | zero => exact .refl s
  | succ n ih =>
    unfold firstSweep
    split
    · exact (swapSlot_move s _ hv hn).trans (ih _)
    · exact .refl s

theorem updateRule_move (body : List Byte) : Move .all s (updateRule body s).state := by
  simp only [updateRule]
  split
  · exact .refl s
  · split
    · exact .refl s
    · split
      · exact .refl s
      · split
        · exact .refl s
        · exact ((Move.foldl (fun t x => onSlot_move t _ x) _ s).trans (oweSweep_move _)).trans
            (firstSweep_move _ 145 (fun _ => trivial) fun _ => trivial)

theorem discardRule_move {c : Scope} (body : List Byte) : Move c s (discardRule body s).state := by
  unfold discardRule
  split
  · exact .refl s
  · exact .foldl (fun t x => onSlot_move t _ x) _ s

/-! ## The events -/

/-- What the queues see of an event that may not have occurred. -/
theorem kept_ite {p : Prop} [Decidable p] {s t u : State} (h : p → QueuesKept s t) (k : ¬ p → QueuesKept s u) :
    QueuesKept s (if p then t else u) := by
  split
  next x => exact h x
  next x => exact k x

theorem setMicros_move {c : Scope} (m : Micros) : Move c s (advance m s) := .aside rfl rfl rfl rfl rfl fun _ => .of_runs rfl

theorem judgeEdge_move {c : Scope} (x : InputId) : Move c s (judgeEdge x s) := by
  simp only [judgeEdge]
  split <;> exact setMonitor_move s _

/-- A flag set where a condition holds. -/
theorem setFlag_if_move {c : Scope} {s t : State} (b : Bool) (f : Flag) (h : Move c s t) :
    Move c s (if b then setFlag f t else t) := by
  split
  · exact h.trans (setFlag_move _ _)
  · exact h

theorem judgeWindow_move (w : WindowResult) : Move .all s (judgeWindow w s) := by
  simp only [judgeWindow]
  split
  · split
    · exact ((setFlag_if_move _ _ (setFlag_if_move _ _ (setMonitor_move s _))).trans (setFlag_move _ _)).trans
        (raiseSupply_move _ fun _ => trivial)
    · exact setFlag_if_move _ _ (setFlag_if_move _ _ (setMonitor_move s _))
  · exact setMonitor_move s _

theorem windowTransition_move {c : Scope} (old : Nat) (b : Fin 24) : Move c s (windowTransition old b s) := by
  unfold windowTransition
  split
  · exact demandCheck_move s b
  · split
    · exact windowCloses_move s b
    · exact .refl s

theorem completed_kept {t : State} (h : QueuesKept s t) : QueuesKept s (complete t) := h.trans (complete_kept t)

/-- No transmission begins by a move. -/
theorem Move.tx_idle {c : Scope} {s t : State} (h : Move c s t) (hs : s.seq.tx = .idle) : t.seq.tx = .idle := by
  rcases h.tx with e | ⟨_, _, _, _, _, e, _⟩
  · rw [e, hs]
  · rw [hs] at e; cases e

theorem not_pass_of_idle {x : Transmission} (h : x = .idle) (a : Byte) : x ≠ .pass a := by rw [h]; simp

/-- A PASS waits, or finds room (11 R182). -/
theorem takePass_kept (body : List Byte) :
    QueuesKept s (if passLength body.length && passWaits s then
      (if canTake { kind := 0x17, body := body } s then atHead { kind := 0x17, body := body } s else s)
     else takeRequest 0x17 passLength passRule body s) := by
  refine kept_ite (fun _ => kept_ite (fun _ => atHead_kept s _) fun _ => .refl s) fun h => ?_
  by_cases hc : canTake { kind := 0x17, body := body } s = true
  · by_cases hl : passLength body.length = true
    · rw [takeRequest_taken _ _ _ _ _ hc hl]
      refine (atHead_kept s _).trans (answerRuling_kept _ _ _ (passRule_kept _ body ?_))
      have hw : passWaits (atHead { kind := 0x17, body := body } s) = passWaits s := by unfold atHead; split <;> rfl
      rw [hw]
      simpa [hl] using h
    · rw [takeRequest_badLength _ _ _ _ _ hc (by simpa using hl)]
      exact (atHead_kept s _).trans (answerRuling_kept _ _ _ (.refl _))
  · rw [takeRequest_untaken _ _ _ _ _ (by simpa using hc)]
    exact .refl s

/-- A FIELD_REPORT offered leaves the sequencer alone. -/
@[simp] theorem offerReport_seq (f : HubFrame) : (offerReport f s).seq = s.seq := by unfold offerReport; split <;> rfl
@[simp] theorem offerPassReply_seq (f : HubFrame) : (offerPassReply f s).seq = s.seq := by rw [offerPassReply_eq]; rfl
@[simp] theorem dropPass_seq : (dropPass s).seq = s.seq := by rw [dropPass_eq, setFifo_seq]

@[simp] theorem forwardReport_seq (n : Fin 48) (k : NodeKind) (p : List Byte) : (forwardReport n k p s).seq = s.seq := by
  simp only [forwardReport]
  split
  · split <;> simp
  · rfl

/-- No transmission begins by a poll's outcome. -/
theorem pollResult_tx (n : Fin 48) (r : Option (NodeKind × List Byte)) (h : s.seq.tx = .idle) :
    (pollResult n r s).seq.tx = .idle := by
  have hm := (pollMiss_move (c := .all) s n trivial fun _ => trivial).tx_idle h
  unfold pollResult
  split
  · exact hm
  · split
    · rw [forwardReport_seq]
      exact ((pollHeard_move (c := .all) s n trivial fun _ => trivial).trans
        (consumeReport_move _ n _ _ fun _ => trivial)).tx_idle h
    · exact hm

theorem pollDelivered_tx (n : Fin 48) (x : Byte) (r : Option (NodeKind × List Byte)) (h : s.seq.tx = .idle) :
    (pollDelivered n x r s).seq.tx = .idle := by
  simp only [pollDelivered]
  split
  · split
    · exact pollResult_tx s n r h
    · split
      · exact pollResult_tx _ n r h
      · exact h
  · exact h

@[simp] theorem leaveFifo_seq (leaves : FifoEntry → Bool) (order : List HubFrame) (n : Nat) :
    (leaveFifo leaves order n s).seq = s.seq := by simp [leaveFifo]

theorem clearEntries_tx (leaves : FifoEntry → Bool) (h : s.seq.tx = .idle) : (clearEntries leaves s).seq.tx = .idle := by
  obtain ⟨order, n, -, he⟩ := clearEntries_eq leaves s
  rw [he]
  exact (withdrawOpens_move (c := .all) _ _ fun _ _ => trivial).tx_idle (by simpa using h)

theorem marksStop_tx (h : s.seq.tx = .idle) : (marksStop s).seq.tx = .idle := by
  simp only [marksStop]
  split
  · exact h
  · exact clearEntries_tx _ _ h

theorem halt_tx (h : s.seq.tx = .idle) : (halt s).seq.tx = .idle := by
  simp only [halt]
  refine marksStop_tx _ ?_
  split
  · exact (runningLeft_move (c := .all) _ fun _ => trivial).tx_idle h
  · exact h

theorem abandonTx_tx : (abandonTx s).seq.tx = .idle := by
  simp only [abandonTx]
  split <;> simp

theorem countMismatch_tx (h : s.seq.tx = .idle) : (countMismatch s).seq.tx = .idle := by
  simp only [countMismatch]
  split
  · exact halt_tx _ h
  · exact h

theorem pollEnded_kept (n : Fin 48) (a : Byte) (r : Option (NodeKind × List Byte)) :
    QueuesKept s (complete (payClearing s.seq.tx (pollDelivered n a r (echoGood (s.setSeq { s.seq with tx := .idle }))))) :=
  completed_kept s ((((setTx_idle_kept s).trans (echoGood_kept _)).trans (pollDelivered_kept _ n a r)).trans
    (payClearing_kept _ _ (not_pass_of_idle (pollDelivered_tx _ n a r rfl))))

theorem commandEnded_kept (v : Fin 32) (k : CommandKind) (d a : Bool) :
    QueuesKept s (complete (payClearing s.seq.tx (commandEnds v k d a s))) :=
  completed_kept s ((commandEnds_kept s v k d a).trans
    (payClearing_kept _ _ (not_pass_of_idle ((commandEnds_move (c := .all) s v k d a trivial).tx_idle rfl))))

theorem passEnds_tx (a : Byte) (x : Option (List Byte)) : (passEnds a x s).seq.tx = .idle := by
  simp only [passEnds]
  split <;> simp [echoGood]

theorem passEnded_kept (a : Byte) (x : Option (List Byte)) (h : s.seq.tx = .pass a) :
    QueuesKept s (complete (payClearing s.seq.tx (passEnds a x s))) :=
  completed_kept s ((passEnds_kept s a x h).trans (payClearing_kept _ _ (not_pass_of_idle (passEnds_tx s a x))))

theorem mismatch_kept : QueuesKept s (complete (payClearing s.seq.tx (countMismatch (abandonTx s)))) :=
  completed_kept s (((abandonTx_kept s).trans (countMismatch_kept _)).trans
    (payClearing_kept _ _ (not_pass_of_idle (countMismatch_tx _ (abandonTx_tx s)))))

/-- Every command keeps the laws of the queues. -/
theorem exec_kept (c : Instr) (t : State) (h : exec c s = .next t) : QueuesKept s t := by
  cases c <;> simp only [exec] at h
  case powerOnReset => cases h; exact (blocksReset_kept s _ _ _).trans (arbitrate_kept _)
  case receiveFrame b =>
    cases h
    exact kept_ite (fun _ => completed_kept s (framerByte_kept s b)) fun _ => .refl s
  case frameGapTimeout =>
    cases h
    split
    · exact .refl s
    · exact setFramer_kept s _
  case breakBegin => cases h; exact kept_ite (fun _ => .refl s) fun _ => .of_eq rfl (fun _ => id) rfl rfl id
  case breakEnd =>
    cases h
    exact kept_ite (fun _ => (setHub_kept s { s.hub with holdOff := false } rfl rfl id).trans (arbitrate_kept _)) fun _ => .refl s
  case load body => cases h; exact takeRequest_kept s _ _ _ _ fun t => (loadRule_move (c := .all) t body).kept
  case read body => cases h; exact takeRequest_kept s _ _ _ _ fun t => by rw [readRule_state]; exact .refl t
  case update body => cases h; exact takeRequest_kept s _ _ _ _ fun t => (updateRule_move t body).kept
  case discard body => cases h; exact takeRequest_kept s _ _ _ _ fun t => (discardRule_move (c := .all) t body).kept
  case seqRun body => cases h; exact takeRequest_kept s _ _ _ _ fun t => seqRunRule_kept t body
  case seqStop body => cases h; exact takeRequest_kept s _ _ _ _ fun t => seqStopRule_kept t body
  case seqStep body => cases h; exact takeRequest_kept s _ _ _ _ fun t => seqStepRule_kept t body
  case lineRestore body => cases h; exact takeRequest_kept s _ _ _ _ fun t => lineRestoreRule_kept t body
  case timeSet body => cases h; exact takeRequest_kept s _ _ _ _ fun t => (timeSetRule_move (c := .all) t body).kept
  case timeRead body => cases h; exact takeRequest_kept s _ _ _ _ fun t => .refl t
  case runStart body => cases h; exact takeRequest_kept s _ _ _ _ fun t => (runStartRule_move (c := .all) t body).kept
  case runStop body => cases h; exact takeRequest_kept s _ _ _ _ fun t => (runStopRule_move t body).kept
  case runStopAll body =>
    cases h
    exact takeRequest_kept s _ _ _ _ fun t => (Move.foldl (c := .all) (fun u b => removeRun_move u b fun _ => trivial) _ t).kept
  case runAdjust body => cases h; exact takeRequest_kept s _ _ _ _ fun t => (runAdjustRule_move (c := .all) t body).kept
  case runList body => cases h; exact takeRequest_kept s _ _ _ _ fun t => by rw [runListRule_state]; exact .refl t
  case bedState body => cases h; exact takeRequest_kept s _ _ _ _ fun t => (bedStateRule_move (c := .all) t body).kept
  case valveMode body => cases h; exact takeRequest_kept s _ _ _ _ fun t => (valveModeRule_move t body).kept
  case lockSet body =>
    cases h; exact takeRequest_kept s _ _ _ _ fun t => (setCondition_move (c := .all) t .hub true fun _ => trivial).kept
  case lockClear body =>
    cases h; exact takeRequest_kept s _ _ _ _ fun t => (setCondition_move (c := .all) t .hub false fun _ => trivial).kept
  case status body => cases h; exact takeRequest_kept s _ _ _ _ fun t => .refl t
  case flagsClear body => cases h; exact takeRequest_kept s _ _ _ _ fun t => (flagsClearRule_move t body).kept
  case noticeMask body =>
    cases h
    refine takeRequest_kept s _ _ _ _ fun t => ?_
    unfold noticeMaskRule
    split
    · exact .refl t
    · exact .of_lcq rfl (fun _ => id) rfl
  case pass body =>
    cases h
    exact takePass_kept s body
  case resetPart body => cases h; exact takeRequest_kept s _ _ _ _ fun t => resetPartRule_kept t body
  case unknownKind kind body =>
    cases h; exact kept_ite (fun _ => takeRequest_kept s _ _ _ _ fun t => .refl t) fun _ => .refl s
  case answerEnd =>
    cases h
    split
    · refine .trans ?_ (arbitrate_kept _)
      have k := setHub_kept s { s.hub with htx := .idle, requests := s.hub.requests.tail } rfl rfl fun k => by simp; omega
      exact kept_ite (fun _ => k.trans (blocksReset_kept _ _ _ _)) fun _ => k
    all_goals exact .refl s
  case upstreamFrameEnd =>
    cases h
    split
    iterate 2 exact (setHub_kept s { s.hub with htx := .idle } rfl rfl id).trans (arbitrate_kept _)
    all_goals exact .refl s
  case cycleMark =>
    cases h
    refine kept_ite (fun _ => completed_kept s ?_) fun _ => .refl s
    have k : QueuesKept s (sweepAtMark (settleMark s)) :=
      ((settleMark_kept s).trans (setWork_move (c := .all) _ _ (by simp [Scope.all])).kept).trans (settle_kept _)
    exact kept_ite (fun _ => (k.trans (clearAttempted_kept _)).trans (openCycle_kept _)) fun _ => k
  case pollPartStart =>
    cases h; exact kept_ite (fun _ => completed_kept s ((settleMark_kept s).trans (beginPolls_kept _))) fun _ => .refl s
  case pollSlotStart =>
    cases h
    refine kept_ite (fun _ => ?_) fun _ => .refl s
    split
    · exact .refl s
    · exact completed_kept s (beginPollSlot_kept s _ _)
  case commandSlotStart => cases h; exact kept_ite (fun _ => completed_kept s (beginCommandSlot_kept s)) fun _ => .refl s
  case pollOutcome r =>
    cases h
    split
    next n a e => exact pollEnded_kept s n a _
    all_goals exact .refl s
  case commandOutcome r =>
    cases h
    split
    next v k a o d e => exact commandEnded_kept s v k d _
    all_goals exact .refl s
  case passOutcome r =>
    cases h
    split
    next a e => exact passEnded_kept s a _ e
    all_goals exact .refl s
  case echoMismatch => cases h; exact kept_ite (fun _ => .refl s) fun _ => mismatch_kept s
  case stepEnd => cases h; exact kept_ite (fun _ => completed_kept s (enterStopped_kept s)) fun _ => .refl s
  case overcurrent => cases h; exact kept_ite (fun _ => completed_kept s (trip_kept s)) fun _ => .refl s
  case backoffExpiry => cases h; exact kept_ite (fun _ => completed_kept s (backoffEnds_kept s)) fun _ => .refl s
  case beaconSilenceExpiry => cases h; exact kept_ite (fun _ => completed_kept s (beaconExpires_kept s)) fun _ => .refl s
  case pulseExpiry b =>
    cases h
    exact kept_ite (fun _ => completed_kept s (pulseExpires_move (c := .all) s b fun _ => trivial).kept) fun _ => .refl s
  case soakExpiry b =>
    cases h; exact kept_ite (fun _ => completed_kept s (soakExpires_move (c := .all) s b).kept) fun _ => .refl s
  case evaluationExpiry b =>
    cases h
    exact kept_ite (fun _ => completed_kept s ((evaluate_move (c := .all) s b).trans (demandCheck_move _ b)).kept) fun _ => .refl s
  case weatherStalenessExpiry =>
    cases h
    exact kept_ite (fun _ => completed_kept s ((setFlag_move (c := .all) s _).trans (setWeather_move _ _)).kept) fun _ => .refl s
  case rainHoldExpiry =>
    cases h
    exact kept_ite (fun _ => completed_kept s
      ((setLocks_move (c := .all) s _).trans (setCondition_move _ _ _ fun _ => trivial)).kept) fun _ => .refl s
  case inputLevelChange a l =>
    cases h
    have k := setMicros_move (c := .all) s a.moment
    exact kept_ite (fun _ => k.kept) fun _ => (k.trans (setMonitor_move _ _)).kept
  case rainTip a =>
    cases h
    have k := setMicros_move (c := .all) s a.moment
    exact kept_ite (fun _ => completed_kept s ((k.trans (setMonitor_move _ _)).trans (localTip_move _ fun _ => trivial)).kept)
      fun _ => k.kept
  case contactStable a =>
    cases h
    have k := setMicros_move (c := .all) s a.moment
    exact kept_ite (fun _ => completed_kept s
      ((k.trans (setMonitor_move _ _)).trans (setCondition_move _ _ _ fun _ => trivial)).kept) fun _ => k.kept
  case flowEdge a =>
    cases h
    have k := setMicros_move (c := .all) s a.moment
    refine kept_ite (fun _ => ?_) fun _ => k.kept
    split
    · exact ((k.trans (setMonitor_move _ _)).trans (judgeEdge_move _ _)).kept
    · exact kept_ite (fun _ => (k.trans (judgeEdge_move _ _)).kept) fun _ => k.kept
  case flowWindowEnd =>
    cases h
    split
    · exact kept_ite (fun _ => completed_kept s ((judgeWindow_move s _).trans (setMonitor_move _ _)).kept) fun _ => .refl s
    · exact .refl s
  case minuteTransition =>
    cases h
    exact kept_ite (fun _ => completed_kept s ((setClock_move (c := .all) s _).trans
      (forBeds_move _ _ fun b t => windowTransition_move t _ b)).kept) fun _ => .refl s
  case hubByteReceived b e =>
    cases h
    exact kept_ite (fun _ => .refl s) fun _ => kept_ite (fun _ => setFramer_kept s _) fun _ =>
      completed_kept s (framerByte_kept s b)
  case sensedCurrentChange ma => cases h; exact .of_lcq rfl (fun _ => id) rfl

theorem tick_kept : QueuesKept s (tick s) := by
  simp only [tick]
  split
  · split <;> exact .of_lcq rfl (fun _ => id) rfl
  · exact .of_lcq rfl (fun _ => id) rfl

theorem idle_kept : QueuesKept s (idle s) := by
  simp only [idle]
  split
  · exact (arbitrate_kept s).trans (tick_kept _)
  · exact (arbitrate_kept s).trans (.of_lcq rfl (fun _ => id) rfl)

/-- Every step keeps the laws of the queues. -/
theorem step_kept {s t : State} (h : step s = .next t) : QueuesKept s t := by
  unfold step at h
  split at h
  · cases h; exact idle_kept s
  next c rest _ =>
    have k : QueuesKept s { s with pending := rest } := .of_lcq rfl (fun _ => id) rfl
    exact k.trans (exec_kept _ c t h)

end

/-- Settles O58: each operation keeps the four laws, so every command and every step does. -/
theorem stepKeepsTheQueuesBounded : Obligations.StepKeepsTheQueuesBounded := by
  intro s t h
  have k := step_kept h
  exact ⟨k.fifo, k.one, k.port, fun p => ⟨k.pass p, (Nat.le_add_left _ _).trans (k.pass p).1⟩⟩

end Sys2Proof.Machine
end

section
/-! SUPPORT and PROOF. The laws at reset, and the commands of the cycle that begin a transmission. -/
namespace Sys2Proof.Machine

theorem reset_masterValve : MasterValveLaw State.reset := by unfold MasterValveLaw; decide +kernel

theorem reset_tables : TableLaw State.reset := by unfold TableLaw; decide +kernel

theorem reset_noSwapDue : NoSwapDue State.reset := by
  intro x
  cases x with
  | lock i => fin_cases i <;> rfl
  | _ => simp [slotDue, State.reset, Entry.atReset]

theorem reset_staged : StagedLaw State.reset := by
  refine ⟨reset_tables, fun x h => ?_, ?_⟩
  · rw [reset_noSwapDue x] at h; cases h
  · rw [List.filter_eq_nil_iff.2 fun x _ => by rw [reset_noSwapDue x]; simp]
    rfl

theorem reset_lock : LockLaw State.reset := by unfold LockLaw; decide +kernel

theorem reset_watering : WateringLaw State.reset := by
  refine ⟨⟨?_, ?_, ?_, ?_⟩, ?_, ?_, ?_, ?_, ?_, ?_, ⟨?_, ?_⟩, reset_staged⟩
  all_goals
    simp [OwnerLaw, SoleOwnerLaw, SlotLaw, FlowLaw, QueueLaw, OnLaw, RunBedLaw, OneCommandLaw, OpenLaw, MarksLaw, State.reset,
      bedsOn, ValveLive.reset, LineQueue.openMarks, SeqState.marking]

/-- Settles O5: at reset the queues are empty, no valve moves and no entry is used. -/
theorem lawsHoldAtReset : Obligations.LawsHoldAtReset := by
  have hw := reset_watering
  obtain ⟨-, hq, ho, -, h1, -⟩ := reset_watering
  refine ⟨rfl, reset_masterValve, rfl, ?_, ?_, h1, ?_, hq, ?_, ?_, ?_, ?_, reset_lock, ho, ?_, reset_tables, ?_, hw,
    reset_noSwapDue⟩
  all_goals
    simp [MissLaw, FifoLaw, PortLaw, SectionLaw, SecondsLaw, BedRecordsLaw, BalanceLaw, DetachedLaw, PassLaw, passesQueued,
      State.reset, NodeLive.reset, ValveLive.reset, BedRec.reset, BedRec.bounded, Entry.atReset]

end Sys2Proof.Machine
end

section
/-! SUPPORT and PROOF. PASS joining the FIFO, and the poll part: its choice of polls and its slots (01 R4, R6, R18, 03 R43). -/
namespace Sys2Proof.Machine

section
variable (s : State)

/-- `Rested` looks at what is owed and at what MV follows. -/
theorem Rested.congr {s t : State} (h : Rested s) (work : t.work = s.work) (mv : t.mv = s.mv)
    (supplyRec : t.supplyRec = s.supplyRec) (locks : t.locks = s.locks) (valves : t.valves = s.valves)
    (live : t.valveLive = s.valveLive) : Rested t := by
  obtain ⟨hw, hm⟩ := h
  unfold WorkLaw MasterValveLaw mvWanted at *
  refine ⟨work.trans hw, ?_⟩
  unfold MasterValveLaw mvWanted
  rw [mv, supplyRec, locks, valves, live]
  exact hm

theorem Rested.setSeq {s : State} (h : Rested s) (q : Sequencer) : Rested (s.setSeq q) := h.congr rfl rfl rfl rfl rfl rfl
theorem Rested.setQueue {s : State} (h : Rested s) (q : LineQueue) : Rested (s.setQueue q) := h.congr rfl rfl rfl rfl rfl rfl
theorem Rested.setHub {s : State} (h : Rested s) (q : HubPort) : Rested (s.setHub q) := h.congr rfl rfl rfl rfl rfl rfl
theorem Rested.settleMark {s : State} (h : Rested s) : Rested (settleMark s) := by
  unfold Machine.settleMark
  split
  · exact (h.setSeq _).setSeq _
  · exact h

/-! ## PASS -/

/-- A FIFO that does not shrink leaves no entry free. -/
theorem setFifo_of_le (f : List FifoEntry) (h : s.lcq.fifo.length ≤ f.length) :
    setFifo f s = s.setQueue { s.lcq with fifo := f } := by
  simp only [setFifo]
  rw [if_neg]
  simp only [Bool.and_eq_true, decide_eq_true_eq, not_and, not_lt]
  exact h.trans'

@[simp] theorem byteOf_toNat (b : Byte) : byteOf b.toNat = b := by simp [byteOf]
@[simp] theorem get1_cons_zero (b : Byte) (bs : List Byte) : get1 (b :: bs) 0 = b.toNat := rfl

theorem atHead_setQueue (f : HubFrame) (q : LineQueue) : atHead f (s.setQueue q) = (atHead f s).setQueue q := by
  by_cases h : s.hub.requests.isEmpty = true
  · simp only [atHead, State.setQueue_hub, h, if_true]
    rfl
  · simp only [atHead, State.setQueue_hub, h]
    rfl

@[simp] theorem atHead_lcq (f : HubFrame) : (atHead f s).lcq = s.lcq := by unfold atHead; split <;> rfl
@[simp] theorem atHead_seq (f : HubFrame) : (atHead f s).seq = s.seq := by unfold atHead; split <;> rfl

/-- Settles O49: the Port's checks pass, and PASS's own rule judges address, state and room. -/
theorem passJoinsTheFifo : Obligations.PassJoinsTheFifo := by
  intro a data s hd ht hr hp
  have hl : passLength (a :: data).length = true := by simp [passLength]; omega
  have hw : passWaits s = false := by simpa [passWaits] using hp
  have hx : exec (.pass (a :: data)) s = .next (takeRequest 0x17 passLength passRule (a :: data) s) := by
    simp [exec, execPass, hw]
  have refused (r : Result) (h : passRule (a :: data) (atHead { kind := 0x17, body := a :: data } s) =
      refuse r (atHead { kind := 0x17, body := a :: data } s)) :
      exec (.pass (a :: data)) s = .next (answered 0x17 r [] (a :: data) s) := by
    rw [hx, takeRequest_refused _ _ _ _ _ r ht hl hr h]
  refine ⟨fun ha => refused _ ?_, fun h1 h2 => ?_⟩
  · rw [passRule, get1_cons_zero, if_pos (by omega)]
  · have hn : ¬ (a.toNat < 1 ∨ 250 < a.toNat) := by omega
    refine ⟨fun hm => refused _ ?_, fun hm hf => refused _ ?_, fun hm hf => ?_⟩
    · rw [passRule, get1_cons_zero, if_neg hn, if_pos (by simpa using hm)]
    · rw [passRule, get1_cons_zero, if_neg hn, if_neg (by simpa using hm), if_pos (by simpa using hf)]
    · rw [hx, takeRequest_taken _ _ _ _ _ ht hl, passRule, get1_cons_zero, if_neg hn, if_neg (by simpa using hm),
        if_neg (by simpa using hf), setFifo_of_le _ _ (by simp), answerRuling_rested]
      · simp [accept, answered, atHead_setQueue]
      · exact (atHead_rested s _ hr).setQueue _

/-! ## The poll part -/

/-- How far an index lies behind the roll-call pointer, wrapping from 47 to 0 (03 R43). -/
def pointerDistance (p m : Fin 48) : Nat := (m.val + 48 - p.val) % 48

theorem pointerDistance_add (p i : Fin 48) : pointerDistance p (i + p) = i.val := by
  simp only [pointerDistance, Fin.val_add]
  omega

theorem fromPointer_pairwise (p : Fin 48) : (fromPointer p).Pairwise fun m n => pointerDistance p m < pointerDistance p n := by
  rw [fromPointer, List.pairwise_map]
  exact (List.pairwise_lt_finRange 48).imp fun h => by
    rw [pointerDistance_add, pointerDistance_add]
    exact Fin.lt_def.1 h

theorem mem_fromPointer (p n : Fin 48) : n ∈ fromPointer p :=
  List.mem_map.2 ⟨n - p, List.mem_finRange _, sub_add_cancel n p⟩

/-- The used entries that are not PRESENT, in the order of their distance from the pointer. -/
def missingNodes : List (Fin 48) :=
  (fromPointer s.rollPtr).filter fun n => s.nodes[n].active.used && s.nodeLive[n].presence != .present

theorem mem_missingNodes (n : Fin 48) :
    n ∈ missingNodes s ↔ s.nodes[n].active.used = true ∧ s.nodeLive[n].presence ≠ .present := by
  simp [missingNodes, mem_fromPointer]

theorem missingNodes_pairwise :
    (missingNodes s).Pairwise fun m n => pointerDistance s.rollPtr m < pointerDistance s.rollPtr n :=
  (fromPointer_pairwise s.rollPtr).filter _

theorem rollCallChoice_eq : rollCallChoice s = (missingNodes s).take 4 := rfl

theorem rollCallChoice_setSeq (q : Sequencer) : rollCallChoice (s.setSeq q) = rollCallChoice s := rfl

theorem settleMark_quiet {s : State} (h : s.seq.tx = .idle ∨ s.seq.tx = .mark) :
    settleMark s = s.setSeq { s.seq with
      tx := .idle, echoFailures := if s.seq.tx = .mark then 0 else s.seq.echoFailures } := by
  unfold settleMark
  split
  next e => rfl
  next e =>
    have hi : s.seq.tx = .idle := h.resolve_right e
    simp only [State.setSeq, ← hi]

theorem lineQuiet_of {s : State} (h : s.seq.tx = .idle ∨ s.seq.tx = .mark) : lineQuiet s = true := by
  rcases h with h | h <;> simp [lineQuiet, h, Transmission.inTransaction]

theorem beginPolls_rested {s : State} (h : Rested s) : Rested (beginPolls s) := by
  simp only [beginPolls]
  split <;> exact h.congr rfl rfl rfl rfl rfl rfl

theorem beginPolls_scheduled {s : State} (h : s.seq.rollCycle = false) : beginPolls s = s.setSeq { s.seq with
    phase := .polling, position := 40, nextSlot := 40, toPoll := scheduledPolls s } := by
  simp [beginPolls, h]

/-- The roll-call pointer moves behind the last entry that a roll-call cycle polls (03 R43). -/
theorem beginPolls_rollCall {s : State} (h : s.seq.rollCycle = true) : beginPolls s = { s with
    seq := { s.seq with phase := .polling, position := 40, nextSlot := 40, toPoll := rollCallChoice s }
    rollPtr := match (rollCallChoice s).getLast? with | some n => n + 1 | none => s.rollPtr } := by
  simp only [beginPolls, h, if_true]
  cases (rollCallChoice s).getLast? <;> rfl

/-- Settles O24: at the part's start the mark counts as good and the polls are chosen; each slot sends the next one. -/
theorem pollPartSendsItsPolls : Obligations.PollPartSendsItsPolls := by
  refine ⟨fun s hm hp ht hr => ?_, fun n rest s hm hp ht hn hr => ?_, fun s => ?_⟩
  · have hx : exec .pollPartStart s = .next (complete (beginPolls (settleMark s))) := by
      simp [exec, execPollPartStart, hm, hp, lineQuiet_of ht]
    rw [hx, settleMark_quiet ht, complete_rested (beginPolls_rested (hr.setSeq _))]
    cases hc : s.seq.rollCycle
    · rw [beginPolls_scheduled (by exact hc)]
      rfl
    · rw [beginPolls_rollCall (by exact hc), rollCallChoice_setSeq]
      simp only [if_true]
      cases (rollCallChoice s).getLast? <;> rfl
  · have hx : exec .pollSlotStart s = .next (complete (beginPollSlot n rest s)) := by
      simp [exec, execPollSlotStart, hm, hp, ht, hn]
    rw [hx, complete_rested (show Rested (beginPollSlot n rest s) from hr.setSeq _)]
    rfl
  · have hp := missingNodes_pairwise s
    have hs := rollCallChoice_eq s
    have sub : (rollCallChoice s).Sublist (missingNodes s) := hs ▸ List.take_sublist _ _
    refine ⟨by rw [hs]; exact List.length_take_le _ _, ?_, hp.sublist sub, fun n h => (mem_missingNodes s n).1 (sub.mem h),
      fun hlen n hu hn => ?_, fun n hu hn hni m hm => ?_⟩
    · exact (hp.sublist sub).imp fun h e => by subst e; exact lt_irrefl _ h
    · have : (missingNodes s).length ≤ 4 := by rw [hs, List.length_take] at hlen; omega
      rw [hs, List.take_of_length_le this]
      exact (mem_missingNodes s n).2 ⟨hu, hn⟩
    · have hmem := (mem_missingNodes s n).2 ⟨hu, hn⟩
      rw [← List.take_append_drop 4 (missingNodes s)] at hmem hp
      rw [hs] at hni hm
      exact (List.pairwise_append.1 hp).2.2 m hm n ((List.mem_append.1 hmem).resolve_left hni)

end

end Sys2Proof.Machine
end

section
/-! SUPPORT and PROOF. The command slot: the arbiter's choice among closes and FIFO entries (01 R16). -/
namespace Sys2Proof.Machine

section
variable (s : State)

/-- An entry that the command slot's arbiter passes over in place, with `left` bit times remaining. -/
def FifoEntry.passedOver (left : Nat) : FifoEntry → Bool
  | .openValve _ m => m.attempted
  | .pass _ _ _ => decide (left < 360)

theorem fifoOccupant_skip (left : Nat) (pre post : List FifoEntry) (h : ∀ e ∈ pre, e.passedOver left = true) (i : Nat) :
    fifoOccupant left i (pre ++ post) = fifoOccupant left (i + pre.length) post := by
  induction pre generalizing i with
  | nil => rfl
  | cons e es ih =>
    obtain ⟨he, hes⟩ := List.forall_mem_cons.1 h
    have step : fifoOccupant left i (e :: (es ++ post)) = fifoOccupant left (i + 1) (es ++ post) := by
      cases e with
      | openValve v m => exact if_pos he
      | pass a d f => exact if_neg (by simpa [FifoEntry.passedOver] using he)
    rw [List.cons_append, step, ih hes, List.length_cons]
    congr 1
    omega

/-- A close waits for the valve and is not attempted in this cycle. -/
def closeRipe (v : Fin 32) : Bool :=
  match s.lcq.closes[v] with
  | some m => !m.attempted
  | none => false

/-- The statement's reading of `closeRipe`. -/
def Ripe (v : Fin 32) : Prop := ∃ m, s.lcq.closes[v] = some m ∧ m.attempted = false

theorem closeRipe_iff (v : Fin 32) : closeRipe s v = true ↔ Ripe s v := by
  unfold closeRipe Ripe
  cases s.lcq.closes[v] <;> simp

theorem occupant_eq : occupant s =
    match (List.finRange 32).find? (closeRipe s) with
    | some v => .closeOf v
    | none => fifoOccupant (remaining s) 0 s.lcq.fifo := rfl

theorem occupant_close {v : Fin 32} (hv : Ripe s v) (hw : ∀ w, w < v → ¬ Ripe s w) : occupant s = .closeOf v := by
  have hf : (List.finRange 32).find? (closeRipe s) = some v := by
    rw [List.find?_eq_some_iff_getElem]
    refine ⟨(closeRipe_iff s v).2 hv, v.val, by simp, by simp, fun j hj => ?_⟩
    simpa [← closeRipe_iff] using hw ⟨j, by omega⟩ hj
  rw [occupant_eq, hf]

theorem occupant_fifo (h : ∀ v, ¬ Ripe s v) : occupant s = fifoOccupant (remaining s) 0 s.lcq.fifo := by
  have hf : (List.finRange 32).find? (closeRipe s) = none :=
    List.find?_eq_none.2 fun v _ e => h v ((closeRipe_iff s v).1 e)
  rw [occupant_eq, hf]

theorem occupant_open {pre post : List FifoEntry} {v : Fin 32} {m : Marks} (h : ∀ v, ¬ Ripe s v)
    (hf : s.lcq.fifo = pre ++ .openValve v m :: post) (hp : ∀ e ∈ pre, e.passedOver (remaining s) = true)
    (hm : m.attempted = false) : occupant s = .openOf v := by
  rw [occupant_fifo s h, hf, fifoOccupant_skip _ _ _ hp, fifoOccupant, if_neg (by simp [hm])]

theorem occupant_pass {pre post : List FifoEntry} {a : Byte} {d : List Byte} {f : Bool} (h : ∀ v, ¬ Ripe s v)
    (hf : s.lcq.fifo = pre ++ .pass a d f :: post) (hp : ∀ e ∈ pre, e.passedOver (remaining s) = true)
    (hl : 360 ≤ remaining s) : occupant s = .passOf pre.length := by
  rw [occupant_fifo s h, hf, fifoOccupant_skip _ _ _ hp, fifoOccupant, if_pos hl, Nat.zero_add]

theorem occupant_nothing (h : ∀ v, ¬ Ripe s v) (hp : ∀ e ∈ s.lcq.fifo, e.passedOver (remaining s) = true) :
    occupant s = .nothing := by
  rw [occupant_fifo s h, ← List.append_nil s.lcq.fifo, fifoOccupant_skip _ _ _ hp, fifoOccupant]

/-- The state with which a command slot opens, before its occupant is sent (01 R5). -/
def slotOpened : State :=
  s.setSeq { s.seq with phase := .commands, position := s.seq.nextSlot, nextSlot := s.seq.nextSlot + 160 }

theorem slotOpened_rested {s : State} (h : Rested s) : Rested (slotOpened s) := h.setSeq _

theorem sendCommand_rested {s : State} (h : Rested s) (v : Fin 32) (k : CommandKind) : Rested (sendCommand v k s) :=
  h.setSeq _

theorem sendPass_at {pre post : List FifoEntry} {a : Byte} {d : List Byte} {f : Bool} (t : State)
    (hf : t.lcq.fifo = pre ++ .pass a d f :: post) : sendPass pre.length t =
      (t.setQueue { t.lcq with fifo := pre ++ .pass a d true :: post }).setSeq
        { t.seq with tx := .pass a, ltx := passFrame a d, nextSlot := t.seq.nextSlot + 160 } := by
  have hget : t.lcq.fifo[pre.length]? = some (.pass a d f) := by
    rw [hf, List.getElem?_append_right le_rfl, Nat.sub_self, List.getElem?_cons_zero]
  have hset (e : FifoEntry) : t.lcq.fifo.set pre.length e = pre ++ e :: post := by
    rw [hf, List.set_append_right _ _ le_rfl, Nat.sub_self, List.set_cons_zero]
  simp only [sendPass, hget, hset]

/-- SET_OUTPUT's command byte (12 R194). -/
def outputByte (output : Nat) (k : CommandKind) : Byte := byteOf (output % 4 + if k = .openValve then 128 else 0)

theorem outputByte_toNat (output : Nat) (k : CommandKind) :
    (outputByte output k).toNat = output % 4 + if k = .openValve then 128 else 0 := by
  have : output % 4 + (if k = .openValve then 128 else 0) < 256 := by split <;> omega
  rw [outputByte, byteOf, BitVec.toNat_ofNat, Nat.mod_eq_of_lt this]

theorem outputByte_output (output : Nat) (k : CommandKind) : (outputByte output k).toNat % 4 = output % 4 := by
  rw [outputByte_toNat]
  split <;> omega

theorem outputByte_open (output : Nat) (k : CommandKind) : 128 ≤ (outputByte output k).toNat ↔ k = .openValve := by
  rw [outputByte_toNat]
  split
  next h => simp [h]
  next h => simp only [h, iff_false]; omega

theorem decoderAddress_of {v : Fin 32} {n : Fin 48} (h : s.valves[v].active.decoder = n.val) :
    decoderAddress s v = byteOf s.nodes[n].active.address := by
  have hn : nodeRef s.valves[v].active.decoder = some n := by simp only [h, nodeRef, n.isLt, dite_true]
  simp only [decoderAddress, hn]

/-- Settles O25: the occupant is found by the closes first and by the FIFO's entries after them; each case sends its frame. -/
theorem commandSlotArbiterPicksTheOccupant : Obligations.CommandSlotArbiterPicksTheOccupant := by
  intro s hm ht hph hl hr
  have hd : commandSlotDue s = true := by
    have hleft : decide (200 ≤ remaining s) = true := decide_eq_true hl
    rcases hph with h | ⟨h, hp⟩
    · simp [commandSlotDue, hm, ht, h, hleft]
    · simp [commandSlotDue, hm, ht, h, hp, hleft]
  have hx : exec .commandSlotStart s = .next (complete (beginCommandSlot s)) := by
    simp only [exec, execCommandSlotStart, hd, if_true]
  have hsend (v : Fin 32) (k : CommandKind) (h : beginCommandSlot s = sendCommand v k (slotOpened s)) :
      exec .commandSlotStart s = .next (arbitrate (sendCommand v k (slotOpened s))) := by
    rw [hx, h, complete_rested (sendCommand_rested (slotOpened_rested hr) v k)]
  have hover (pre : List FifoEntry) (h : ∀ e ∈ pre, (match e with
      | .openValve _ m => m.attempted
      | .pass _ _ _ => decide (s.seq.cycleLength - s.seq.nextSlot < 360)) = true) :
      ∀ e ∈ pre, e.passedOver (remaining s) = true := fun e he => by
    have := h e he
    cases e <;> exact this
  refine ⟨fun v n => decoderAddress_of s, fun v hv hw => ?_, fun hn => ⟨fun pre v m post hf hp hma => ?_,
    fun pre a d f post hf hp h360 => ?_, fun hp => ?_⟩⟩
  · refine ⟨outputByte s.valves[v].active.output .closeValve, outputByte_output _ _, outputByte_open _ _, ?_⟩
    exact hsend v .closeValve (by rw [beginCommandSlot, occupant_close s hv hw]; rfl)
  · refine ⟨outputByte s.valves[v].active.output .openValve, outputByte_output _ _, outputByte_open _ _, ?_⟩
    exact hsend v .openValve (by rw [beginCommandSlot, occupant_open s hn hf (hover pre hp) hma]; rfl)
  · have hb : beginCommandSlot s = sendPass pre.length (slotOpened s) := by
      rw [beginCommandSlot, occupant_pass s hn hf (hover pre hp) h360]; rfl
    rw [hx, hb, sendPass_at (slotOpened s) hf,
      complete_rested (((slotOpened_rested hr).setQueue _).setSeq _)]
    rfl
  · have hb : beginCommandSlot s = slotOpened s := by
      rw [beginCommandSlot, occupant_nothing s hn (hover _ hp)]; rfl
    rw [hx, hb, complete_rested (slotOpened_rested hr)]
    rfl

end

end Sys2Proof.Machine
end

section
/-! SUPPORT. What is heard of a reply, and the frames accepted of it (01 R6 to R8). -/
namespace Sys2Proof.Machine

/-! ## The bytes received -/

/-- Byte `i` of those that follow a byte ending at `pos` comes in time and is complete by the slot's end. -/
def Fits (length pos : Nat) (rest : List (Nat × Byte)) (i : Nat) : Prop :=
  ∀ x, rest[i]? = some x → x.1 ≤ 10 ∧ pos + ((rest.take (i + 1)).map fun y => y.1 + 10).sum ≤ length

theorem fits_zero (length pos : Nat) (x : Nat × Byte) (rest : List (Nat × Byte)) :
    Fits length pos (x :: rest) 0 ↔ x.1 ≤ 10 ∧ pos + x.1 + 10 ≤ length := by
  simp [Fits, Nat.add_assoc]

theorem fits_succ (length pos : Nat) (x : Nat × Byte) (rest : List (Nat × Byte)) (i : Nat) :
    Fits length pos (x :: rest) (i + 1) ↔ Fits length (pos + x.1 + 10) rest i := by
  simp [Fits, Nat.add_assoc]

/-- `k` is how many of the bytes that follow are received: all before it fit, and it does not. -/
def Received (length pos : Nat) (rest : List (Nat × Byte)) (k : Nat) : Prop :=
  k ≤ rest.length ∧ (∀ i, i < k → Fits length pos rest i) ∧ (k < rest.length → ¬ Fits length pos rest k)

theorem Received.unique {length pos : Nat} {rest : List (Nat × Byte)} {k l : Nat} (hk : Received length pos rest k)
    (hl : Received length pos rest l) : k = l := by
  obtain ⟨hkl, hkf, hkn⟩ := hk
  obtain ⟨hll, hlf, hln⟩ := hl
  rcases lt_trichotomy k l with h | h | h
  · exact absurd (hlf k h) (hkn (by omega))
  · exact h
  · exact absurd (hkf l h) (hln (by omega))

theorem followers_received (length : Nat) (rest : List (Nat × Byte)) (pos : Nat) :
    ∃ k, Received length pos rest k ∧ followers length pos rest = (rest.take k).map (·.2) := by
  induction rest generalizing pos with
  | nil => exact ⟨0, ⟨le_rfl, by omega, by simp⟩, rfl⟩
  | cons x rest ih =>
    by_cases h : x.1 ≤ 10 ∧ pos + x.1 + 10 ≤ length
    · obtain ⟨k, ⟨hk, hf, hn⟩, he⟩ := ih (pos + x.1 + 10)
      refine ⟨k + 1, ⟨by simpa using hk, fun i hi => ?_, fun hlt => ?_⟩, ?_⟩
      · cases i with
        | zero => exact (fits_zero ..).2 h
        | succ i => exact (fits_succ ..).2 (hf i (by omega))
      · rw [fits_succ]
        exact hn (by simpa using hlt)
      · rw [followers, if_pos (by simpa using h), he]
        rfl
    · refine ⟨0, ⟨by simp, by omega, fun _ => by rwa [fits_zero]⟩, ?_⟩
      rw [followers, if_neg (by simpa using h)]
      rfl

theorem heard_iff (t : SlotTiming) (r : Reply) (bs : List Byte) :
    heard t r = some bs ↔ Heard t.opens t.closes t.length r bs := by
  constructor
  · intro h
    unfold heard at h
    split at h
    · cases h
    · cases h
    next start b rest =>
      split at h
      next hw =>
        simp only [Bool.and_eq_true, decide_eq_true_eq] at hw
        obtain ⟨⟨hopen, hclose⟩, hlen⟩ := hw
        obtain ⟨k, ⟨hk, hf, hn⟩, he⟩ := followers_received t.length rest (start + 10)
        rw [he] at h
        exact ⟨start, b, rest, k, rfl, hopen, hclose, hlen, hk, (Option.some.inj h).symm, hf, hn⟩
      next => cases h
  · rintro ⟨start, b, rest, k, rfl, hopen, hclose, hlen, hk, rfl, hf, hn⟩
    obtain ⟨l, hl, he⟩ := followers_received t.length rest (start + 10)
    have hkl : k = l := Received.unique ⟨hk, hf, hn⟩ hl
    simp [heard, hopen, hclose, hlen, he, hkl]

/-! ## Frames -/

theorem goodFrame_iff (n : Nat) (bs f : List Byte) : goodFrame n bs = some f ↔ f.length + 1 = n ∧ StartsWith f bs := by
  constructor
  · intro h
    simp only [goodFrame] at h
    split at h
    next hc =>
      simp only [Bool.and_eq_true, decide_eq_true_eq, beq_iff_eq] at hc
      obtain ⟨⟨hlen, hpos⟩, hcrc⟩ := hc
      have hf : (bs.take n).dropLast = f := Option.some.inj h
      have hne : bs.take n ≠ [] := by
        intro e
        rw [e] at hlen
        exact absurd hlen.symm (by simp; omega)
      have hlast : (bs.take n).getLast hne = crc8 f := by
        rw [← hf, hcrc, List.getLastD_eq_getLast?, List.getLast?_eq_getLast_of_ne_nil hne, Option.getD_some]
      refine ⟨by rw [← hf, List.length_dropLast, hlen]; omega, ?_⟩
      have : f ++ [crc8 f] = bs.take n := by rw [← hf, ← List.dropLast_append_getLast hne, hlast, hf]; simp
      rw [StartsWith, this]
      exact List.take_prefix _ _
    next => cases h
  · rintro ⟨rfl, h⟩
    have ht : bs.take (f.length + 1) = f ++ [crc8 f] := by
      rw [List.prefix_iff_eq_take.1 h]; simp
    simp [goodFrame, ht]

theorem StartsWith.head {b : Byte} {f bs : List Byte} (h : StartsWith (b :: f) bs) : get1 bs 0 = b.toNat := by
  obtain ⟨post, rfl⟩ := h
  rfl

theorem reportLength_eq (k : NodeKind) (h : k ≠ .unused) (n : Nat) : n + 3 = reportLength k ↔
    n = (match k with | .valveDecoder => 1 | .soilProbe => 2 | .weather => 6 | .other => 4 | .unused => 0) := by
  cases k <;> simp [reportLength] at h ⊢

theorem ofCode_code (k : NodeKind) : NodeKind.ofCode k.code = some k := by cases k <;> rfl

theorem code_of_ofCode {n : Nat} {k : NodeKind} (h : NodeKind.ofCode n = some k) : n = k.code := by
  unfold NodeKind.ofCode at h
  split at h <;> cases h <;> rfl

theorem byteOf_toNat_of_lt {n : Nat} (h : n < 256) : (byteOf n).toNat = n := by
  rw [byteOf, BitVec.toNat_ofNat, Nat.mod_eq_of_lt h]

theorem code_lt (k : NodeKind) : k.code < 16 := by cases k <;> decide

theorem eq_cons_cons {f : List Byte} (h : 2 ≤ f.length) : f = f.getD 0 0 :: f.getD 1 0 :: f.drop 2 := by
  match f, h with
  | _ :: _ :: _, _ => rfl

theorem acceptReport_iff (a : Byte) (t : SlotTiming) (r : Reply) (k : NodeKind) (payload : List Byte) :
    acceptReport a t r = some (k, payload) ↔ ∃ bs, heard t r = some bs ∧ k ≠ .unused ∧
      payload.length + 3 = reportLength k ∧ StartsWith (byteOf (0x50 + k.code) :: a :: payload) bs := by
  constructor
  · intro h
    unfold acceptReport at h
    split at h
    · cases h
    next bs hb =>
      simp only at h
      split at h
      · cases h
      next h5 =>
        split at h
        · cases h
        · cases h
        next k' hk hk' =>
          split at h
          · cases h
          next f hf =>
            split at h
            next ha =>
              obtain ⟨rfl, rfl⟩ := Prod.mk.inj (Option.some.inj h)
              obtain ⟨hl, hs⟩ := (goodFrame_iff _ _ _).1 hf
              have h2 : 2 ≤ f.length := by
                have : k' ≠ .unused := hk
                cases k' <;> simp [reportLength] at hl this ⊢ <;> omega
              have hcons := eq_cons_cons h2
              have hhead : get1 bs 0 = (f.getD 0 0).toNat := by
                rw [hcons] at hs
                exact hs.head
              have hcode := code_of_ofCode hk'
              have h0 : f.getD 0 0 = byteOf (0x50 + k'.code) := by
                rw [← hcode, ← byteOf_toNat (f.getD 0 0), ← hhead]
                congr 1
                simp only [bne_iff_ne, ne_eq, not_not] at h5
                omega
              refine ⟨bs, hb, hk, by rw [← hl, List.length_drop]; omega, ?_⟩
              rw [← h0, ← eq_of_beq ha, ← hcons]
              exact hs
            next => cases h
  · rintro ⟨bs, hb, hk, hl, hs⟩
    have hhead : get1 bs 0 = 0x50 + k.code := by
      rw [hs.head, byteOf_toNat_of_lt (by have := code_lt k; omega)]
    have hg : goodFrame (reportLength k) bs = some (byteOf (0x50 + k.code) :: a :: payload) :=
      (goodFrame_iff _ _ _).2 ⟨by simpa using hl, hs⟩
    have hm : (0x50 + k.code) / 16 = 5 ∧ (0x50 + k.code) % 16 = k.code := by
      have := code_lt k
      omega
    simp only [acceptReport, hb, hhead, hm, ofCode_code]
    cases k with
    | unused => exact absurd rfl hk
    | valveDecoder | soilProbe | weather | other => simp [hg]

theorem acceptReport_iff_heard (a : Byte) (w : Nat) (r : Reply) (k : NodeKind) (payload : List Byte) :
    acceptReport a (singleSlot 30 w) r = some (k, payload) ↔ ReportHeard a w r k payload := by
  rw [acceptReport_iff]
  refine exists_congr fun bs => and_congr (heard_iff _ _ _) (and_congr_right fun hk => ?_)
  rw [reportLength_eq k hk]
  cases k <;> rfl

theorem acceptAck_iff_heard (a : Byte) (o : Nat) (k : CommandKind) (w : Nat) (r : Reply) :
    acceptAck a o k (singleSlot 40 w) r = true ↔ AckHeard a o k w r := by
  unfold AckHeard acceptAck
  simp only [show ∀ bs, Heard 40 (40 + w) 160 r bs ↔ heard (singleSlot 40 w) r = some bs from
    fun bs => (heard_iff (singleSlot 40 w) r bs).symm]
  cases heard (singleSlot 40 w) r with
  | none => simp
  | some bs =>
    simp only [Option.some.injEq, exists_and_left, exists_eq_left']
    have hstart (st : Byte) : StartsWith [0x60, a, st] bs ↔ goodFrame 4 bs = some [0x60, a, st] := by
      rw [goodFrame_iff]; simp
    simp only [hstart]
    cases hg : goodFrame 4 bs with
    | none => simp
    | some f =>
      have hl : f.length = 3 := by have := ((goodFrame_iff _ _ _).1 hg).1; omega
      obtain ⟨x, y, z, rfl⟩ := List.length_eq_three.1 hl
      have hopen : (outputOpen z.toNat o == (k == .openValve)) = true ↔
          (z.toNat / 2 ^ (o - 1) % 2 = 1 ↔ k = .openValve) := by
        rw [beq_iff_eq, outputOpen, Bool.eq_iff_iff, beq_iff_eq, beq_iff_eq]
      have hthird : get1 [x, y, z] 2 = z.toNat := rfl
      simp only [hthird, Bool.and_eq_true, hopen, List.getD_cons_zero, List.getD_cons_succ, beq_iff_eq,
        Option.some.injEq, List.cons.injEq, and_true]
      constructor
      · rintro ⟨⟨rfl, rfl⟩, h⟩
        exact ⟨z, ⟨rfl, rfl, rfl⟩, h⟩
      · rintro ⟨st, ⟨rfl, rfl, rfl⟩, h⟩
        exact ⟨⟨rfl, rfl⟩, h⟩

theorem acceptPassAnswer_iff_heard (a : Byte) (sent w : Nat) (r : Reply) (bytes : List Byte) :
    acceptPassAnswer a (doubleSlot sent w) r = some bytes ↔ PassAnswerHeard a sent w r bytes := by
  unfold PassAnswerHeard
  simp only [show ∀ bs, Heard sent (90 + w) 320 r bs ↔ heard (doubleSlot sent w) r = some bs from
    fun bs => (heard_iff (doubleSlot sent w) r bs).symm]
  constructor
  · intro h
    unfold acceptPassAnswer at h
    split at h
    · cases h
    next bs hb =>
      simp only at h
      split at h
      · cases h
      next h7 =>
        simp only [Bool.or_eq_true, bne_iff_ne, ne_eq, decide_eq_true_eq, not_or, not_not, not_lt] at h7
        split at h
        · cases h
        next f hf =>
          split at h
          next ha =>
            obtain ⟨hl, hs⟩ := (goodFrame_iff _ _ _).1 hf
            have hcons := eq_cons_cons (f := f) (by omega)
            have hhead : get1 bs 0 = (f.getD 0 0).toNat := by
              rw [hcons] at hs
              exact hs.head
            obtain rfl := Option.some.inj h
            have hlen : (f.drop 2).length = get1 bs 0 % 16 := by rw [List.length_drop]; omega
            have h0 : f.getD 0 0 = byteOf (0x70 + (f.drop 2).length) := by
              rw [hlen, ← byteOf_toNat (f.getD 0 0), ← hhead]
              congr 1
              omega
            refine ⟨bs, hb, by omega, ?_⟩
            rw [← h0, ← eq_of_beq ha, ← hcons]
            exact hs
          next => cases h
  · rintro ⟨bs, hb, hl, hs⟩
    have hhead : get1 bs 0 = 0x70 + bytes.length := by rw [hs.head, byteOf_toNat_of_lt (by omega)]
    have hm : (0x70 + bytes.length) / 16 = 7 ∧ (0x70 + bytes.length) % 16 = bytes.length := by omega
    have hg : goodFrame (3 + bytes.length) bs = some (byteOf (0x70 + bytes.length) :: a :: bytes) :=
      (goodFrame_iff _ _ _).2 ⟨by simp; omega, hs⟩
    simp only [acceptPassAnswer, hb, hhead, hm, hg]
    simp [hl]

end Sys2Proof.Machine
end

section
/-! SUPPORT. The end of a step where the Sequencer is not RUNNING or no entry is SWAP_DUE, what the sensing side keeps
through it, and the upstream arbiter's choice. -/
namespace Sys2Proof.Machine

section
variable (s : State)

/-! ## The upstream arbiter -/

@[simp] theorem arbitrate_runs : (arbitrate s).runs = s.runs := by rw [arbitrate_eq]
@[simp] theorem arbitrate_valveLive : (arbitrate s).valveLive = s.valveLive := by rw [arbitrate_eq]
@[simp] theorem arbitrate_nodeLive : (arbitrate s).nodeLive = s.nodeLive := by rw [arbitrate_eq]
@[simp] theorem arbitrate_probes : (arbitrate s).probes = s.probes := by rw [arbitrate_eq]
@[simp] theorem arbitrate_weather : (arbitrate s).weather = s.weather := by rw [arbitrate_eq]
@[simp] theorem arbitrate_locks : (arbitrate s).locks = s.locks := by rw [arbitrate_eq]
@[simp] theorem arbitrate_lcq : (arbitrate s).lcq = s.lcq := by rw [arbitrate_eq]
@[simp] theorem arbitrate_seq : (arbitrate s).seq = s.seq := by rw [arbitrate_eq]
@[simp] theorem arbitrate_lpwr : (arbitrate s).lpwr = s.lpwr := by rw [arbitrate_eq]
@[simp] theorem arbitrate_beacon : (arbitrate s).beacon = s.beacon := by rw [arbitrate_eq]
@[simp] theorem arbitrate_isSet (f : Flag) : (arbitrate s).notice.isSet f = s.notice.isSet f := by rw [arbitrate_eq]; rfl

/-- The arbiter moves reports on, in order, and loses none (11 R184). -/
@[simp] theorem reportsHeld_arbitrate : reportsHeld (arbitrate s) = reportsHeld s := by
  unfold arbitrate
  split
  next h =>
    have hidle := h.1
    split
    · simp [reportsHeld, HubPort.send, hidle]
    · split
      · simp [reportsHeld, HubPort.send, hidle]
      · split
        · rfl
        next f fs hr =>
          cases hw : s.hub.passWait <;> simp [reportsHeld, HubPort.send, HubPort.departReport, hidle, hr, hw]
  · rfl

/-! ## Nothing is sensed -/

/-- The Node Table, the Reading Translator and the Weather Unit stand as they were, and so does what was handed of T and
V. -/
structure SensorsKept (s t : State) : Prop where
  nodeLive : t.nodeLive = s.nodeLive
  probes : t.probes = s.probes
  weather : t.weather = s.weather
  handed : t.locks.handed = s.locks.handed

namespace SensorsKept
variable {s t u : State}

theorem refl (s : State) : SensorsKept s s := ⟨rfl, rfl, rfl, rfl⟩

theorem trans (h : SensorsKept s t) (k : SensorsKept t u) : SensorsKept s u :=
  ⟨k.nodeLive.trans h.nodeLive, k.probes.trans h.probes, k.weather.trans h.weather, k.handed.trans h.handed⟩

theorem of_water (h : WaterFrame s t) : SensorsKept s t := ⟨h.nodeLive, h.probes, h.weather, by rw [h.locks]⟩

end SensorsKept

theorem clearEntries_sensors (leaves : FifoEntry → Bool) : SensorsKept s (clearEntries leaves s) := by
  obtain ⟨order, n, -, h⟩ := clearEntries_eq leaves s
  rw [h]
  have hl : SensorsKept s (leaveFifo leaves order n s) :=
    (SensorsKept.of_water (setFifo_frame s _)).trans ⟨rfl, rfl, rfl, rfl⟩
  refine hl.trans (.of_water (WaterFrame.foldl (fun t v => ?_) _ _))
  split
  · exact openWithdrawn_frame t v _
  · exact .refl t

theorem clearFifo_sensors : SensorsKept s (clearFifo s) :=
  (SensorsKept.of_water (setQueue_frame s _)).trans (clearEntries_sensors _ _)

theorem clearFlown_sensors (v : Fin 32) : SensorsKept s (clearFlown v s) := clearEntries_sensors s _

theorem payClearing_sensors (tx : Transmission) : SensorsKept s (payClearing tx s) := by
  simp only [payClearing]
  split
  · exact clearFifo_sensors s
  · split
    · split
      · exact (SensorsKept.of_water (setQueue_frame s _)).trans (clearFlown_sensors _ _)
      · exact .of_water (setQueue_frame s _)
    · exact .refl s

theorem quiet_sensors (q : SeqState) : SensorsKept s (quiet q s) := ⟨rfl, rfl, rfl, rfl⟩

theorem marksStop_sensors : SensorsKept s (marksStop s) := by
  have h : SensorsKept s { s with beacon := some (s.partTime + 10) } := ⟨rfl, rfl, rfl, rfl⟩
  simp only [marksStop]
  split
  · exact h.trans (.of_water (setQueue_frame _ _))
  · exact h.trans (clearFifo_sensors _)

theorem enterStopped_sensors : SensorsKept s (enterStopped s) := by
  have h := quiet_sensors s .stopped
  simp only [enterStopped]
  split
  · exact h.trans ((SensorsKept.of_water (setTx_frame _ .idle)).trans (marksStop_sensors _))
  · exact h.trans (marksStop_sensors _)

theorem examineStop_sensors : SensorsKept s (examineStop s) := by
  simp only [examineStop]
  split
  · exact (SensorsKept.of_water (setWork_frame s _)).trans (enterStopped_sensors _)
  · exact .of_water (setWork_frame s _)

theorem examineStop_line : LineFrame s (examineStop s) := by
  simp only [examineStop]
  split
  · exact (setWork_frame s _).field.line.trans (enterStopped_line _)
  · exact (setWork_frame s _).field.line

/-! ## The end of a step -/

theorem sweepTurn_idle {s : State} (h : NoSwapDue s) : sweepTurn s = s.setWork { s.work with sweep := false } := by
  simp only [sweepTurn, readyHead_none h]

/-- With no entry SWAP_DUE the turns at a step's end are examinations of STOPPING and grant passes. -/
theorem settleTurns_induction {P : State → Prop}
    (examine : ∀ t, NoSwapDue t → P t → P (examineStop t)) (grants : ∀ t, NoSwapDue t → P t → P (pass t))
    (work : ∀ t w, P t → P (t.setWork w)) (n : Nat) {s : State} (hd : NoSwapDue s) (h : P s) : P (settleTurns n s) := by
  induction n generalizing s with
  | zero => exact h
  | succ n ih =>
    have hw (w : Work) : NoSwapDue (s.setWork w) := (setWork_frame s w).field.line.noSwapDue hd
    have hp (w : Work) : P (settleTurns n (pass (s.setWork w))) :=
      ih ((pass_frame _).field.line.noSwapDue (hw w)) (grants _ (hw w) (work _ w h))
    unfold settleTurns
    split
    · exact ih ((examineStop_line s).noSwapDue hd) (examine s hd h)
    · split
      · exact hp _
      · split
        · rw [sweepTurn_idle hd]
          exact ih (hw _) (work _ _ h)
        · split
          · exact hp _
          · exact h

theorem settle_sensors {s : State} (hd : NoSwapDue s) : SensorsKept s (settle s) := by
  have h : SensorsKept s (settleTurns 1024 s) :=
    settleTurns_induction (P := SensorsKept s) (fun t _ h => h.trans (examineStop_sensors t))
      (fun t _ h => h.trans (.of_water (pass_frame t))) (fun t w h => h.trans (.of_water (setWork_frame t w))) 1024 hd
      (.refl s)
  exact h.trans ⟨rfl, rfl, rfl, rfl⟩

theorem examineStop_idle {s : State} (h : s.seq.state ≠ .stopping) : examineStop s = s.setWork { s.work with stop := false } := by
  simp only [examineStop]
  exact if_neg fun k => h k.1

/-- Outside RUNNING no grant pass moves anything. -/
theorem pass_idle {s : State} (h : s.seq.state ≠ .running) : pass s = s := by
  have hg : grantPass s = s := by simp [grantPass, passOpen, h]
  simp [pass, hg]

/-- Outside STOPPING with no entry SWAP_DUE, the end of a step moves no more than grant passes do. -/
theorem settle_move {s : State} (hd : NoSwapDue s) (hs : s.seq.state ≠ .stopping) : Move .none s (settle s) := by
  have h : Move .none s (settleTurns 1024 s) := by
    refine settleTurns_induction (P := Move .none s) (fun t _ h => ?_) (fun t _ h => h.trans (pass_move t))
      (fun t w h => h.trans (setWork_move t w (by simp [Scope.none]))) 1024 hd (.refl s)
    rw [examineStop_idle (by rwa [h.seqState])]
    exact h.trans (setWork_move t _ (by simp [Scope.none]))
  exact h.trans ((setWork_move _ _ (by simp [Scope.none])).trans (judgeMv_move _))

/-- With neither grants nor an entry of STOPPED nor swaps to come, the end of a step drops what it owes and judges MV. -/
theorem settle_still {s : State} (hd : NoSwapDue s) (hr : s.seq.state ≠ .running) (hs : s.seq.state ≠ .stopping) :
    settle s = judgeMv (s.setWork { pass := false, free := false, sweep := false, stop := false, mark := false }) := by
  have h : ∃ w, settleTurns 1024 s = s.setWork w := by
    refine settleTurns_induction (P := fun t => ∃ w, t = s.setWork w) ?_ ?_ ?_ 1024 hd ⟨s.work, rfl⟩
    · rintro _ - ⟨w, rfl⟩
      exact ⟨_, examineStop_idle hs⟩
    · rintro _ - ⟨w, rfl⟩
      exact ⟨w, pass_idle hr⟩
    · rintro _ w ⟨_, rfl⟩
      exact ⟨w, rfl⟩
  obtain ⟨w, hw⟩ := h
  simp only [settle, hw]
  rfl

/-- What a water move may change, a request's or event's statement lets change, MV judged at the end included. -/
theorem WaterFrame.onlyWater {s t : State} (h : WaterFrame s t) : OnlyWaterChanges s (judgeMv t) := by
  obtain ⟨h1, h2, h3, h4, h5, h6, h7, h8, h9, h10, h11, h12, h13, h14, h15, h16, h17, h18, h19, h20, h21, h22, h23, h24,
    -, -⟩ := h
  cases t
  cases s
  simp only at *
  subst h1 h2 h3 h5 h6 h7 h8 h9 h10 h11 h12 h13 h14 h15 h16 h17 h19 h20 h21 h22 h23 h24
  simp only [OnlyWaterChanges, judgeMv]
  rw [h4]

end

end Sys2Proof.Machine
end

section
/-! SUPPORT. What a clearing of the command FIFO does to each valve and to the reports (01 R19, 07 R127). -/
namespace Sys2Proof.Machine

/-- Every valve, no node, no open submitted. -/
def Scope.valves : Scope := { valve := fun _ => True, node := fun _ => False, opens := False, drops := True }

section
variable (s : State)

/-! ## One valve through operations on others -/

theorem SameValve.refl (w : Fin 32) (s : State) : SameValve w s s := ⟨rfl, rfl, rfl⟩

theorem SameValve.trans {w : Fin 32} {s t u : State} (h : SameValve w s t) (k : SameValve w t u) : SameValve w s u :=
  ⟨k.live.trans h.live, k.close.trans h.close, k.opens.trans h.opens⟩

theorem SameValve.of_eq {w : Fin 32} {s t : State} (live : t.valveLive = s.valveLive) (lcq : t.lcq = s.lcq) : SameValve w s t :=
  ⟨by rw [live], by rw [lcq], by rw [lcq]⟩

/-- A move of one valve's scope leaves the others alone outside RUNNING. -/
theorem Move.other {v w : Fin 32} {s t : State} (h : Move (.only v) s t) (hw : w ≠ v) (hs : s.seq.state ≠ .running) :
    SameValve w s t := h.valves w hw fun g => hs g.1

section
variable {f : State → Fin 32 → State} (hf : ∀ t v, Move (.only v) t (f t v))
include hf

theorem foldl_other (vs : List (Fin 32)) {w : Fin 32} (hw : w ∉ vs) {s : State} (hs : s.seq.state ≠ .running) :
    SameValve w s (vs.foldl f s) := by
  induction vs generalizing s with
  | nil => exact .refl w s
  | cons v vs ih =>
    obtain ⟨hv, hvs⟩ := List.ne_and_not_mem_of_not_mem_cons hw
    have h := hf s v
    exact (h.other hv hs).trans (ih hvs (by rwa [h.seqState]))

theorem foldl_seqState (vs : List (Fin 32)) : (vs.foldl f s).seq.state = s.seq.state :=
  (Move.foldl (c := .valves) (fun t v => (hf t v).mono (fun _ _ => trivial) (fun _ h => h) (fun h => h) id) vs s).seqState

/-- In a fold over all valves each one meets its own operation once, at its state in `s`. -/
theorem foldl_valve {s : State} (hs : s.seq.state ≠ .running) (w : Fin 32) :
    ∃ t, SameValve w s t ∧ t.seq.state = s.seq.state ∧ SameValve w (f t w) ((List.finRange 32).foldl f s) := by
  obtain ⟨pre, post, hsplit⟩ := List.append_of_mem (List.mem_finRange w)
  have hn : (pre ++ w :: post).Nodup := hsplit ▸ List.nodup_finRange 32
  obtain ⟨-, hwp, hdis⟩ := List.nodup_append.1 hn
  have hpre : w ∉ pre := fun h => hdis w h w (by simp) rfl
  have hst : (pre.foldl f s).seq.state = s.seq.state := foldl_seqState s hf pre
  refine ⟨pre.foldl f s, foldl_other hf pre hpre hs, hst, ?_⟩
  rw [hsplit, List.foldl_append, List.foldl_cons]
  exact foldl_other hf post (List.nodup_cons.1 hwp).1 (by rwa [(hf _ w).seqState, hst])

end

/-! ## A valve's change, taken whole -/

/-- Once the live state stands, a change reports it and lets grants run, and no more. -/
theorem changeValve_after (v : Fin 32) (l : ValveLive) : Move .none (s.setValveLive v l) (changeValve v l s) := by
  have hw : Move .none (s.setValveLive v l) (writeValve v l s) := by
    simp only [writeValve]
    split
    · have hu (b : Bool) : Move .none (s.setValveLive v l)
          (oweReport (if b then noteValveChange (s.setValveLive v l) else s.setValveLive v l)) := by
        cases b
        · exact oweReport_move _
        · exact (noteValveChange_move _).trans (oweReport_move _)
      have hu' := hu (decide (s.valveLive[v].state ≠ l.state))
      simp only [decide_eq_true_eq] at hu'
      split
      · exact hu'.trans (releaseCheck_move _ _)
      · exact hu'
    · split
      · exact (noteValveChange_move _).trans (oweSweep_move _)
      · exact .refl _
  simp only [changeValve]
  split
  · exact (hw.trans (tellOwner_move _ (fun b t => earlyEnd_move t b _ _ (by simp)) _ _)).trans (pass_move _)
  · exact hw

/-- A changed valve that no grant pass may open stands as it was changed to. -/
theorem changeValve_same (v : Fin 32) (l : ValveLive) (h : s.seq.state ≠ .running ∨ l.state ≠ .closed ∨ l.mode ≠ .auto) :
    SameValve v (s.setValveLive v l) (changeValve v l s) := by
  refine (changeValve_after s v l).valves v (fun x => x) fun ⟨h1, h2, h3⟩ => ?_
  simp only [State.setValveLive_seq, State.setValveLive_valveLive, Fin.getElem_fin, Vector.getElem_set_self] at h1 h2 h3
  exact h.elim (· h1) (·.elim (· h2) (· h3))

theorem changeValve_live (v : Fin 32) (l : ValveLive) (h : s.seq.state ≠ .running ∨ l.state ≠ .closed ∨ l.mode ≠ .auto) :
    (changeValve v l s).valveLive[v] = l := by
  rw [(changeValve_same s v l h).live]
  simp

/-! ## Close requests -/

theorem closeRequest_kept {v : Fin 32} (h : s.lcq.closes[v].isSome = true) : closeRequest v s = s := by
  obtain ⟨m, hm⟩ := Option.isSome_iff_exists.1 h
  simp [closeRequest, closeResult, hm]

theorem closeRequest_places {v : Fin 32} (h : s.lcq.openMarks v = none) : (closeRequest v s).lcq.closes[v].isSome = true := by
  by_cases hc : s.lcq.closes[v].isSome = true
  · rw [closeRequest_kept s hc, hc]
  · have hn : s.lcq.closes[v] = none := by simpa using hc
    simp [closeRequest, closeResult, hn, h, LineQueue.withClose]

/-! ## Withdrawn opens -/

theorem withdrawOpens_only (gone : List FifoEntry) (t : State) (v : Fin 32) : Move (.only v) t
    (match openMarksIn gone v with
      | some m => openWithdrawn v m.sent t
      | none => t) := withdrawOpens_step gone v t fun _ => .inl rfl

/-- A valve whose open left the FIFO meets `openWithdrawn` once; another one meets nothing. -/
theorem withdrawOpens_valve (gone : List FifoEntry) {s : State} (hs : s.seq.state ≠ .running) (w : Fin 32) :
    ∃ t, SameValve w s t ∧ t.seq.state = s.seq.state ∧
      (openMarksIn gone w = none → SameValve w t (withdrawOpens gone s)) ∧
      ∀ m, openMarksIn gone w = some m → SameValve w (openWithdrawn w m.sent t) (withdrawOpens gone s) := by
  obtain ⟨t, h1, h2, h3⟩ := foldl_valve (withdrawOpens_only gone) hs w
  refine ⟨t, h1, h2, fun h => ?_, fun m h => ?_⟩
  · rw [h] at h3
    exact h3
  · rw [h] at h3
    exact h3

theorem openWithdrawn_unsent {s : State} {v : Fin 32} (hs : s.seq.state ≠ .running) (h : s.valveLive[v].state = .opening) :
    (openWithdrawn v false s).valveLive[v] = { s.valveLive[v] with state := .closed, attempts := 0 } := by
  simp only [openWithdrawn, h, if_true]
  exact changeValve_live s v _ (.inl hs)

theorem openWithdrawn_sent {s : State} {v : Fin 32} (h : s.valveLive[v].state = .opening) (ho : s.lcq.openMarks v = none) :
    (openWithdrawn v true s).valveLive[v] = { s.valveLive[v] with state := .closing, attempts := 0 } ∧
      (openWithdrawn v true s).lcq.closes[v].isSome = true := by
  have hc := changeValve_same (closeRequest v s) v { s.valveLive[v] with state := .closing, attempts := 0 }
    (.inr (.inl (by simp)))
  simp only [openWithdrawn, h, if_true]
  refine ⟨changeValve_live _ v _ (.inr (.inl (by simp))), ?_⟩
  rw [hc.close]
  exact closeRequest_places s ho

/-- With a close waiting, a withdrawn open changes at most the live state. -/
theorem openWithdrawn_eq {s : State} {v : Fin 32} (b : Bool) (hc : s.lcq.closes[v].isSome = true) :
    openWithdrawn v b s = s ∨ ∃ l, openWithdrawn v b s = changeValve v l s := by
  simp only [openWithdrawn, closeRequest_kept s hc]
  split
  · split
    · exact .inr ⟨_, rfl⟩
    · exact .inr ⟨_, rfl⟩
  · exact .inl rfl

/-- A close that waits is kept through the withdrawal of the valve's open. -/
theorem openWithdrawn_close {s : State} {v : Fin 32} (b : Bool) (hs : s.seq.state ≠ .running)
    (hc : s.lcq.closes[v].isSome = true) : (openWithdrawn v b s).lcq.closes[v] = s.lcq.closes[v] := by
  rcases openWithdrawn_eq b hc with h | ⟨l, h⟩
  · rw [h]
  · rw [h]
    exact (changeValve_same s v l (.inl hs)).close

/-! ## The clearing -/

theorem Move.seq_idle {c : Scope} {s t : State} (h : Move c s t) (hi : ∀ v k a o d, s.seq.tx ≠ .command v k a o d) :
    t.seq = s.seq := by
  have htx : t.seq.tx = s.seq.tx := h.tx.resolve_right fun ⟨v, k, a, o, d, e, _⟩ => hi v k a o d e
  rw [h.seq, htx]

@[simp] theorem leaveFifo_valveLive (leaves : FifoEntry → Bool) (order : List HubFrame) (n : Nat) :
    (leaveFifo leaves order n s).valveLive = s.valveLive := setFifo_valveLive s _
@[simp] theorem leaveFifo_lcq (leaves : FifoEntry → Bool) (order : List HubFrame) (n : Nat) :
    (leaveFifo leaves order n s).lcq = { s.lcq with fifo := s.lcq.fifo.filter fun e => !leaves e } := setFifo_lcq s _

theorem leaveFifo_runs (leaves : FifoEntry → Bool) (order : List HubFrame) (n : Nat) :
    (leaveFifo leaves order n s).runs = s.runs := by
  show (setFifo _ s).runs = s.runs
  simp

/-- The report that HTX is sending. -/
def Upstream.reports : Upstream → List HubFrame
  | .report f => [f]
  | .idle | .answer _ | .notice _ => []

theorem reportsHeld_eq : reportsHeld s = s.hub.htx.reports ++ (s.hub.reports ++ s.hub.passWait) := by
  rw [← List.append_assoc]
  cases h : s.hub.htx <;> simp only [reportsHeld, h] <;> rfl

theorem reportsHeld_congr {s t : State} (h : t.hub = s.hub) : reportsHeld t = reportsHeld s := by
  rw [reportsHeld, h, reportsHeld]

theorem reportsHeld_offerAll (fs : List HubFrame) : reportsHeld (s.setHub (s.hub.offerAll fs)) = reportsHeld s ++ fs := by
  rw [reportsHeld_eq, reportsHeld_eq, State.setHub_hub, HubPort.offerAll_held, HubPort.offerAll_frame]
  simp only [List.append_assoc]

theorem reportsHeld_leaveFifo (leaves : FifoEntry → Bool) (order : List HubFrame) (n : Nat) :
    reportsHeld (leaveFifo leaves order n s) = reportsHeld s ++ order := by
  rw [← reportsHeld_offerAll]
  exact reportsHeld_congr rfl

theorem lineDowns_eq (es : List FifoEntry) : es.filterMap FifoEntry.lineDown = lineDowns es := by
  unfold lineDowns
  exact List.filterMap_congr fun e _ => by cases e <;> rfl

/-- Outside RUNNING, `clearFifo` answers every PASS, withdraws every open and keeps every close (01 R19, 07 R127). -/
theorem clearFifo_cleared {s : State} (hs : s.seq.state ≠ .running) :
    FifoCleared s.lcq.fifo [] (fun _ => True) (fun _ => True) s (clearFifo s) := by
  have key : ∀ u : State, u = s.setQueue { s.lcq with clearOwed := false, withdrawOwed := false } →
      FifoCleared s.lcq.fifo [] (fun _ => True) (fun _ => True) s (clearEntries (fun _ => true) u) := by
    intro u hu
    have hul : u.valveLive = s.valveLive := by rw [hu]; rfl
    have hus : u.seq = s.seq := by rw [hu]; rfl
    have huf : u.lcq.fifo = s.lcq.fifo := by rw [hu]; rfl
    have huc : u.lcq.closes = s.lcq.closes := by rw [hu]; rfl
    have huo : u.lcq.clearOwed = false ∧ u.lcq.withdrawOwed = false := by rw [hu]; exact ⟨rfl, rfl⟩
    have huh : u.hub = s.hub := by rw [hu]; rfl
    obtain ⟨order, n, hp, he⟩ := clearEntries_eq (fun _ => true) u
    rw [he, List.filter_true, huf]
    have hst : (leaveFifo (fun _ => true) order n u).seq.state ≠ .running := by
      rw [leaveFifo_seq, hus]; exact hs
    have hm := withdrawOpens_move (c := .valves) s.lcq.fifo (leaveFifo (fun _ => true) order n u) fun _ _ => trivial
    have hempty : (leaveFifo (fun _ => true) order n u).lcq.fifo = [] := by
      rw [leaveFifo_lcq]
      exact List.filter_false _
    have hopen (w : Fin 32) : (leaveFifo (fun _ => true) order n u).lcq.openMarks w = none := by
      rw [LineQueue.openMarks, hempty]; rfl
    refine ⟨?_, hm.clearOwed.trans (by rw [leaveFifo_lcq]; exact huo.1), hm.withdrawOwed.trans (by rw [leaveFifo_lcq]; exact huo.2), ?_,
      fun w m _ ho hmk => ?_, fun w _ hc => ?_⟩
    · have := hm.shrinks (fun h => h) hst
      rw [hempty] at this
      exact List.eq_nil_of_length_eq_zero (Nat.le_zero.1 this)
    · rw [reportsHeld_congr hm.hub, reportsHeld_leaveFifo, reportsHeld_congr huh, List.append_nil, ← lineDowns_eq]
      rw [List.filter_true, huf] at hp
      exact hp.append_left _
    · obtain ⟨t, hsame, hts, -, hw⟩ := withdrawOpens_valve s.lcq.fifo hst w
      have hlive : t.valveLive[w] = s.valveLive[w] := by rw [hsame.live, leaveFifo_valveLive, hul]
      have hw := hw m hmk
      refine ⟨fun hsent => ?_, fun hsent => ?_⟩
      · rw [hw.live, hsent, openWithdrawn_unsent (by rwa [hts]) (by rwa [hlive]), hlive]
      · obtain ⟨h1, h2⟩ := openWithdrawn_sent (s := t) (v := w) (by rwa [hlive]) (by rw [hsame.opens]; exact hopen w)
        rw [hw.live, hw.close, hsent, h1, hlive]
        exact ⟨rfl, h2⟩
    · obtain ⟨t, hsame, hts, hnone, hsome⟩ := withdrawOpens_valve s.lcq.fifo hst w
      have hclose : t.lcq.closes[w] = s.lcq.closes[w] := by rw [hsame.close, leaveFifo_lcq, huc]
      cases hmk : openMarksIn s.lcq.fifo w with
      | none => rw [(hnone hmk).close, hclose]
      | some m => rw [(hsome m hmk).close, openWithdrawn_close _ (by rwa [hts]) (by rwa [hclose]), hclose]
  exact key _ rfl

/-- Clearing the FIFO is, for what it moves, an affair of valves after the hub has its replies. -/
theorem clearFifo_seq {s : State} (hi : ∀ v k a o d, s.seq.tx ≠ .command v k a o d) : (clearFifo s).seq = s.seq := by
  obtain ⟨order, n, -, he⟩ := clearEntries_eq (fun _ => true) (s.setQueue { s.lcq with clearOwed := false, withdrawOwed := false })
  rw [clearFifo, he]
  have hq : (leaveFifo (fun _ => true) order n (s.setQueue { s.lcq with clearOwed := false, withdrawOwed := false })).seq =
    s.seq := leaveFifo_seq _ _ _ _
  exact ((withdrawOpens_move (c := .valves) _ _ fun _ _ => trivial).seq_idle (by rwa [hq])).trans hq

theorem clearFifo_on {s : State} (hs : s.seq.state ≠ .running) : OnFrom s (clearFifo s) := by
  obtain ⟨order, n, -, he⟩ := clearEntries_eq (fun _ => true) (s.setQueue { s.lcq with clearOwed := false, withdrawOwed := false })
  rw [clearFifo, he]
  have hl : OnFrom s (leaveFifo (fun _ => true) order n (s.setQueue { s.lcq with clearOwed := false, withdrawOwed := false })) :=
    .of_runs (leaveFifo_runs _ _ _ _)
  refine hl.trans ((withdrawOpens_move (c := .valves) _ _ fun _ _ => trivial).on ?_)
  rw [leaveFifo_seq]
  exact hs

end

end Sys2Proof.Machine
end

section
/-! SUPPORT and PROOF. The end of a PASS transaction (01 R18, R19). -/
namespace Sys2Proof.Machine

section
variable (s : State)

/-! ## Clearings seen from before and after -/

theorem FifoCleared.before {passes : List FifoEntry} {frames : List HubFrame} {opens closes : Fin 32 → Prop} {s q t : State}
    (h : FifoCleared passes [] (fun _ => True) (fun _ => True) q t) (held : reportsHeld q = reportsHeld s ++ frames)
    (hopen : ∀ w : Fin 32, opens w → s.valveLive[w].state = .opening →
      q.valveLive[w] = s.valveLive[w] ∧ q.lcq.openMarks w = s.lcq.openMarks w)
    (hclose : ∀ w : Fin 32, closes w → q.lcq.closes[w] = s.lcq.closes[w]) : FifoCleared passes frames opens closes s t := by
  obtain ⟨h1, h2, h3, h4, h5, h6⟩ := h
  refine ⟨h1, h2, h3, by simpa only [held, List.append_nil] using h4, fun w m ho hs hm => ?_, fun w hc hs => ?_⟩
  · obtain ⟨hl, hk⟩ := hopen w ho hs
    rw [← hl]
    exact h5 w m trivial (by rw [hl]; exact hs) (by rw [hk]; exact hm)
  · rw [← hclose w hc]
    exact h6 w trivial (by rw [hclose w hc]; exact hs)

theorem FifoCleared.after {passes : List FifoEntry} {frames : List HubFrame} {opens closes : Fin 32 → Prop} {s t u : State}
    (h : FifoCleared passes frames opens closes s t) (lcq : u.lcq = t.lcq) (live : u.valveLive = t.valveLive)
    (held : reportsHeld u = reportsHeld t) : FifoCleared passes frames opens closes s u := by
  unfold FifoCleared at *
  rw [lcq, live, held]
  exact h

/-- What a clearing leaves, the end of a step outside RUNNING and STOPPING leaves. -/
theorem complete_still {s : State} (hd : NoSwapDue s) (hr : s.seq.state ≠ .running) (hs : s.seq.state ≠ .stopping) :
    (complete s).lcq = s.lcq ∧ (complete s).valveLive = s.valveLive ∧ (complete s).seq = s.seq ∧
      reportsHeld (complete s) = reportsHeld s ∧ (complete s).runs = s.runs := by
  rw [complete, settle_still hd hr hs]
  simp only [arbitrate_lcq, arbitrate_valveLive, arbitrate_seq, reportsHeld_arbitrate, arbitrate_runs]
  exact ⟨rfl, rfl, rfl, rfl, rfl⟩

theorem not_running_of_not_marking {q : SeqState} (h : q.marking = false) : q ≠ .running ∧ q ≠ .stopping := by
  cases q <;> simp_all [SeqState.marking]

/-! ## What a transaction's end owes -/

/-- With no clearing owed, the end of what is no command's transaction drops the withdrawal that was owed (log 13). -/
theorem payClearing_quiet {s : State} {tx : Transmission} (hc : s.lcq.clearOwed = false)
    (h : ∀ v k a o d, tx ≠ .command v k a o d) : payClearing tx s = s.setQueue { s.lcq with withdrawOwed := false } := by
  rw [payClearing, if_neg (by simp [hc])]
  split
  · split
    next v a o => exact absurd rfl (h v .openValve a o false)
    · rfl
  next hw =>
    have hl : s.lcq = { s.lcq with withdrawOwed := false } := by
      rw [← (show s.lcq.withdrawOwed = false by simpa using hw)]
    exact congrArg s.setQueue hl

theorem setFifo_cases (f : List FifoEntry) : setFifo f s = s.setQueue { s.lcq with fifo := f } ∨
    16 ≤ s.lcq.fifo.length ∧ setFifo f s = oweFree (s.setQueue { s.lcq with fifo := f }) := by
  simp only [setFifo]
  split
  next h =>
    simp only [Bool.and_eq_true, decide_eq_true_eq] at h
    exact .inr ⟨h.1, rfl⟩
  · exact .inl rfl

theorem settleTurns_rested {s : State} (n : Nat) (h : Rested s) : settleTurns n s = s := by
  obtain ⟨hw, -⟩ := h
  unfold WorkLaw at hw
  cases n with
  | zero => rfl
  | succ n => simp [settleTurns, hw]

/-- Outside RUNNING a freed FIFO entry is of no use. -/
theorem settle_oweFree {s : State} (h : Rested s) (hr : s.seq.state ≠ .running) : settle (oweFree s) = s := by
  have hwork : s.work = { pass := false, free := false, sweep := false, stop := false, mark := false } := h.1
  have hback : (oweFree s).setWork { (oweFree s).work with free := false } = s := by
    cases s
    simp only at hwork
    subst hwork
    rfl
  have hturn : settleTurns 1024 (oweFree s) = s := by
    rw [settleTurns, if_neg (by simp [oweFree, hwork]), if_pos (by simp [oweFree]), hback, pass_idle hr,
      settleTurns_rested _ h]
  have := settle_rested h
  rw [settle, settleTurns_rested _ h] at this
  rw [settle, hturn]
  exact this

theorem OnlyWaterChanges.refl (s : State) : OnlyWaterChanges s s := (rfl)

/-! ## A PASS in flight ends -/

/-- The PASS_REPLY of a PASS that was sent. -/
def passOutcomeFrame (a : Byte) : Option (List Byte) → HubFrame
  | some d => passReplyFrame a .answered d
  | none => passReplyFrame a .noAnswer []

/-- The PASS in flight has left the FIFO and its reply has been handed over; `q` is the sequencer after it. -/
def passGone (q : Sequencer) (f : HubFrame) (s : State) : State :=
  ((s.setSeq q).setQueue { s.lcq with fifo := s.lcq.fifo.filter FifoEntry.stays }).setHub (s.hub.offer f)

theorem passGone_cases (q : Sequencer) (f : HubFrame) :
    offerPassReply f (dropPass (s.setSeq q)) = passGone q f s ∨
      16 ≤ s.lcq.fifo.length ∧ offerPassReply f (dropPass (s.setSeq q)) = oweFree (passGone q f s) := by
  rw [offerPassReply_eq, dropPass_eq]
  rcases setFifo_cases (s.setSeq q) ((s.setSeq q).lcq.fifo.filter FifoEntry.stays) with h | ⟨hl, h⟩
  · exact .inl (by rw [h]; rfl)
  · exact .inr ⟨hl, by rw [h]; rfl⟩

theorem passEnds_eq (a : Byte) (x : Option (List Byte)) : passEnds a x s =
    offerPassReply (passOutcomeFrame a x) (dropPass (s.setSeq { s.seq with tx := .idle, echoFailures := 0 })) := by
  cases x <;> rfl

theorem passGone_rested {s : State} (h : Rested s) (q : Sequencer) (f : HubFrame) : Rested (passGone q f s) :=
  ((h.setSeq _).setQueue _).setHub _

/-- The end of a PASS transaction with no clearing owed: the reply is placed, what was owed is dropped, and a freed entry of a
full FIFO lets grants run. -/
theorem settle_passGone {s : State} (q : Sequencer) (f : HubFrame) (tx : Transmission) (hr : Rested s)
    (hq : q.state = s.seq.state) (hc : s.lcq.clearOwed = false) (htx : ∀ v k a o d, tx ≠ .command v k a o d) :
    let u := passGone q f (s.setQueue { s.lcq with withdrawOwed := false })
    let p := payClearing tx (offerPassReply f (dropPass (s.setSeq q)))
    (s.lcq.fifo.length < 16 ∨ s.seq.state ≠ .running → settle p = u) ∧ (NoSwapDue s → OnlyWaterChanges u (settle p)) := by
  intro u p
  have hu : Rested u := passGone_rested (hr.setQueue _) q f
  have hp : p = u ∨ 16 ≤ s.lcq.fifo.length ∧ p = oweFree u := by
    rcases passGone_cases s q f with h | ⟨hl, h⟩
    · refine .inl ?_
      show payClearing tx _ = _
      rw [h, payClearing_quiet (by exact hc) htx]
      rfl
    · refine .inr ⟨hl, ?_⟩
      show payClearing tx _ = _
      rw [h, payClearing_quiet (by exact hc) htx]
      rfl
  have hstate : u.seq.state = s.seq.state := hq
  rcases hp with h | ⟨hl, h⟩
  · rw [h, settle_rested hu]
    exact ⟨fun _ => rfl, fun _ => .refl u⟩
  · rw [h]
    by_cases hrun : s.seq.state = .running
    · refine ⟨fun k => ?_, fun hd => ?_⟩
      · exact absurd hrun (k.resolve_left (by omega))
      · have hd' : NoSwapDue (oweFree u) := fun x => hd x
        obtain ⟨t, ht, he⟩ := settle_water hd' (show u.seq.state ≠ .stopping by rw [hstate, hrun]; decide)
        rw [he]
        exact ((oweFree_frame u).trans ht).onlyWater
    · rw [settle_oweFree hu (by rwa [hstate])]
      exact ⟨fun _ => rfl, fun _ => .refl u⟩

theorem openMarksIn_stays (es : List FifoEntry) (v : Fin 32) : openMarksIn (es.filter FifoEntry.stays) v = openMarksIn es v := by
  refine openMarksIn_congr ?_
  rw [List.filter_filter]
  refine List.filter_congr fun e _ => ?_
  cases e <;> simp [FifoEntry.stays]

/-- What a PASS's end leaves before anything owed is done. -/
theorem passReplied_facts (q : Sequencer) (f : HubFrame) :
    let t := offerPassReply f (dropPass (s.setSeq q))
    t.seq = q ∧ t.valveLive = s.valveLive ∧ t.lcq = { s.lcq with fifo := s.lcq.fifo.filter FifoEntry.stays } ∧
      reportsHeld t = reportsHeld s ++ [f] ∧ (NoSwapDue s → NoSwapDue t) := by
  intro t
  have hheld : reportsHeld (passGone q f s) = reportsHeld s ++ [f] := reportsHeld_offerAll s [f]
  rcases passGone_cases s q f with h | ⟨-, h⟩ <;> rw [show t = _ from h]
  · exact ⟨rfl, rfl, rfl, hheld, fun hd x => hd x⟩
  · exact ⟨rfl, rfl, rfl, hheld, fun hd x => hd x⟩

theorem passReplyPlaced_offer (f : HubFrame) : PassReplyPlaced f s (s.setHub (s.hub.offer f)) := by
  unfold PassReplyPlaced HubPort.offer
  simp only [Bool.and_eq_true, decide_eq_true_eq, List.isEmpty_iff]
  rfl

/-- Settles O28: the PASS in flight gives its place to its reply; the clearing or the grant pass that follows is that of
`clearFifo_cleared` or of `settle_passGone`. -/
theorem passOutcomeIsReplied : Obligations.PassOutcomeIsReplied := by
  intro a reply s htx hr waiting frame ended
  have hwaiting : waiting = FifoEntry.stays := by funext e; cases e <;> rfl
  generalize hans : acceptPassAnswer a (doubleSlot (10 * s.seq.ltx.length) s.seq.replyWindow) reply = answer
  have hframe : frame = passOutcomeFrame a answer := by
    show (match acceptPassAnswer a (doubleSlot (10 * s.seq.ltx.length) s.seq.replyWindow) reply with
      | some bytes => _
      | none => _) = _
    rw [hans]
    cases answer <;> rfl
  have hx : exec (.passOutcome reply) s = .next (complete (payClearing (.pass a)
      (offerPassReply frame (dropPass (s.setSeq { s.seq with tx := .idle, echoFailures := 0 }))))) := by
    simp only [exec, execPassOutcome, htx, frameTime, hans, passEnds_eq, hframe]
  have hended : ended = (s.setSeq { s.seq with tx := .idle, echoFailures := 0 }).setQueue
      { s.lcq with fifo := s.lcq.fifo.filter FifoEntry.stays, withdrawOwed := false } := by
    rw [← hwaiting]
  refine ⟨fun bytes => ?_, fun hc => ?_, fun hc hm hd => ?_⟩
  · rw [← hans]
    exact acceptPassAnswer_iff_heard a _ _ reply bytes
  · obtain ⟨h1, h2⟩ := settle_passGone { s.seq with tx := .idle, echoFailures := 0 } frame (.pass a) hr rfl hc (by simp)
    refine ⟨_, _, hx, ?_, h1, h2⟩
    rw [hended]
    exact passReplyPlaced_offer _ frame
  · obtain ⟨hrun, hstop⟩ := not_running_of_not_marking hm
    generalize hq : offerPassReply frame (dropPass (s.setSeq { s.seq with tx := .idle, echoFailures := 0 })) = q at hx
    obtain ⟨hseq, hlive, hlcq, hheld, hdue⟩ := hq ▸ passReplied_facts s { s.seq with tx := .idle, echoFailures := 0 } frame
    have hpay : payClearing (.pass a) q = clearFifo q := by
      simp only [payClearing, hlcq, hc, if_true]
    rw [hpay] at hx
    have hqrun : q.seq.state ≠ .running := by rw [hseq]; exact hrun
    have hcs : (clearFifo q).seq = q.seq := clearFifo_seq (by rw [hseq]; simp)
    have hcleared : FifoCleared (s.lcq.fifo.filter waiting) [frame] (fun _ => True) (fun _ => True) s (clearFifo q) := by
      have := clearFifo_cleared hqrun
      rw [hlcq] at this
      rw [hwaiting]
      refine this.before hheld (fun w _ _ => ⟨by rw [hlive], ?_⟩) fun w _ => by rw [hlcq]
      rw [hlcq]
      exact openMarksIn_stays _ _
    obtain ⟨hl, hv, hs, hh, -⟩ := complete_still ((clearFifo_field q).line.noSwapDue (hdue hd)) (by rwa [hcs])
      (by rw [hcs, hseq]; exact hstop)
    exact ⟨_, hx, by rw [hs, hcs, hseq]; rfl, hcleared.after hl hv hh⟩

end

end Sys2Proof.Machine
end

section
/-! SUPPORT. One bed's run through the Dispatcher's moves: an ON run stays ON through a grant pass, and a run taken out of ON
does not come back (06 R98 to R108). -/
namespace Sys2Proof.Machine

section
variable (s : State)

/-! ## Runs found again -/

theorem findRun_putRun_other {b : Fin 24} {r : Run} (h : r.bed ≠ b) : findRun (putRun s r) b = findRun s b := by
  have hcomp : ((fun q : Run => q.bed == b) ∘ fun q => if q.bed = r.bed then r else q) = fun q => q.bed == b := by
    funext q
    by_cases hq : q.bed = r.bed
    · simp [hq]
    · simp [hq]
  simp only [findRun, putRun, State.setRuns_runs, List.find?_map, hcomp]
  cases hf : s.runs.find? fun q => q.bed == b with
  | none => rfl
  | some q =>
    have hb : q.bed = b := by simpa using List.find?_some hf
    simp [hb, Ne.symm h]

theorem findRun_putRun_self {r p : Run} (h : findRun s r.bed = some p) : findRun (putRun s r) r.bed = some r := by
  have hcomp : ((fun q : Run => q.bed == r.bed) ∘ fun q => if q.bed = r.bed then r else q) = fun q => q.bed == r.bed := by
    funext q
    by_cases hq : q.bed = r.bed
    · simp [hq]
    · simp [hq]
  unfold findRun at h
  have hb : p.bed = r.bed := by simpa using List.find?_some h
  simp only [findRun, putRun, State.setRuns_runs, List.find?_map, hcomp, h, Option.map_some, hb, if_true]

theorem mem_putRun {q r : Run} (h : q ∈ (putRun s r).runs) : q = r ∨ q ∈ s.runs ∧ q.bed ≠ r.bed := by
  obtain ⟨p, hp, e⟩ := List.mem_map.1 h
  by_cases hb : p.bed = r.bed
  · exact .inl (by rw [if_pos hb] at e; exact e.symm)
  · rw [if_neg hb] at e
    subst e
    exact .inr ⟨hp, hb⟩

theorem findRun_none {b : Fin 24} (h : findRun s b = none) (q : Run) (hq : q ∈ s.runs) : q.bed ≠ b := by
  simpa using List.find?_eq_none.1 h q hq

/-! ## What a release check and a valve's report do -/

theorem releaseCheck_cases (b : Fin 24) : releaseCheck b s = s ∨ ∃ r f q, findRun s b = some r ∧ r.state = .held ∧
    (q = .queued ∨ q = .held) ∧ releaseCheck b s = putRun s { r with reasons := f, state := q } := by
  unfold releaseCheck
  split
  · exact .inl rfl
  next r hr =>
    split
    next hh =>
      refine .inr ⟨r, _, _, hr, hh, ?_, rfl⟩
      split
      · exact .inl rfl
      · exact .inr rfl
    · exact .inl rfl

/-- A written valve's runs are those before it, but for a release check of a bed that names it. -/
theorem writeValve_runs (v : Fin 32) (l : ValveLive) : (writeValve v l s).runs = s.runs ∨
    ∃ b u, valveOf s b = some v ∧ u.runs = s.runs ∧ (writeValve v l s).runs = (releaseCheck b u).runs := by
  simp only [writeValve]
  split
  · split
    next u b hb =>
      refine .inr ⟨b, _, ?_, ?_, rfl⟩
      · have := List.find?_some hb
        simp only [Bool.and_eq_true, beq_iff_eq] at this
        refine Eq.trans ?_ this.2
        unfold valveOf
        split <;> rfl
      · split <;> rfl
    · exact .inl (by split <;> rfl)
  · split <;> exact .inl rfl

theorem openRequest_runs (v : Fin 32) : (openRequest v s).runs = s.runs := by
  simp only [openRequest, appendOpen]
  split
  · rfl
  · rfl
  · rw [setFifo_runs]
    split
    · show (if _ then _ else _ : State).runs = _
      split <;> simp
    · split <;> simp

/-! ## ON runs through a grant pass -/

theorem findRun_congr {s t : State} (h : t.runs = s.runs) (b : Fin 24) : findRun t b = findRun s b := by
  rw [findRun, h, findRun]

theorem findRun_releaseCheck {b b' : Fin 24} {r : Run} (h : findRun s b = some r) (hr : r.state ≠ .held) :
    findRun (releaseCheck b' s) b = some r := by
  rcases releaseCheck_cases s b' with e | ⟨p, f, q, hp, hh, -, e⟩
  · rwa [e]
  · rw [e]
    by_cases hb : b' = b
    · subst hb
      rw [h] at hp
      cases hp
      exact absurd hh hr
    · rw [findRun_putRun_other s (by rw [(findRun_mem s hp).2]; exact hb), h]

theorem findRun_writeValve {b : Fin 24} {r : Run} (v : Fin 32) (l : ValveLive) (h : findRun s b = some r)
    (hr : r.state ≠ .held) : findRun (writeValve v l s) b = some r := by
  rcases writeValve_runs s v l with e | ⟨b', u, -, hu, e⟩
  · rwa [findRun_congr e]
  · rw [findRun_congr e]
    exact findRun_releaseCheck u (by rwa [findRun_congr hu]) hr

theorem findRun_grant {b : Fin 24} {r p : Run} {v : Fin 32} (hp : p.bed ≠ b) (h : findRun s b = some r)
    (hr : r.state ≠ .held) : findRun (grant p v s) b = some r := by
  refine findRun_writeValve _ v _ ?_ hr
  rw [findRun_congr (openRequest_runs _ v), findRun_putRun_other s (by exact hp), h]

theorem findRun_bumpSkips {b : Fin 24} (bs : List (Fin 24)) (hb : b ∉ bs) : findRun (bumpSkips bs s) b = findRun s b := by
  have hcomp : ((fun q : Run => q.bed == b) ∘ fun q => if bs.contains q.bed then { q with skips := q.skips + 1 } else q) =
      fun q => q.bed == b := by
    funext q
    by_cases hq : q.bed ∈ bs <;> simp [hq]
  simp only [findRun, bumpSkips, State.setRuns_runs, List.find?_map, hcomp]
  cases hf : s.runs.find? fun q => q.bed == b with
  | none => rfl
  | some q =>
    have hq : q.bed = b := by simpa using List.find?_some hf
    simp [hq, hb]

/-- A scan passes over only beds whose run is QUEUED. -/
theorem scanStep_passed {b : Fin 24} (h : scanStep s b = .passed) : ∃ r, findRun s b = some r ∧ r.state = .queued := by
  unfold scanStep at h
  split at h
  next r v hr _ =>
    refine ⟨r, hr, ?_⟩
    by_contra hq
    rw [if_pos (.inl hq)] at h
    cases h
  · cases h

/-- A bed with a QUEUED run is not the one whose run is ON. -/
theorem findRun_ne {b b' : Fin 24} {r q : Run} (h : findRun s b = some r) (hr : r.state = .on) (hq : findRun s b' = some q)
    (hs : q.state = .queued) : b' ≠ b := by
  rintro rfl
  rw [h] at hq
  cases hq
  rw [hr] at hs
  cases hs

theorem findRun_grantScan {b : Fin 24} {r : Run} (hr : r.state = .on) (bs passed bumped : List (Fin 24)) (hp : b ∉ passed)
    (hb : b ∉ bumped) {s : State} (h : findRun s b = some r) : findRun (grantScan bs passed bumped s) b = some r := by
  induction bs generalizing passed bumped s with
  | nil => rw [grantScan, findRun_bumpSkips s _ hb, h]
  | cons b' bs ih =>
    simp only [grantScan]
    split
    · exact ih passed bumped hp hb h
    next e =>
      obtain ⟨q, hq, hs⟩ := scanStep_passed s e
      exact ih _ bumped (by simp [hp, (findRun_ne s h hr hq hs).symm]) hb h
    · rw [findRun_bumpSkips s _ hb, h]
    next q v e =>
      obtain ⟨hq, -, hs, -⟩ := scanStep_granted s e
      have hne : q.bed ≠ b := by
        rw [(findRun_mem s hq).2]
        exact findRun_ne s h hr hq hs
      exact ih [] _ (by simp) (by simp [hp, hb]) (findRun_grant s hne h (by simp [hr]))

theorem findRun_grantPass {b : Fin 24} {r : Run} (h : findRun s b = some r) (hr : r.state = .on) :
    findRun (grantPass s) b = some r := by
  unfold grantPass
  split
  · exact findRun_grantScan hr _ [] [] (by simp) (by simp) h
  · exact h

theorem findRun_pass {b : Fin 24} {r : Run} (h : findRun s b = some r) (hr : r.state = .on) :
    findRun (pass s) b = some r := by
  have hc : findRun { s with choice := s.choice + 1 } b = some r := h
  simp only [pass]
  split
  · split
    · exact h
    · exact findRun_grantPass _ hc hr
  · exact findRun_grantPass s h hr

/-! ## Runs off, and kept off -/

/-- The bed's runs are not ON, and none is QUEUED with a CLOSED valve. -/
def BedOff (b : Fin 24) (s : State) : Prop :=
  ∀ q ∈ s.runs, q.bed = b → q.state ≠ .on ∧
    (q.state = .queued → ∀ v : Fin 32, valveOf s b = some v → s.valveLive[v].state ≠ .closed)

theorem BedOff.of_valves {b : Fin 24} {s t : State} (h : BedOff b s) (beds : t.beds = s.beds)
    (runs : ∀ q ∈ t.runs, q.bed = b → ∃ p ∈ s.runs, p.bed = b ∧ p.state = q.state)
    (closed : ∀ v : Fin 32, t.valveLive[v].state = .closed → s.valveLive[v].state = .closed) : BedOff b t := by
  intro q hq hb
  obtain ⟨p, hp, hpb, hps⟩ := runs q hq hb
  obtain ⟨h1, h2⟩ := h p hp hpb
  refine ⟨hps ▸ h1, fun hs v hv hc => h2 (hps.trans hs) v ?_ (closed v hc)⟩
  rwa [valveOf, beds] at hv

theorem releaseCheck_valveLive (b : Fin 24) : (releaseCheck b s).valveLive = s.valveLive := by
  rcases releaseCheck_cases s b with e | ⟨r, f, q, -, -, -, e⟩ <;> rw [e]
  rfl

theorem writeValve_valveLive (v : Fin 32) (l : ValveLive) : (writeValve v l s).valveLive = s.valveLive.set v l := by
  simp only [writeValve]
  split
  · have hu : (oweReport (if s.valveLive[v].state ≠ l.state then noteValveChange (s.setValveLive v l)
        else s.setValveLive v l)).valveLive = s.valveLive.set v l := by
      split <;> rfl
    split
    · rw [releaseCheck_valveLive, hu]
    · exact hu
  · split <;> rfl

theorem grant_valveLive (r : Run) (v : Fin 32) : (grant r v s).valveLive =
    s.valveLive.set v { s.valveLive[v] with state := .opening, owner := some r.bed, attempts := 0 } := by
  have h : (openRequest v (putRun s { r with state := .on, skips := 0 })).valveLive = s.valveLive := openRequest_valveLive _ v
  simp only [grant, writeValve_valveLive, h]

/-- A grant opens a CLOSED valve, and closes none. -/
theorem grant_closed {r : Run} {v w : Fin 32} (h : (grant r v s).valveLive[w].state = .closed) :
    w ≠ v ∧ s.valveLive[w].state = .closed := by
  rw [grant_valveLive] at h
  by_cases hw : w = v
  · subst hw
    simp at h
  · exact ⟨hw, by simpa [Fin.val_ne_of_ne (Ne.symm hw)] using h⟩

/-- The runs after a grant: the granted one, those before, and one that a bed naming the opened valve has released. -/
theorem mem_grant {r q : Run} {v : Fin 32} (h : q ∈ (grant r v s).runs) : q.bed = r.bed ∨ q ∈ s.runs ∨
    valveOf s q.bed = some v ∧ (q.state = .queued ∨ q.state = .held) := by
  have hr : (openRequest v (putRun s { r with state := .on, skips := 0 })).runs =
    (putRun s { r with state := .on, skips := 0 }).runs := openRequest_runs _ v
  have hbeds : (openRequest v (putRun s { r with state := .on, skips := 0 })).beds = s.beds := (openRequest_frame _ v).beds
  have old (hq : q ∈ (putRun s { r with state := .on, skips := 0 }).runs) : q.bed = r.bed ∨ q ∈ s.runs := by
    rcases mem_putRun s hq with e | ⟨hq, -⟩
    · exact .inl (by rw [e])
    · exact .inr hq
  rw [grant] at h
  rcases writeValve_runs _ v _ with e | ⟨b, u, hb, hu, e⟩ <;> rw [e] at h
  · rw [hr] at h
    exact (old h).imp_right .inl
  · rcases releaseCheck_cases u b with e | ⟨p, f, x, hp, -, hx, e⟩ <;> rw [e] at h
    · rw [hu, hr] at h
      exact (old h).imp_right .inl
    · rcases mem_putRun u h with e | ⟨hq, -⟩
      · refine .inr (.inr ⟨?_, by rw [e]; exact hx⟩)
        rw [e]
        show valveOf s p.bed = some v
        rw [(findRun_mem u hp).2]
        rwa [valveOf, hbeds] at hb
      · rw [hu, hr] at hq
        exact (old hq).imp_right .inl

theorem grant_off {b b' : Fin 24} {r : Run} {v : Fin 32} (hg : scanStep s b' = .granted r v) (h : BedOff b s) :
    BedOff b (grant r v s) := by
  obtain ⟨hr, hv, hq, hc, -⟩ := scanStep_granted s hg
  obtain ⟨hmem, hbed⟩ := findRun_mem s hr
  have hne : r.bed ≠ b := by
    rintro rfl
    exact (h r hmem rfl).2 hq v (hbed ▸ hv) hc
  have hval : valveOf (grant r v s) b = valveOf s b := by rw [valveOf, (grant_frame s r v).beds, valveOf]
  intro q hqm hqb
  rcases mem_grant s hqm with e | hold | ⟨hqv, hqs⟩
  · exact absurd (e.symm.trans hqb) hne
  · obtain ⟨h1, h2⟩ := h q hold hqb
    exact ⟨h1, fun hs w hw hcl => h2 hs w (hval ▸ hw) (grant_closed s hcl).2⟩
  · refine ⟨by rcases hqs with e | e <;> simp [e], fun _ w hw hcl => (grant_closed s hcl).1 ?_⟩
    rw [hval, ← hqb, hqv] at hw
    exact (Option.some.inj hw).symm

theorem bumpSkips_off {b : Fin 24} (bs : List (Fin 24)) (h : BedOff b s) : BedOff b (bumpSkips bs s) := by
  refine h.of_valves rfl (fun q hq hb => ?_) fun _ hc => hc
  obtain ⟨p, hp, rfl⟩ := List.mem_map.1 hq
  refine ⟨p, hp, ?_, ?_⟩
  · split at hb <;> exact hb
  · split <;> rfl

theorem grantScan_off {b : Fin 24} (bs passed bumped : List (Fin 24)) {s : State} (h : BedOff b s) :
    BedOff b (grantScan bs passed bumped s) := by
  induction bs generalizing passed bumped s with
  | nil => exact bumpSkips_off s _ h
  | cons b' bs ih =>
    simp only [grantScan]
    split
    · exact ih _ _ h
    · exact ih _ _ h
    · exact bumpSkips_off s _ h
    next r v e => exact ih _ _ (grant_off s e h)

theorem grantPass_off {b : Fin 24} (h : BedOff b s) : BedOff b (grantPass s) := by
  unfold grantPass
  split
  · exact grantScan_off _ _ _ h
  · exact h

theorem pass_off {b : Fin 24} (h : BedOff b s) : BedOff b (pass s) := by
  simp only [pass]
  split
  · split
    · exact h
    · exact grantPass_off _ h
  · exact grantPass_off s h

/-- A bed without a run, or whose runs are HELD, is off. -/
theorem BedOff.of_held {b : Fin 24} (h : ∀ q ∈ s.runs, q.bed = b → q.state = .held) : BedOff b s := by
  intro q hq hb
  rw [h q hq hb]
  exact ⟨by simp, by simp⟩

/-- The end of a pulse that leaves the run HELD, or removes it, leaves the bed off. -/
theorem endEarly_off (b : Fin 24) (x : HeldReasons) (stop : Bool) : BedOff b (endEarly b x stop s) := by
  simp only [endEarly]
  split
  next h => exact .of_held _ fun q hq hb => absurd hb (findRun_none _ h q hq)
  next r h =>
    have hb := (findRun_mem _ h).2
    split
    · refine .of_held _ fun q hq hqb => absurd hqb ?_
      have hruns (t : State) : (takeOut b r t).runs = t.runs.filter fun q => q.bed != b := by
        simp only [takeOut]
        split <;> simp [setHoldEnd, onBed] <;> split <;> rfl
      rw [hruns] at hq
      simpa using (List.mem_filter.1 hq).2
    · refine .of_held _ fun q hq hqb => ?_
      rcases mem_putRun _ hq with e | ⟨-, hne⟩
      · rw [e]
      · exact absurd (hqb.trans hb.symm) hne

theorem earlyEnd_off (b : Fin 24) (x : HeldReasons) (stop : Bool) : BedOff b (earlyEnd b x stop s) := by
  unfold earlyEnd
  split
  · exact pass_off _ (endEarly_off s b x stop)
  next h => exact .of_held _ fun q hq hb => absurd hb (findRun_none s (by simpa using h) q hq)

/-- With RUNNING left, every pulse has ended (06 R108). -/
theorem runningLeft_off {s : State} (hs : s.seq.state ≠ .running) (q : Run) (hq : q ∈ (runningLeft s).runs) : q.state ≠ .on := by
  have key : ∀ (bs : List (Fin 24)) {t : State}, t.seq.state ≠ .running →
      ∀ p ∈ (bs.foldl (fun t b => earlyEnd b .onlyLine true t) t).runs, p.state = .on → p.bed ∉ bs := by
    intro bs
    induction bs with
    | nil => simp
    | cons b bs ih =>
      intro t ht p hp hon
      have hm := earlyEnd_move (c := .all) t b .onlyLine true fun _ _ => trivial
      have hf := Move.foldl (c := .all) (fun t b => earlyEnd_move t b .onlyLine true fun _ _ => trivial) bs
        (earlyEnd b .onlyLine true t)
      have ht' : (earlyEnd b .onlyLine true t).seq.state ≠ .running := by rwa [hm.seqState]
      refine List.not_mem_cons_of_ne_of_not_mem ?_ (ih ht' p hp hon)
      obtain ⟨r, hr, hrb, hro⟩ := hf.on ht' p hp hon
      intro e
      exact (earlyEnd_off t b .onlyLine true r hr (hrb.trans e)).1 hro
  intro hon
  obtain ⟨r, hr, hb, hro⟩ := (runningLeft_move (c := .all) s fun _ => trivial).on hs q hq hon
  refine key (bedsOn s) hs q hq hon ?_
  rw [← hb]
  exact List.mem_map.2 ⟨r, List.mem_filter.2 ⟨hr, by simp [hro]⟩, rfl⟩

end

end Sys2Proof.Machine
end

section
/-! SUPPORT and PROOF. Echo mismatches: the abandoned transmission, and the halt on the third (01 R9, 02 R27). -/
namespace Sys2Proof.Machine

section
variable (s : State)

theorem abandonTx_pass {a : Byte} (h : s.seq.tx = .pass a) : abandonTx s =
    offerPassReply (passReplyFrame a .lineDown []) (dropPass (s.setSeq { s.seq with tx := .idle })) := by
  simp only [abandonTx, h]

theorem abandonTx_other (h : ∀ a, s.seq.tx ≠ .pass a) : abandonTx s = s.setSeq { s.seq with tx := .idle } := by
  simp only [abandonTx]
  split
  next a e => exact absurd e (h a)
  all_goals rfl

/-- What the abandoned transmission leaves: the sequencer idle, and at most a PASS's place in the FIFO given up. -/
theorem abandonTx_facts : (abandonTx s).seq = { s.seq with tx := .idle } ∧ (abandonTx s).lpwr = s.lpwr ∧
    (abandonTx s).partTime = s.partTime ∧ (NoSwapDue s → NoSwapDue (abandonTx s)) := by
  have hline := (abandonTx_field s).line
  refine ⟨?_, (abandonTx_field s).lpwr, hline.partTime, hline.noSwapDue⟩
  by_cases h : ∃ a, s.seq.tx = .pass a
  · obtain ⟨a, h⟩ := h
    rw [abandonTx_pass s h]
    exact (passReplied_facts s _ _).1
  · rw [abandonTx_other s fun a e => h ⟨a, e⟩]
    rfl

theorem countMismatch_low {s : State} (h : s.seq.echoFailures < 2) :
    countMismatch s = s.setSeq { s.seq with echoFailures := s.seq.echoFailures + 1 } := by
  have hm : min 3 (s.seq.echoFailures + 1) = s.seq.echoFailures + 1 := by omega
  simp only [countMismatch, hm]
  rw [if_neg]
  simp only [State.setSeq_seq]
  omega

theorem countMismatch_third {s : State} (h : 2 ≤ s.seq.echoFailures) (hm : s.seq.state.marking = true) :
    countMismatch s = halt (s.setSeq { s.seq with echoFailures := 3 }) := by
  have he : min 3 (s.seq.echoFailures + 1) = 3 := by omega
  simp only [countMismatch, he]
  rw [if_pos ⟨rfl, hm⟩]

theorem dropPass_setSeq (q : Sequencer) : dropPass (s.setSeq q) = (dropPass s).setSeq q := by
  rw [dropPass_eq, dropPass_eq, setFifo, setFifo, State.setSeq_lcq]
  by_cases h : (decide (16 ≤ s.lcq.fifo.length) && decide ((s.lcq.fifo.filter FifoEntry.stays).length < 16)) = true
  · rw [if_pos h, if_pos h]
    rfl
  · rw [if_neg h, if_neg h]
    rfl

/-- The sequencer's own fields do not matter for a PASS's leaving. -/
theorem passReplied_setSeq (f : HubFrame) (q r : Sequencer) :
    (offerPassReply f (dropPass (s.setSeq q))).setSeq r = offerPassReply f (dropPass (s.setSeq r)) := by
  simp only [offerPassReply_eq, dropPass_setSeq]
  rfl

/-! ## The halt -/

/-- The halt before the FIFO is cleared: power and part time stay, RUNNING has been left. -/
def haltBegun : State :=
  let t := quiet .halted (setFlag .seqHalted s)
  if s.seq.state = .running then runningLeft t else t

theorem haltBegun_facts {s : State} (h : s.seq.tx = .idle) :
    WaterFrame (quiet .halted (setFlag .seqHalted s)) (haltBegun s) ∧
      (haltBegun s).seq = (quiet .halted (setFlag .seqHalted s)).seq ∧
      (s.seq.state = .running → ∀ q ∈ (haltBegun s).runs, q.state ≠ .on) := by
  have hm : Move .all (quiet .halted (setFlag .seqHalted s)) (haltBegun s) ∧
      WaterFrame (quiet .halted (setFlag .seqHalted s)) (haltBegun s) := by
    simp only [haltBegun]
    split
    · exact ⟨runningLeft_move _ fun _ => trivial, runningLeft_frame _⟩
    · exact ⟨.refl _, .refl _⟩
  refine ⟨hm.2, hm.1.seq_idle (fun v k a o d e => ?_), fun hrun q hq => ?_⟩
  · rw [show (quiet .halted (setFlag .seqHalted s)).seq.tx = s.seq.tx from rfl, h] at e
    cases e
  · rw [haltBegun, if_pos hrun] at hq
    exact runningLeft_off (show SeqState.halted ≠ .running by simp) q hq

theorem halt_eq {s : State} (h : s.seq.tx = .idle) :
    halt s = clearFifo { haltBegun s with beacon := some (s.partTime + 10) } := by
  obtain ⟨hw, hq, -⟩ := haltBegun_facts h
  have htx : (haltBegun s).seq.tx = .idle := by rw [hq]; exact h
  have hp : (haltBegun s).partTime = s.partTime := hw.partTime
  show marksStop (haltBegun s) = _
  simp only [marksStop, htx, hp, Transmission.inTransaction, if_neg Bool.false_ne_true]

/-- What the halt of an idle line leaves (01 R19, 02 R27, 06 R108). -/
theorem halt_facts {s : State} (h : s.seq.tx = .idle) :
    (halt s).seq = { s.seq with state := .halted, phase := .noCycle, rollCount := 0, toPoll := [] } ∧
    (halt s).lcq.fifo = [] ∧ (halt s).lcq.clearOwed = false ∧ (halt s).lcq.withdrawOwed = false ∧
    (halt s).lpwr = s.lpwr ∧ (halt s).beacon = some (s.partTime + 10) ∧ (halt s).notice.isSet .seqHalted = true ∧
    (s.seq.state = .running → ∀ q ∈ (halt s).runs, q.state ≠ .on) := by
  obtain ⟨hw, hq, hon⟩ := haltBegun_facts h
  rw [halt_eq h]
  generalize hu : ({ haltBegun s with beacon := some (s.partTime + 10) } : State) = u
  have hseq : u.seq = { s.seq with state := .halted, phase := .noCycle, rollCount := 0, toPoll := [] } := by
    rw [← hu]; exact hq
  have hrun : u.seq.state ≠ .running := by rw [hseq]; simp
  obtain ⟨hf, hco, hwo, -⟩ := clearFifo_cleared hrun
  have hfield := clearFifo_field u
  refine ⟨?_, hf, hco, hwo, ?_, ?_, ?_, fun hr q hqm ho => ?_⟩
  · rw [clearFifo_seq (by rw [hseq]; simp [h]), hseq]
  · rw [hfield.lpwr, ← hu]; exact hw.lpwr
  · rw [hfield.beacon, ← hu]
  · refine hfield.flags _ ?_
    rw [← hu]
    exact hw.flags _ (by simp [quiet, oweSweep, NoticeUnit.isSet_raise])
  · obtain ⟨r, hrm, -, hro⟩ := clearFifo_on hrun q hqm ho
    rw [← hu] at hrm
    exact hon hr r hrm hro

/-- What the end of a step outside RUNNING and STOPPING leaves of power, beacon and flags. -/
theorem complete_still_field {s : State} (hd : NoSwapDue s) (hr : s.seq.state ≠ .running) (hs : s.seq.state ≠ .stopping) :
    (complete s).lpwr = s.lpwr ∧ (complete s).beacon = s.beacon ∧
      ∀ f, (complete s).notice.isSet f = s.notice.isSet f := by
  rw [complete, settle_still hd hr hs]
  simp only [arbitrate_lpwr, arbitrate_beacon, arbitrate_isSet]
  exact ⟨rfl, rfl, fun _ => rfl⟩

theorem payClearing_none {s : State} (tx : Transmission) (hc : s.lcq.clearOwed = false) (hw : s.lcq.withdrawOwed = false) :
    payClearing tx s = s := by
  simp [payClearing, hc, hw]

/-- Settles O29: the first two mismatches are counted, and a PASS is answered as at its end; the third halts. -/
theorem echoMismatchIsCountedAndHalts : Obligations.EchoMismatchIsCountedAndHalts := by
  intro s htx hc hr hd
  have hx : exec .echoMismatch s = .next (complete (payClearing s.seq.tx (countMismatch (abandonTx s)))) := by
    simp only [exec, execEchoMismatch, if_neg htx]
  obtain ⟨hseq, hlpwr, hpart, hdue⟩ := abandonTx_facts s
  refine ⟨fun he hw hp => ?_, fun he hfull a hp => ?_, fun he hm => ?_⟩
  · rw [hx, abandonTx_other s hp, countMismatch_low (by exact he), payClearing_none _ (by exact hc) (by exact hw),
      complete_rested (Rested.setSeq (hr.setSeq _) _)]
    rfl
  · obtain ⟨h1, -⟩ := settle_passGone (s := s) { s.seq with tx := .idle, echoFailures := s.seq.echoFailures + 1 }
      (passReplyFrame a .lineDown []) s.seq.tx hr rfl hc (by rw [hp]; simp)
    have hcount : countMismatch (abandonTx s) = offerPassReply (passReplyFrame a .lineDown []) (dropPass (s.setSeq
        { s.seq with tx := .idle, echoFailures := s.seq.echoFailures + 1 })) := by
      rw [countMismatch_low (by rw [hseq]; exact he), hseq, abandonTx_pass s hp, passReplied_setSeq]
    refine ⟨_, hx, ?_⟩
    rw [hcount, h1 hfull]
    have placed (p : FifoEntry → Bool) (hstays : p = FifoEntry.stays) : PassReplyPlaced (passReplyFrame a .lineDown [])
        ((s.setSeq { s.seq with tx := .idle, echoFailures := s.seq.echoFailures + 1 }).setQueue
          { s.lcq with withdrawOwed := false, fifo := s.lcq.fifo.filter p })
        (passGone { s.seq with tx := .idle, echoFailures := s.seq.echoFailures + 1 } (passReplyFrame a .lineDown [])
          (s.setQueue { s.lcq with withdrawOwed := false })) := by
      subst hstays
      exact passReplyPlaced_offer _ _
    exact placed _ (funext fun e => by cases e <;> rfl)
  · have hidle : ((abandonTx s).setSeq { (abandonTx s).seq with echoFailures := 3 }).seq.tx = .idle := by
      rw [State.setSeq_seq, hseq]
    have hcount := countMismatch_third (s := abandonTx s) (by rw [hseq]; exact he) (by rw [hseq]; exact hm)
    obtain ⟨h1, h2, h3, h4, h5, h6, h7, h8⟩ := halt_facts hidle
    have hstate : (halt ((abandonTx s).setSeq { (abandonTx s).seq with echoFailures := 3 })).seq.state = .halted := by rw [h1]
    rw [hcount, payClearing_none _ h3 h4] at hx
    have hdh := (halt_line _).noSwapDue ((setSeq_line (abandonTx s) { (abandonTx s).seq with echoFailures := 3 }).noSwapDue
      (hdue hd))
    obtain ⟨g1, -, g3, -, g5⟩ := complete_still hdh (by rw [hstate]; simp) (by rw [hstate]; simp)
    obtain ⟨k1, k2, k3⟩ := complete_still_field hdh (by rw [hstate]; simp) (by rw [hstate]; simp)
    refine ⟨_, hx, ?_, ?_, ?_, ?_, ?_, ?_, ?_, ?_, ?_, fun hrun => ?_⟩
    · rw [g3, h1]
    · rw [g3, h1, State.setSeq_seq]
    · rw [g3, h1]
    · rw [g3, h1, State.setSeq_seq, hseq]
    · rw [g3, h1, State.setSeq_seq, hseq]
    · rw [k1, h5]; exact hlpwr
    · rw [k3, h7]
    · rw [k2, h6]
      exact congrArg (fun n => some (n + 10)) hpart
    · rw [g1, h2]
    · refine List.map_eq_nil_iff.2 (List.filter_eq_nil_iff.2 fun q hq => ?_)
      rw [g5] at hq
      simpa using h8 (by rw [State.setSeq_seq, hseq]; exact hrun) q hq

end

end Sys2Proof.Machine
end

section
/-! SUPPORT. One valve, and one bed's runs, through the end of a step with no entry SWAP_DUE. -/
namespace Sys2Proof.Machine

section
variable (s : State)

/-! ## A valve through a clearing -/

theorem openWithdrawn_idle {s : State} {v : Fin 32} (b : Bool) (h : s.valveLive[v].state ≠ .opening) : openWithdrawn v b s = s := by
  simp only [openWithdrawn, if_neg h]

/-- A valve with nothing for a clearing to withdraw keeps its state and its close. -/
theorem clearFifo_valve {s : State} (hs : s.seq.state ≠ .running) (w : Fin 32)
    (h : s.lcq.openMarks w = none ∨ s.valveLive[w].state ≠ .opening) :
    (clearFifo s).valveLive[w] = s.valveLive[w] ∧ (clearFifo s).lcq.closes[w] = s.lcq.closes[w] := by
  obtain ⟨order, n, -, he⟩ := clearEntries_eq (fun _ => true) (s.setQueue { s.lcq with clearOwed := false, withdrawOwed := false })
  rw [clearFifo, he, List.filter_true]
  have hst : (leaveFifo (fun _ => true) order n (s.setQueue { s.lcq with clearOwed := false, withdrawOwed := false })).seq.state ≠
      .running := by rw [leaveFifo_seq]; exact hs
  obtain ⟨t, hsame, -, hnone, hsome⟩ := withdrawOpens_valve (s.setQueue { s.lcq with clearOwed := false, withdrawOwed := false }).lcq.fifo
    hst w
  have hlive : t.valveLive[w] = s.valveLive[w] := by rw [hsame.live, leaveFifo_valveLive]; rfl
  have hclose : t.lcq.closes[w] = s.lcq.closes[w] := by rw [hsame.close, leaveFifo_lcq]; rfl
  cases hm : openMarksIn s.lcq.fifo w with
  | none => exact ⟨(hnone hm).live.trans hlive, (hnone hm).close.trans hclose⟩
  | some m =>
    have hw := hsome m hm
    rw [openWithdrawn_idle _ (by rw [hlive]; exact h.resolve_left fun e => by rw [LineQueue.openMarks, hm] at e; cases e)] at hw
    exact ⟨hw.live.trans hlive, hw.close.trans hclose⟩

/-- The state and the close of a valve stand, its open stands or is gone, and no withdrawal is newly owed. -/
structure ValveKept (w : Fin 32) (s t : State) : Prop where
  live : t.valveLive[w] = s.valveLive[w]
  close : t.lcq.closes[w] = s.lcq.closes[w]
  opens : t.lcq.openMarks w = s.lcq.openMarks w ∨ t.lcq.openMarks w = none
  owed : s.lcq.withdrawOwed = false → t.lcq.withdrawOwed = false
  running : t.seq.state = .running → s.seq.state = .running

namespace ValveKept
variable {w : Fin 32} {s t u : State}

theorem refl (w : Fin 32) (s : State) : ValveKept w s s := ⟨rfl, rfl, .inl rfl, id, id⟩

theorem trans (h : ValveKept w s t) (k : ValveKept w t u) : ValveKept w s u :=
  ⟨k.live.trans h.live, k.close.trans h.close, k.opens.elim (fun e => h.opens.imp e.trans e.trans) .inr,
    fun x => k.owed (h.owed x), fun x => h.running (k.running x)⟩

theorem of_move (h : Move .none s t) (hg : ¬ Grantable s w) : ValveKept w s t := by
  obtain ⟨hl, hc, ho⟩ := h.valves w (fun x => x) hg
  exact ⟨hl, hc, .inl ho, fun x => h.withdrawOwed.trans x, fun x => by rwa [h.seqState] at x⟩

theorem withdrawable (h : ValveKept w s t) (ho : s.lcq.openMarks w = none ∨ s.valveLive[w].state ≠ .opening) :
    t.lcq.openMarks w = none ∨ t.valveLive[w].state ≠ .opening := by
  rw [h.live]
  exact ho.imp_left fun e => h.opens.elim (fun k => k.trans e) id

end ValveKept

theorem clearFifo_empty {s : State} (hs : s.seq.state ≠ .running) (w : Fin 32) : (clearFifo s).lcq.openMarks w = none := by
  rw [LineQueue.openMarks, (clearFifo_cleared hs).1]
  rfl

theorem clearFifo_kept_valve {s : State} (hs : s.seq.state ≠ .running) (w : Fin 32)
    (h : s.lcq.openMarks w = none ∨ s.valveLive[w].state ≠ .opening) : ValveKept w s (clearFifo s) := by
  obtain ⟨hl, hc⟩ := clearFifo_valve hs w h
  refine ⟨hl, hc, .inr (clearFifo_empty hs w), fun _ => (clearFifo_cleared hs).2.2.1, fun hr => ?_⟩
  rwa [(clearFifo_field s).seq] at hr

theorem marksStop_kept_valve {s : State} (hs : s.seq.state ≠ .running) (w : Fin 32)
    (h : s.lcq.openMarks w = none ∨ s.valveLive[w].state ≠ .opening) : ValveKept w s (marksStop s) := by
  simp only [marksStop]
  split
  · exact ⟨rfl, rfl, .inl rfl, id, id⟩
  · exact (show ValveKept w s { s with beacon := some (s.partTime + 10) } from ⟨rfl, rfl, .inl rfl, id, id⟩).trans
      (clearFifo_kept_valve (s := { s with beacon := some (s.partTime + 10) }) hs w h)

theorem enterStopped_kept_valve (w : Fin 32) (h : s.lcq.openMarks w = none ∨ s.valveLive[w].state ≠ .opening) :
    ValveKept w s (enterStopped s) := by
  have key (u : State) (hu : u.seq.state = .stopped) (hl : u.valveLive = s.valveLive) (hq : u.lcq = s.lcq) :
      ValveKept w s (marksStop u) := by
    have hk : ValveKept w s u := ⟨by rw [hl], by rw [hq], .inl (by rw [hq]), by rw [hq]; exact id, by simp [hu]⟩
    exact hk.trans (marksStop_kept_valve (by simp [hu]) w (hk.withdrawable h))
  simp only [enterStopped]
  split
  · exact key _ rfl rfl rfl
  · exact key _ rfl rfl rfl

theorem examineStop_kept_valve (w : Fin 32) (h : s.lcq.openMarks w = none ∨ s.valveLive[w].state ≠ .opening) :
    ValveKept w s (examineStop s) := by
  have hw (x : Work) : ValveKept w s (s.setWork x) := ⟨rfl, rfl, .inl rfl, id, id⟩
  simp only [examineStop]
  split
  · exact (hw _).trans (enterStopped_kept_valve _ w h)
  · exact hw _

/-- A valve that no grant pass may open, with nothing to withdraw, through the end of a step. -/
theorem settle_valve {s : State} (hd : NoSwapDue s) (w : Fin 32) (hg : ¬ Grantable s w)
    (ho : s.lcq.openMarks w = none ∨ s.valveLive[w].state ≠ .opening) : ValveKept w s (settle s) := by
  have grantable {t : State} (h : ValveKept w s t) : ¬ Grantable t w := by
    rintro ⟨h1, h2, h3⟩
    rw [h.live] at h2 h3
    exact hg ⟨h.running h1, h2, h3⟩
  have h : ValveKept w s (settleTurns 1024 s) :=
    settleTurns_induction (P := ValveKept w s) (fun t _ h => h.trans (examineStop_kept_valve t w (h.withdrawable ho)))
      (fun t _ h => h.trans (.of_move (pass_move t) (grantable h))) (fun t x h => h.trans ⟨rfl, rfl, .inl rfl, id, id⟩) 1024 hd
      (.refl w s)
  exact h.trans ⟨rfl, rfl, .inl rfl, id, id⟩

/-! ## Runs through the end of a step -/

theorem settle_findRun {s : State} (hd : NoSwapDue s) (hs : s.seq.state ≠ .stopping) {b : Fin 24} {r : Run}
    (h : findRun s b = some r) (hr : r.state = .on) : findRun (settle s) b = some r := by
  have key : (settleTurns 1024 s).seq.state ≠ .stopping ∧ findRun (settleTurns 1024 s) b = some r := by
    refine settleTurns_induction (P := fun t => t.seq.state ≠ .stopping ∧ findRun t b = some r) ?_ ?_ ?_ 1024 hd ⟨hs, h⟩
    · intro t _ ⟨h1, h2⟩
      rw [examineStop_idle h1]
      exact ⟨h1, h2⟩
    · intro t _ ⟨h1, h2⟩
      exact ⟨by rwa [(pass_move (c := .all) t).seqState], findRun_pass t h2 hr⟩
    · exact fun t w h => h
  exact key.2

theorem marksStop_on {s : State} (hs : s.seq.state ≠ .running) : OnFrom s (marksStop s) := by
  simp only [marksStop]
  split
  · exact .of_runs rfl
  · exact (OnFrom.of_runs (t := { s with beacon := some (s.partTime + 10) }) rfl).trans (clearFifo_on hs)

theorem examineStop_on : OnFrom s (examineStop s) := by
  have hw (x : Work) : OnFrom s (s.setWork x) := .of_runs rfl
  have stop (u : State) (hu : u.seq.state = .stopped) (hr : u.runs = s.runs) : OnFrom s (marksStop u) :=
    (OnFrom.of_runs hr).trans (marksStop_on (by simp [hu]))
  simp only [examineStop]
  split
  · simp only [enterStopped]
    split
    · exact stop _ rfl rfl
    · exact stop _ rfl rfl
  · exact hw _

theorem marksStop_state : (marksStop s).seq.state = s.seq.state := by
  simp only [marksStop]
  split
  · rfl
  · rw [(clearFifo_field _).seq]

theorem enterStopped_state : (enterStopped s).seq.state = .stopped := by
  simp only [enterStopped, marksStop_state]
  split <;> rfl

theorem examineStop_running (h : (examineStop s).seq.state = .running) : s.seq.state = .running := by
  simp only [examineStop] at h
  split at h
  · rw [enterStopped_state] at h
    cases h
  · exact h

/-- A bed that is off has no run ON at the end of the step. -/
theorem settle_off {s : State} (hd : NoSwapDue s) {b : Fin 24} (h : BedOff b s) :
    ∀ q ∈ (settle s).runs, q.bed = b → q.state ≠ .on := by
  have key : (∀ q ∈ (settleTurns 1024 s).runs, q.bed = b → q.state ≠ .on) ∧
      ((settleTurns 1024 s).seq.state = .running → BedOff b (settleTurns 1024 s)) := by
    refine settleTurns_induction (P := fun t => (∀ q ∈ t.runs, q.bed = b → q.state ≠ .on) ∧ (t.seq.state = .running → BedOff b t))
      ?_ ?_ ?_ 1024 hd ⟨fun q hq hb => (h q hq hb).1, fun _ => h⟩
    · intro t _ ⟨h1, h2⟩
      refine ⟨fun q hq hb ho => ?_, fun hr => ?_⟩
      · obtain ⟨r, hr, hrb, hro⟩ := examineStop_on t q hq ho
        exact h1 r hr (hrb.trans hb) hro
      · have hrun := examineStop_running t hr
        rw [examineStop_idle (by rw [hrun]; simp)]
        exact h2 hrun
    · intro t _ ⟨h1, h2⟩
      by_cases hr : t.seq.state = .running
      · have := pass_off t (h2 hr)
        exact ⟨fun q hq hb => (this q hq hb).1, fun _ => this⟩
      · rw [pass_idle hr]
        exact ⟨h1, h2⟩
    · exact fun t w h => h
  exact key.1

/-- Where nothing is owed the end of a step only judges MV. -/
theorem settle_workless {s : State} (h : WorkLaw s) : settle s = judgeMv s := by
  unfold WorkLaw at h
  have ht : settleTurns 1024 s = s := by
    unfold settleTurns
    simp [h]
  rw [settle, ht, ← h]
  rfl

end

end Sys2Proof.Machine
end

section
/-! SUPPORT and PROOF. The end of a valve command's transaction (01 R17, 07 R123, R124). -/
namespace Sys2Proof.Machine

section
variable (s : State)

/-! ## Valve Control takes an outcome -/

theorem valveOutcome_open {s : State} {v : Fin 32} (a : Bool) (h : s.valveLive[v].state = .opening) :
    valveOutcome v .openValve a s =
      if a then changeValve v { s.valveLive[v] with state := .opened, attempts := 0 } s else failedAttempt v s := by
  simp only [valveOutcome]
  rw [h]

theorem valveOutcome_close {s : State} {v : Fin 32} (a : Bool) (h : s.valveLive[v].state = .closing) :
    valveOutcome v .closeValve a s = if a then
      changeValve v { s.valveLive[v] with state := .closed, attempts := 0, assumedOpen := false } s else failedAttempt v s := by
  simp only [valveOutcome]
  rw [h]

theorem valveOutcome_fault {s : State} {v : Fin 32} (a : Bool) (h : s.valveLive[v].state = .fault) :
    valveOutcome v .closeValve a s =
      if a then changeValve v { s.valveLive[v] with attempts := 0, assumedOpen := false } s else failedAttempt v s := by
  simp only [valveOutcome]
  rw [h]

/-- A close's outcome is nothing to a valve that is OPENING. -/
theorem valveOutcome_other {s : State} {v : Fin 32} (a : Bool) (h : s.valveLive[v].state = .opening) :
    valveOutcome v .closeValve a s = s := by
  simp only [valveOutcome]
  rw [h]

theorem failedAttempt_low {s : State} {v : Fin 32} (h : s.valveLive[v].attempts + 1 < 3) :
    failedAttempt v s = s.setValveLive v { s.valveLive[v] with attempts := s.valveLive[v].attempts + 1 } := by
  simp only [failedAttempt, if_pos h]

/-- A valve after its third failed attempt. -/
def ValveLive.failed (l : ValveLive) : ValveLive :=
  { l with state := .fault, assumedOpen := true, attempts := 3, owner := none, latched := true }

theorem latchFault_live (v : Fin 32) : (latchFault v s).valveLive[v] = { s.valveLive[v] with latched := true } := by
  simp [latchFault]

theorem failedAttempt_third {s : State} {v : Fin 32} (h : 3 ≤ s.valveLive[v].attempts + 1) :
    failedAttempt v s = changeValve v s.valveLive[v].failed (latchFault v (withdraw v s)) := by
  simp only [failedAttempt, if_neg (show ¬ s.valveLive[v].attempts + 1 < 3 by omega), latchFault_live, withdraw_valveLive]
  rfl

theorem withdraw_waits (v : Fin 32) : (withdraw v s).lcq.closes[v] = none ∧ (withdraw v s).lcq.openMarks v = none := by
  unfold withdraw
  split
  · exact ⟨by simp [LineQueue.withClose], by simp⟩
  next h => simpa [commandWaits] using h

theorem reported_of_state {old new : ValveLive} (h : old.state ≠ new.state) : old.reported new = true := by
  simp [ValveLive.reported, h]

theorem changeValve_reported {s : State} {v : Fin 32} {l : ValveLive} (h : s.valveLive[v].reported l = true) :
    changeValve v l s =
      pass (tellOwner (fun b => earlyEnd b .onlyValve false) s.valveLive[v] l (writeValve v l s)) := by
  simp only [changeValve]
  rw [if_pos h]

theorem tellOwner_fault {ends : Fin 24 → State → State} {old new : ValveLive} {b : Fin 24} (hb : old.owner = some b)
    (hn : new.state = .fault) (ho : old.state ≠ .fault) : tellOwner ends old new s = ends b s := by
  simp [tellOwner, hb, hn, ho]

theorem tellOwner_opened {ends : Fin 24 → State → State} {old new : ValveLive} {b : Fin 24} (hb : old.owner = some b)
    (hm : new.mode = old.mode) (hn : new.state = .opened) (ho : new.owner = some b) :
    tellOwner ends old new s = startPulse b s := by
  simp [tellOwner, hb, hn, ho, hm]

/-- The third failed attempt leaves the valve FAULT with nothing waiting, and tells of it. -/
theorem failedAttempt_facts {s : State} {v : Fin 32} (h : 3 ≤ s.valveLive[v].attempts + 1) :
    (failedAttempt v s).valveLive[v] = s.valveLive[v].failed ∧ (failedAttempt v s).lcq.closes[v] = none ∧
      (failedAttempt v s).lcq.openMarks v = none ∧ (failedAttempt v s).notice.isSet .valveFault = true ∧
      ∀ b, s.valveLive[v].owner = some b → s.valveLive[v].state ≠ .fault → BedOff b (failedAttempt v s) := by
  rw [failedAttempt_third h]
  obtain ⟨hl, hc, ho⟩ := changeValve_same (latchFault v (withdraw v s)) v s.valveLive[v].failed
    (.inr (.inl (by simp [ValveLive.failed])))
  obtain ⟨hwc, hwo⟩ := withdraw_waits s v
  have hlcq (l : ValveLive) : ((latchFault v (withdraw v s)).setValveLive v l).lcq = (withdraw v s).lcq := by
    simp only [State.setValveLive_lcq, latchFault, setFlag_lcq]
  have hflag : (latchFault v (withdraw v s)).notice.isSet .valveFault = true := by
    simp [latchFault, NoticeUnit.isSet_raise]
  rw [hlcq] at hc ho
  have hkept := (changeValve_frame (latchFault v (withdraw v s)) v s.valveLive[v].failed).flags .valveFault hflag
  have hlive : (changeValve v s.valveLive[v].failed (latchFault v (withdraw v s))).valveLive[v] = s.valveLive[v].failed := by
    rw [hl]
    simp
  have hclose := hc.trans hwc
  have hopens := ho.trans hwo
  refine ⟨hlive, hclose, hopens, hkept, ?_⟩
  intro b hb hs
  have hold : (latchFault v (withdraw v s)).valveLive[v] = { s.valveLive[v] with latched := true } := by
    rw [latchFault_live, withdraw_valveLive]
  rw [changeValve_reported (reported_of_state (by rw [hold]; exact hs)),
    tellOwner_fault _ (by rw [hold]; exact hb) rfl (by rw [hold]; exact hs)]
  exact pass_off _ (earlyEnd_off _ _ _ _)

/-- An acknowledged open starts the pulse of the owner's ON run, and a grant pass leaves that pulse alone. -/
theorem opened_pulse {s : State} {v : Fin 32} {b : Fin 24} {r : Run} (hs : s.valveLive[v].state = .opening)
    (hb : s.valveLive[v].owner = some b) (hf : findRun s b = some r) (hr : r.state = .on) :
    findRun (changeValve v { s.valveLive[v] with state := .opened, attempts := 0 } s) b = some { r with
      pulseStart := some s.partTime
      expiry := some (s.partTime + if r.pulseOn = 0 then r.planned - r.delivered else min r.pulseOn (r.planned - r.delivered)) } := by
  generalize hl : ({ s.valveLive[v] with state := .opened, attempts := 0 } : ValveLive) = l
  have hls : l.state = .opened := by rw [← hl]
  have hlm : l.mode = s.valveLive[v].mode := by rw [← hl]
  have hlo : l.owner = some b := by rw [← hl, ← hb]
  rw [changeValve_reported (reported_of_state (by rw [hs, hls]; simp)), tellOwner_opened _ hb hlm hls hlo]
  have hwf : findRun (writeValve v l s) b = some r := findRun_writeValve s v _ hf (by simp [hr])
  have hbed : r.bed = b := (findRun_mem s hf).2
  refine findRun_pass _ ?_ hr
  simp only [startPulse, hwf, hr, if_true, (writeValve_frame s v l).partTime]
  subst hbed
  exact findRun_putRun_self _ hwf

/-! ## The command leaves, or stays with its marks set -/

/-- The line idle after a transmission whose echo was good. -/
def lineIdle : State := s.setSeq { s.seq with tx := .idle, echoFailures := 0 }

theorem commandEnds_detached (v : Fin 32) (k : CommandKind) (a : Bool) : commandEnds v k true a s = lineIdle s := rfl

theorem openMarks_remarked {v : Fin 32} (es : List FifoEntry) (m : Marks) (h : (openMarksIn es v).isSome = true) :
    openMarksIn (es.map (FifoEntry.remarked v m)) v = some m := by
  induction es with
  | nil => cases h
  | cons e es ih =>
    cases e with
    | openValve w n =>
      by_cases hw : w = v
      · subst hw
        simp [openMarksIn, FifoEntry.remarked]
      · have : openMarksIn (.openValve w n :: es) v = openMarksIn es v := by simp [openMarksIn, hw]
        rw [this] at h
        simpa [openMarksIn, FifoEntry.remarked, hw] using ih h
    | pass a d f =>
      have : openMarksIn (.pass a d f :: es) v = openMarksIn es v := by simp [openMarksIn]
      rw [this] at h
      simpa [openMarksIn, FifoEntry.remarked] using ih h

theorem commandStays_open {v : Fin 32} (h : (s.lcq.openMarks v).isSome = true) :
    (commandStays v .openValve s).lcq.openMarks v = some .tried := openMarks_remarked _ _ h

theorem commandStays_close {v : Fin 32} (h : s.lcq.closes[v].isSome = true) :
    (commandStays v .closeValve s).lcq.closes[v] = some .tried := by
  simp only [commandStays, if_pos h]
  exact LineQueue.withClose_closes_self v _ _

theorem commandStays_work (v : Fin 32) (k : CommandKind) : (commandStays v k s).work = s.work := by
  cases k
  · rfl
  · simp only [commandStays]
    split <;> rfl

theorem commandLeaves_open (v : Fin 32) : (commandLeaves v .openValve s).lcq.openMarks v = none := by
  simp [commandLeaves]

theorem commandLeaves_close (v : Fin 32) : (commandLeaves v .closeValve s).lcq.closes[v] = none :=
  LineQueue.withClose_closes_self v _ _

/-- The end of a close's transaction does not touch the valve's open. -/
theorem close_openMarks (v : Fin 32) (a : Bool) :
    (if a then commandLeaves v .closeValve s else commandStays v .closeValve s).lcq.openMarks v = s.lcq.openMarks v := by
  cases a
  · show (commandStays v .closeValve s).lcq.openMarks v = _
    simp only [commandStays]
    split <;> rfl
  · rfl

end

end Sys2Proof.Machine
end

section
/-! PROOF. The outcome of a valve command (01 R17, 07 R123, R124). -/
namespace Sys2Proof.Machine

section
variable (s : State)

/-- What the end of a SET_OUTPUT transaction leaves of the sequencer, of what is owed, of the reports and of the other
valves. -/
structure CommandEnded (v : Fin 32) (s t : State) : Prop where
  seq : t.seq = (lineIdle s).seq
  clearOwed : t.lcq.clearOwed = s.lcq.clearOwed
  withdrawOwed : t.lcq.withdrawOwed = s.lcq.withdrawOwed
  held : reportsHeld t = reportsHeld s
  passes : lineDowns t.lcq.fifo = lineDowns s.lcq.fifo
  due : NoSwapDue s → NoSwapDue t
  others : ∀ w : Fin 32, w ≠ v → s.seq.state ≠ .running → SameValve w s t

theorem lineDowns_filter (es : List FifoEntry) : lineDowns (es.filter FifoEntry.isPass) = lineDowns es := by
  rw [← lineDowns_eq, ← lineDowns_eq]
  induction es with
  | nil => rfl
  | cons e es ih => cases e <;> simp [ih]

theorem commandEnded (v : Fin 32) (k : CommandKind) (d a : Bool) : CommandEnded v s (commandEnds v k d a s) := by
  have h : Move (.only v) (lineIdle s) (commandEnds v k d a s) := commandEnds_move (c := .only v) s v k d a rfl
  refine ⟨h.seq_idle (by simp [lineIdle]), h.clearOwed, h.withdrawOwed, reportsHeld_congr h.hub, ?_,
    (commandEnds_line s v k d a).noSwapDue, fun w hw hs => ?_⟩
  · rw [← lineDowns_filter, h.passes, lineDowns_filter]
    rfl
  · have := h.other hw hs
    exact ⟨this.live, this.close, this.opens⟩

theorem exec_commandOutcome {v : Fin 32} {k : CommandKind} {a : Byte} {o : Nat} {d : Bool} (reply : Reply)
    (h : s.seq.tx = .command v k a o d) : exec (.commandOutcome reply) s = .next (complete (payClearing (.command v k a o d)
      (commandEnds v k d (acceptAck a o k (singleSlot 40 s.seq.replyWindow) reply) s))) := by
  simp only [exec, execCommandOutcome, h]

/-! ## The cases of an outcome -/

/-- The state in which Valve Control takes an outcome: the command has left, or stays with its marks set. -/
def commandJudged (v : Fin 32) (k : CommandKind) (a : Bool) (s : State) : State :=
  if a then commandLeaves v k (lineIdle s) else commandStays v k (lineIdle s)

theorem commandJudged_valveLive (v : Fin 32) (k : CommandKind) (a : Bool) :
    (commandJudged v k a s).valveLive = s.valveLive := by
  cases a
  · exact commandStays_valveLive (lineIdle s) v k
  · exact commandLeaves_valveLive (lineIdle s) v k

theorem commandEnds_eq (v : Fin 32) (k : CommandKind) (a : Bool) :
    commandEnds v k false a s = valveOutcome v k a (commandJudged v k a s) := rfl

/-- A close's outcome does not touch a valve that is OPENING, nor its open. -/
theorem commandEnds_close_opening {s : State} {v : Fin 32} (a : Bool) (h : s.valveLive[v].state = .opening) :
    (commandEnds v .closeValve false a s).valveLive[v] = s.valveLive[v] ∧
      (commandEnds v .closeValve false a s).lcq.openMarks v = s.lcq.openMarks v := by
  have hl := commandJudged_valveLive s v .closeValve a
  rw [commandEnds_eq, valveOutcome_other a (by rw [hl]; exact h), hl]
  exact ⟨rfl, close_openMarks (lineIdle s) v a⟩

theorem commandEnds_opened {s : State} {v : Fin 32} (h : s.valveLive[v].state = .opening) :
    (commandEnds v .openValve false true s).valveLive[v] = { s.valveLive[v] with state := .opened, attempts := 0 } ∧
      (commandEnds v .openValve false true s).lcq.openMarks v = none := by
  have hl := commandJudged_valveLive s v .openValve true
  have hx := changeValve_same (commandJudged v .openValve true s) v { s.valveLive[v] with state := .opened, attempts := 0 }
    (.inr (.inl (by simp)))
  rw [commandEnds_eq, valveOutcome_open true (by rw [hl]; exact h), if_pos rfl, hl]
  exact ⟨changeValve_live _ v _ (.inr (.inl (by simp))), hx.opens.trans (commandLeaves_open (lineIdle s) v)⟩

theorem commandEnds_opened_pulse {s : State} {v : Fin 32} {b : Fin 24} {r : Run} (h : s.valveLive[v].state = .opening)
    (hb : s.valveLive[v].owner = some b) (hf : findRun s b = some r) (hr : r.state = .on) :
    findRun (commandEnds v .openValve false true s) b = some { r with
      pulseStart := some s.partTime
      expiry := some (s.partTime + if r.pulseOn = 0 then r.planned - r.delivered else min r.pulseOn (r.planned - r.delivered)) } := by
  have hl := commandJudged_valveLive s v .openValve true
  have hruns : (commandJudged v .openValve true s).runs = s.runs := (setFifo_runs (lineIdle s) _)
  have hpart : (commandJudged v .openValve true s).partTime = s.partTime := (commandLeaves_frame (lineIdle s) v .openValve).partTime
  have := opened_pulse (s := commandJudged v .openValve true s) (v := v) (by rw [hl]; exact h) (by rw [hl]; exact hb)
    ((findRun_congr hruns b).trans hf) hr
  rw [commandEnds_eq, valveOutcome_open true (by rw [hl]; exact h), if_pos rfl, this, hpart]

theorem commandEnds_closed {s : State} {v : Fin 32} (h : s.valveLive[v].state = .closing)
    (hm : s.seq.state ≠ .running ∨ s.valveLive[v].mode ≠ .auto) :
    (commandEnds v .closeValve false true s).valveLive[v] =
        { s.valveLive[v] with state := .closed, attempts := 0, assumedOpen := false } ∧
      (commandEnds v .closeValve false true s).lcq.closes[v] = none := by
  have hl := commandJudged_valveLive s v .closeValve true
  have hm' := hm.imp_right (fun x => Or.inr (a := ValveState.closed ≠ .closed) x)
  have hx := changeValve_same (commandJudged v .closeValve true s) v
    { s.valveLive[v] with state := .closed, attempts := 0, assumedOpen := false } hm'
  rw [commandEnds_eq, valveOutcome_close true (by rw [hl]; exact h), if_pos rfl, hl]
  exact ⟨changeValve_live _ v _ hm', hx.close.trans (commandLeaves_close (lineIdle s) v)⟩

theorem commandEnds_fault_closed {s : State} {v : Fin 32} (h : s.valveLive[v].state = .fault) :
    (commandEnds v .closeValve false true s).valveLive[v] = { s.valveLive[v] with attempts := 0, assumedOpen := false } ∧
      (commandEnds v .closeValve false true s).lcq.closes[v] = none := by
  have hl := commandJudged_valveLive s v .closeValve true
  have hm : s.seq.state ≠ .running ∨ s.valveLive[v].state ≠ .closed ∨ s.valveLive[v].mode ≠ .auto := .inr (.inl (by rw [h]; simp))
  have hx := changeValve_same (commandJudged v .closeValve true s) v
    { s.valveLive[v] with attempts := 0, assumedOpen := false } hm
  rw [commandEnds_eq, valveOutcome_fault true (by rw [hl]; exact h), if_pos rfl, hl]
  exact ⟨changeValve_live _ v _ hm, hx.close.trans (commandLeaves_close (lineIdle s) v)⟩

/-- The command waits for a valve in a state in which its outcome counts (07 R124). -/
def Awaited (k : CommandKind) (l : ValveLive) : Prop :=
  k = .openValve ∧ l.state = .opening ∨ k = .closeValve ∧ (l.state = .closing ∨ l.state = .fault)

theorem commandEnds_failed {s : State} {v : Fin 32} {k : CommandKind} (h : Awaited k s.valveLive[v]) :
    commandEnds v k false false s = failedAttempt v (commandStays v k (lineIdle s)) := by
  have hl : (commandStays v k (lineIdle s)).valveLive = s.valveLive := commandStays_valveLive (lineIdle s) v k
  rw [commandEnds_eq]
  show valveOutcome v k false (commandStays v k (lineIdle s)) = _
  rcases h with ⟨rfl, h⟩ | ⟨rfl, h | h⟩
  · rw [valveOutcome_open false (by rw [hl]; exact h)]
    rfl
  · rw [valveOutcome_close false (by rw [hl]; exact h)]
    rfl
  · rw [valveOutcome_fault false (by rw [hl]; exact h)]
    rfl

theorem commandEnds_low {s : State} {v : Fin 32} {k : CommandKind} (h : Awaited k s.valveLive[v])
    (ha : s.valveLive[v].attempts + 1 < 3) : commandEnds v k false false s = (commandStays v k (lineIdle s)).setValveLive v
      { s.valveLive[v] with attempts := s.valveLive[v].attempts + 1 } := by
  have hl : (commandStays v k (lineIdle s)).valveLive = s.valveLive := commandStays_valveLive (lineIdle s) v k
  rw [commandEnds_failed h, failedAttempt_low (by rw [hl]; exact ha), hl]

end

end Sys2Proof.Machine
end

section
/-! PROOF. The outcome of a valve command, settled (01 R17, R19, 07 R123, R124). -/
namespace Sys2Proof.Machine

section
variable (s : State)

/-! ## The open in flight is withdrawn after all (log 13) -/

theorem foldl_single {α : Type} {f : α → Fin 32 → α} (v : Fin 32) (h : ∀ a w, w ≠ v → f a w = a) (a : α) :
    (List.finRange 32).foldl f a = f a v := by
  have skip : ∀ (vs : List (Fin 32)) (a : α), v ∉ vs → vs.foldl f a = a := by
    intro vs
    induction vs with
    | nil => exact fun _ _ => rfl
    | cons w ws ih =>
      intro a hv
      obtain ⟨hw, hws⟩ := List.ne_and_not_mem_of_not_mem_cons hv
      rw [List.foldl_cons, h a w (Ne.symm hw), ih a hws]
  obtain ⟨pre, post, hsplit⟩ := List.append_of_mem (List.mem_finRange v)
  have hn : (pre ++ v :: post).Nodup := hsplit ▸ List.nodup_finRange 32
  obtain ⟨-, hvp, hdis⟩ := List.nodup_append.1 hn
  rw [hsplit, List.foldl_append, List.foldl_cons, skip pre a fun k => hdis v k v (by simp) rfl,
    skip post _ (List.nodup_cons.1 hvp).1]

theorem closeRequest_openMarks {s : State} {v : Fin 32} (h : s.lcq.openMarks v = none) :
    (closeRequest v s).lcq.openMarks v = none := by
  by_cases hc : s.lcq.closes[v].isSome = true
  · rw [closeRequest_kept s hc, h]
  · have hn : s.lcq.closes[v] = none := by simpa using hc
    have hr : closeRequest v s = setClose v (some .fresh) (if flying s v .openValve then detach v s else s) := by
      simp [closeRequest, closeResult, hn, h]
    rw [hr]
    show (if flying s v .openValve then detach v s else s).lcq.openMarks v = none
    split
    · rw [detach_lcq, h]
    · exact h

/-- The sent open of an OPENING valve leaves the FIFO: the valve is CLOSING, with a close waiting (07 R127). -/
theorem clearFlown_sent {s : State} {v : Fin 32} {m : Marks} (ho : s.valveLive[v].state = .opening)
    (hm : s.lcq.openMarks v = some m) (hsent : m.sent = true) :
    (clearFlown v s).valveLive[v].state = .closing ∧ (clearFlown v s).lcq.openMarks v = none ∧
      (clearFlown v s).lcq.closes[v].isSome = true ∧ (clearFlown v s).lcq.withdrawOwed = s.lcq.withdrawOwed := by
  obtain ⟨order, n, -, he⟩ := clearEntries_eq (FifoEntry.opens v) s
  generalize hu : leaveFifo (FifoEntry.opens v) order n s = u at he
  have hself : openMarksIn (s.lcq.fifo.filter (FifoEntry.opens v)) v = some m := by
    rw [← hm]
    exact openMarksIn_congr (by rw [List.filter_filter]; simp)
  have hother (w : Fin 32) (hw : w ≠ v) : openMarksIn (s.lcq.fifo.filter (FifoEntry.opens v)) w = none := by
    rw [openMarksIn_eq_none, List.filter_filter, List.filter_eq_nil_iff]
    intro e _ he
    cases e with
    | openValve x y =>
      simp only [FifoEntry.opens_openValve, Bool.and_eq_true, beq_iff_eq] at he
      exact hw (he.1.symm.trans he.2)
    | pass a d f => simp at he
  have hone : clearFlown v s = openWithdrawn v true u := by
    rw [clearFlown, he, withdrawOpens, foldl_single v fun t w hw => by rw [hother w hw], hself]
    show openWithdrawn v m.sent u = _
    rw [hsent]
  have hlive : u.valveLive[v] = s.valveLive[v] := by rw [← hu, leaveFifo_valveLive]
  have hnone : u.lcq.openMarks v = none := by
    rw [← hu, leaveFifo_lcq]
    show openMarksIn (s.lcq.fifo.filter fun e => !e.opens v) v = none
    rw [openMarksIn_eq_none, List.filter_filter]
    simp
  have howed : u.lcq.withdrawOwed = s.lcq.withdrawOwed := by rw [← hu, leaveFifo_lcq]
  obtain ⟨h1, h2⟩ := openWithdrawn_sent (s := u) (v := v) (by rw [hlive]; exact ho) hnone
  have hopens : (openWithdrawn v true u).lcq.openMarks v = none := by
    simp only [openWithdrawn, hlive, ho, if_true]
    exact (changeValve_same (closeRequest v u) v _ (.inr (.inl (by simp)))).opens.trans (closeRequest_openMarks hnone)
  rw [hone]
  exact ⟨by rw [h1], hopens, h2, (openWithdrawn_move (c := .all) u v true (.inl trivial)).withdrawOwed.trans howed⟩

/-- So it is at the end of a transaction after which a withdrawal was owed. -/
theorem payClearing_withdrawn {s : State} {v : Fin 32} {m : Marks} (a : Byte) (o : Nat) (hc : s.lcq.clearOwed = false)
    (hw : s.lcq.withdrawOwed = true) (ho : s.valveLive[v].state = .opening) (hm : s.lcq.openMarks v = some m)
    (hsent : m.sent = true) :
    let t := payClearing (.command v .openValve a o false) s
    t.valveLive[v].state = .closing ∧ t.lcq.openMarks v = none ∧ t.lcq.closes[v].isSome = true ∧ t.lcq.withdrawOwed = false := by
  intro t
  have ht : t = clearFlown v (s.setQueue { s.lcq with withdrawOwed := false }) := by
    show payClearing _ s = _
    simp only [payClearing]
    rw [if_neg (by simp [hc]), if_pos hw]
  rw [ht]
  exact clearFlown_sent (s := s.setQueue { s.lcq with withdrawOwed := false }) ho hm hsent

theorem lineIdle_rested {s : State} (h : Rested s) : Rested (lineIdle s) := h.setSeq _

/-! ## The end of the step -/

/-- What the end of the step leaves of a valve is what the whole command leaves of it. -/
theorem complete_valve {s : State} (hd : NoSwapDue s) (w : Fin 32) (hg : ¬ Grantable s w)
    (ho : s.lcq.openMarks w = none ∨ s.valveLive[w].state ≠ .opening) : ValveKept w s (complete s) :=
  (settle_valve hd w hg ho).trans ⟨by rw [complete, arbitrate_valveLive], by rw [complete, arbitrate_lcq],
    .inl (by rw [complete, arbitrate_lcq]), fun h => by rw [complete, arbitrate_lcq, h],
    fun h => by rwa [complete, arbitrate_seq] at h⟩

theorem not_grantable_of_state {w : Fin 32} (h : s.valveLive[w].state ≠ .closed) : ¬ Grantable s w := fun g => h g.2.1

/-- A clearing that entry to STOPPED left owed follows the outcome (01 R19). -/
theorem outcome_cleared {s : State} {v : Fin 32} {k : CommandKind} {a : Byte} {o : Nat} {d : Bool} (b : Bool)
    (hc : s.lcq.clearOwed = true) (hm : s.seq.state.marking = false) (hd : NoSwapDue s) :
    let t := complete (payClearing (.command v k a o d) (commandEnds v k d b s))
    t.seq = (lineIdle s).seq ∧
      FifoCleared s.lcq.fifo [] (fun w => w ≠ v ∨ d = true ∨ k = .closeValve) (fun w => w ≠ v ∨ d = true) s t ∧
      (∀ m, (commandEnds v k d b s).valveLive[v].state = .opening → (commandEnds v k d b s).lcq.openMarks v = some m →
        m.sent = true → t.valveLive[v] = { (commandEnds v k d b s).valveLive[v] with state := .closing, attempts := 0 } ∧
          t.lcq.closes[v].isSome = true) ∧
      ((commandEnds v k d b s).lcq.openMarks v = none → t.valveLive[v] = (commandEnds v k d b s).valveLive[v]) := by
  intro t
  obtain ⟨hrun, hstop⟩ := not_running_of_not_marking hm
  have hend := commandEnded s v k d b
  generalize hx : commandEnds v k d b s = x at *
  have hpay : payClearing (.command v k a o d) x = clearFifo x := by
    simp only [payClearing, hend.clearOwed, hc, if_true]
  have hxrun : x.seq.state ≠ .running := by rw [hend.seq]; exact hrun
  have hseq : (clearFifo x).seq = x.seq := clearFifo_seq (by rw [hend.seq]; simp [lineIdle])
  have ht : t = complete (clearFifo x) := by
    show complete (payClearing _ (commandEnds v k d b s)) = _
    rw [hx, hpay]
  obtain ⟨hl, hv, hs, hh, -⟩ := complete_still ((clearFifo_field x).line.noSwapDue (hend.due hd)) (by rwa [hseq])
    (by rw [hseq, hend.seq]; exact hstop)
  obtain ⟨-, -, -, -, hopened, -⟩ := clearFifo_cleared hxrun
  have hother (w : Fin 32) (hw : w ≠ v ∨ d = true) : SameValve w s x := by
    rcases hw with hw | rfl
    · exact hend.others w hw hrun
    · rw [← hx, commandEnds_detached]
      exact ⟨rfl, rfl, rfl⟩
  rw [ht]
  refine ⟨by rw [hs, hseq, hend.seq], FifoCleared.after (t := clearFifo x) ?_ hl hv hh, fun m ho hmk hsent => ?_, fun hn => ?_⟩
  · have hfc : FifoCleared s.lcq.fifo [] (fun _ => True) (fun _ => True) x (clearFifo x) := by
      obtain ⟨h1, h2, h3, h4, h5⟩ := clearFifo_cleared hxrun
      exact ⟨h1, h2, h3, by rwa [hend.passes] at h4, h5⟩
    refine hfc.before (by rw [hend.held, List.append_nil]) (fun w hw hos => ?_) fun w hw => (hother w hw).close
    by_cases hwv : w ≠ v ∨ d = true
    · exact ⟨(hother w hwv).live, (hother w hwv).opens⟩
    · obtain ⟨hwv', hdf⟩ := not_or.1 hwv
      obtain rfl := not_not.1 hwv'
      obtain rfl : d = false := by simpa using hdf
      obtain rfl : k = .closeValve := (hw.resolve_left hwv').resolve_left hdf
      rw [← hx]
      exact commandEnds_close_opening b hos
  · obtain ⟨h1, h2⟩ := (hopened v m trivial ho hmk).2 hsent
    rw [hv, hl]
    exact ⟨h1, h2⟩
  · rw [hv]
    exact (clearFifo_valve hxrun v (.inl hn)).1

/-- Settles O27: each outcome leaves the valve as `commandEnds` says, and the clearing, the withdrawal or the end of the step
that follows moves it no further. -/
theorem commandOutcomeMovesTheValve : Obligations.CommandOutcomeMovesTheValve := by
  intro v k a o d reply s htx hr hd l ended answered
  have hx := exec_commandOutcome s reply htx
  have hans : acceptAck a o k (singleSlot 40 s.seq.replyWindow) reply = answered := rfl
  rw [hans] at hx
  clear_value answered
  have hend := commandEnded s v k d answered
  refine ⟨?_, fun hc hm => ?_, fun hc hw hdf hk ho hi ha hlow => ?_, fun hc hw hdt => ?_, fun hc hw hdf => ?_⟩
  · rw [← hans]
    exact acceptAck_iff_heard a o k _ reply
  · obtain ⟨h1, h2, h3, h4⟩ := outcome_cleared (v := v) (k := k) (a := a) (o := o) (d := d) answered hc hm hd
    refine ⟨_, hx, h1, h2, fun hdf hk ho hi => ?_⟩
    subst hdf hk
    refine ⟨fun hans' => ?_, fun hans' hlow => ?_⟩
    · subst hans'
      obtain ⟨g1, g2⟩ := commandEnds_opened ho
      rw [h4 g2, g1]
    · subst hans'
      have hlw := commandEnds_low (s := s) (v := v) (k := .openValve) (.inl ⟨rfl, ho⟩) hlow
      have hmk : (commandEnds v .openValve false false s).lcq.openMarks v = some .tried := by
        rw [hlw]
        exact commandStays_open (lineIdle s) hi
      have hlv : (commandEnds v .openValve false false s).valveLive[v] = { l with attempts := l.attempts + 1 } := by
        rw [hlw]
        simp [l]
      obtain ⟨g1, g2⟩ := h3 _ (by rw [hlv]; exact ho) hmk rfl
      exact ⟨by rw [g1, hlv], g2⟩
  · subst hdf hk ha
    have hlw := commandEnds_low (s := s) (v := v) (k := .openValve) (.inl ⟨rfl, ho⟩) hlow
    have hmk : (commandEnds v .openValve false false s).lcq.openMarks v = some .tried := by
      rw [hlw]
      exact commandStays_open (lineIdle s) hi
    have hlv : (commandEnds v .openValve false false s).valveLive[v].state = .opening := by
      rw [hlw]
      simpa [l] using ho
    obtain ⟨g1, g2, g3, g4⟩ := payClearing_withdrawn a o (hend.clearOwed.trans hc) (hend.withdrawOwed.trans hw) hlv hmk rfl
    have hdp := (payClearing_field _ (.command v .openValve a o false)).line.noSwapDue (hend.due hd)
    obtain ⟨kl, kc, ko, kw, -⟩ := complete_valve hdp v (not_grantable_of_state _ (by rw [g1]; simp)) (.inl g2)
    exact ⟨_, hx, by rw [kl, g1], ko.elim (fun e => e.trans g2) id, by rw [kc, g3], kw g4⟩
  · subst hdt
    rw [hx, commandEnds_detached, payClearing_none _ (by exact hc) (by exact hw), complete_rested (lineIdle_rested hr)]
    rfl
  · subst hdf
    rw [payClearing_none _ (hend.clearOwed.trans hc) (hend.withdrawOwed.trans hw)] at hx
    have hdc := hend.due hd
    refine ⟨_, hx, fun hs => ?_, fun hk ho ha => ?_, fun hk ho ha hm => ?_, fun hk ho ha => ?_, fun hw' ha => ⟨fun hlow => ?_,
      fun h3 => ?_⟩⟩
    · rw [complete, arbitrate_seq, (settle_move hdc (by rw [hend.seq]; exact hs)).seq_idle (by rw [hend.seq]; simp [lineIdle]),
        hend.seq]
      rfl
    · subst hk ha
      obtain ⟨g1, g2⟩ := commandEnds_opened ho
      obtain ⟨kl, -, ko, -, -⟩ := complete_valve hdc v (not_grantable_of_state _ (by rw [g1]; simp)) (.inl g2)
      refine ⟨by rw [kl, g1], ko.elim (fun e => e.trans g2) id, fun _ hrun b r hb hf hon => ?_⟩
      have hp := commandEnds_opened_pulse ho hb hf hon
      rw [complete, findRun_congr (arbitrate_runs _)]
      exact settle_findRun hdc (by rw [hend.seq]; simp [lineIdle, hrun]) hp hon
    · subst hk ha
      obtain ⟨g1, g2⟩ := commandEnds_closed ho hm
      have hng : ¬ Grantable (commandEnds v .closeValve false true s) v := by
        rintro ⟨h1, -, h3⟩
        rw [hend.seq] at h1
        rw [g1] at h3
        exact hm.elim (· h1) (· h3)
      obtain ⟨kl, kc, -⟩ := complete_valve hdc v hng (.inr (by rw [g1]; simp))
      exact ⟨by rw [kl, g1], by rw [kc, g2]⟩
    · subst hk ha
      obtain ⟨g1, g2⟩ := commandEnds_fault_closed ho
      have hst : (commandEnds v .closeValve false true s).valveLive[v].state = .fault := by rw [g1]; exact ho
      obtain ⟨kl, kc, -⟩ := complete_valve hdc v (not_grantable_of_state _ (by rw [hst]; simp)) (.inr (by rw [hst]; simp))
      exact ⟨by rw [kl, g1], by rw [kc, g2]⟩
    · subst ha
      have hlw := commandEnds_low (s := s) (v := v) (k := k) hw' hlow
      have hwork : WorkLaw (commandEnds v k false false s) := by
        rw [hlw]
        exact (commandStays_work (lineIdle s) v k).trans hr.1
      rw [complete, settle_workless hwork, arbitrate_valveLive, arbitrate_lcq]
      rw [hlw]
      refine ⟨by simp [l], fun hk hi => ?_, fun hk hi => ?_⟩
      · subst hk
        exact commandStays_close (lineIdle s) hi
      · subst hk
        exact commandStays_open (lineIdle s) hi
    · subst ha
      have hl : (commandStays v k (lineIdle s)).valveLive = s.valveLive := commandStays_valveLive (lineIdle s) v k
      have hf := commandEnds_failed (s := s) (v := v) (k := k) hw'
      obtain ⟨g1, g2, g3, g4, g5⟩ := failedAttempt_facts (s := commandStays v k (lineIdle s)) (v := v) (by rw [hl]; exact h3)
      rw [← hf] at g1 g2 g3 g4 g5
      rw [hl] at g1 g5
      obtain ⟨kl, kc, ko, -, -⟩ := complete_valve hdc v (not_grantable_of_state _ (by rw [g1]; simp [ValveLive.failed])) (.inl g3)
      refine ⟨by rw [kl, g1]; rfl, ?_, ?_, fun _ b hb hs => ?_⟩
      · rw [commandWaits, kc, g2, ko.elim (fun e => e.trans g3) id]
        rfl
      · rw [complete, arbitrate_isSet]
        exact (settle_settle _).flags _ g4
      · rw [complete, arbitrate_runs]
        exact settle_off hdc (g5 b hb hs)

end

end Sys2Proof.Machine
end

section
/-! SUPPORT. A poll's outcome at the Node Table: presence, change flag and the FIELD_REPORT (03 R38 to R46). -/
namespace Sys2Proof.Machine

/-- One node, and every valve. -/
def Scope.node1 (n : Fin 48) : Scope := { valve := fun _ => True, node := fun m => m = n, opens := False, drops := True }

section
variable (s : State)

/-! ## Nodes through moves -/

theorem Move.nodeLive {s t : State} (h : Move .valves s t) : t.nodeLive = s.nodeLive :=
  Vector.ext fun i hi => h.nodes ⟨i, hi⟩ (fun x => x)

theorem presenceChanged_live (n : Fin 48) (l : NodeLive) : (presenceChanged n l s).nodeLive[n] = { l with changed := true } := by
  simp [presenceChanged]

theorem presenceChanged_flag (n : Fin 48) (l : NodeLive) : (presenceChanged n l s).notice.isSet .nodeChange = true := by
  simp [presenceChanged, NoticeUnit.isSet_raise]

theorem setNodeLive_live (n : Fin 48) (l : NodeLive) : (s.setNodeLive n l).nodeLive[n] = l := by simp

/-- A poll's miss: its row for the entry's presence (03 R39). -/
theorem pollMiss_facts (n : Fin 48) :
    (s.nodeLive[n].presence = .absent →
      (pollMiss n s).nodeLive[n] = { s.nodeLive[n] with misses := min 3 (s.nodeLive[n].misses + 1) }) ∧
    (s.nodeLive[n].presence = .missing → (pollMiss n s).nodeLive[n] = { s.nodeLive[n] with misses := 3 }) ∧
    (s.nodeLive[n].presence = .present → s.nodeLive[n].misses + 1 < 3 →
      (pollMiss n s).nodeLive[n] = { s.nodeLive[n] with misses := s.nodeLive[n].misses + 1 }) ∧
    (s.nodeLive[n].presence = .present → 3 ≤ s.nodeLive[n].misses + 1 →
      (pollMiss n s).nodeLive[n] = { presence := .missing, misses := 3, changed := true, forwarded := none } ∧
        (pollMiss n s).notice.isSet .nodeChange = true) := by
  refine ⟨fun h => ?_, fun h => ?_, fun h hm => ?_, fun h hm => ?_⟩
  · have he : pollMiss n s = s.setNodeLive n { s.nodeLive[n] with misses := min 3 (s.nodeLive[n].misses + 1) } := by
      simp only [pollMiss]
      rw [h]
    rw [he, setNodeLive_live]
  · have he : pollMiss n s = s.setNodeLive n { s.nodeLive[n] with misses := 3 } := by
      simp only [pollMiss]
      rw [h]
    rw [he, setNodeLive_live]
  · have he : pollMiss n s = s.setNodeLive n { s.nodeLive[n] with misses := s.nodeLive[n].misses + 1 } := by
      simp only [pollMiss]
      rw [h]
      exact if_pos hm
    rw [he, setNodeLive_live]
  · have he : pollMiss n s = nodeMissing n s.nodes[n].active.kind
        (presenceChanged n { s.nodeLive[n] with presence := .missing, misses := 3, forwarded := none } s) := by
      simp only [pollMiss]
      rw [h]
      exact if_neg (by omega)
    rw [he, (nodeMissing_move (c := .valves) _ n _ fun _ => trivial).nodeLive, presenceChanged_live]
    exact ⟨rfl, (nodeMissing_field _ n _).flags _ (presenceChanged_flag _ _ _)⟩

/-- A good reply's row for the entry's presence (03 R39). -/
theorem pollHeard_facts (n : Fin 48) :
    (pollHeard n s).nodeLive[n].presence = .present ∧ (pollHeard n s).nodeLive[n].misses = 0 ∧
    (pollHeard n s).nodeLive[n].forwarded = s.nodeLive[n].forwarded ∧
    (s.nodeLive[n].presence = .present → (pollHeard n s).nodeLive[n].changed = s.nodeLive[n].changed) ∧
    (s.nodeLive[n].presence ≠ .present →
      (pollHeard n s).nodeLive[n].changed = true ∧ (pollHeard n s).notice.isSet .nodeChange = true) := by
  by_cases h : s.nodeLive[n].presence = .present
  · have he : pollHeard n s = s.setNodeLive n { s.nodeLive[n] with misses := 0 } := by simp only [pollHeard, h]
    rw [he, setNodeLive_live]
    exact ⟨h, rfl, rfl, fun _ => rfl, fun k => absurd h k⟩
  · have he : ∃ prior, pollHeard n s = nodePresent n s.nodes[n].active.kind prior
        (presenceChanged n { s.nodeLive[n] with presence := .present, misses := 0 } s) := by
      unfold pollHeard
      dsimp only
      split
      next e => exact absurd e h
      next => exact ⟨_, rfl⟩
    obtain ⟨prior, he⟩ := he
    rw [he, (nodePresent_move (c := .valves) _ n _ prior fun _ => trivial).nodeLive, presenceChanged_live]
    exact ⟨rfl, rfl, rfl, fun k => absurd k h, fun _ => ⟨rfl, (nodePresent_field _ n _ prior).flags _ (presenceChanged_flag _ _ _)⟩⟩

/-! ## The FIELD_REPORT -/

/-- The forwarding policy, in the terms of 03 R44. -/
theorem forwards_iff (r : NodeRec) (last : Option Int) (x : Int) :
    forwards r last x = true ↔ r.forward = 1 ∨ r.forward = 2 ∧ ∀ y, last = some y → r.delta ≤ (x - y).natAbs := by
  unfold forwards
  split
  next h => simp [h]
  next h => cases last <;> simp [h]
  next h1 h2 => simp only [Bool.false_eq_true, false_iff, not_or, not_and]; exact ⟨h1, fun k => absurd k h2⟩

/-- A report handed over for the entry. -/
def reportOf (n : Fin 48) (k : NodeKind) (p : List Byte) : HubFrame :=
  fieldReportFrame n s.nodes[n].active.address k s.partTime p

theorem forwardReport_not {s : State} {n : Fin 48} {k : NodeKind} {p : List Byte}
    (h : forwards s.nodes[n].active s.nodeLive[n].forwarded (firstValue k p) = false) : forwardReport n k p s = s := by
  simp only [forwardReport, h, Bool.false_eq_true, if_false]

theorem forwardReport_fits {s : State} {n : Fin 48} {k : NodeKind} {p : List Byte}
    (h : forwards s.nodes[n].active s.nodeLive[n].forwarded (firstValue k p) = true) (hf : reportFits s = true) :
    forwardReport n k p s = (s.setHub { s.hub with reports := s.hub.reports ++ [reportOf s n k p] }).setNodeLive n
      { s.nodeLive[n] with forwarded := some (firstValue k p) } := by
  simp only [forwardReport, h, hf, if_true, offerReport]
  rfl

theorem forwardReport_lost {s : State} {n : Fin 48} {k : NodeKind} {p : List Byte}
    (h : forwards s.nodes[n].active s.nodeLive[n].forwarded (firstValue k p) = true) (hf : reportFits s = false) :
    forwardReport n k p s = setFlag .reportLost s := by
  simp only [forwardReport, h, hf, offerReport, Bool.false_eq_true, if_false, if_true]

/-- Forwarding touches no presence, no miss count, no change flag, and no other entry. -/
theorem forwardReport_presence (n : Fin 48) (k : NodeKind) (p : List Byte) :
    (forwardReport n k p s).nodeLive[n].presence = s.nodeLive[n].presence ∧
    (forwardReport n k p s).nodeLive[n].misses = s.nodeLive[n].misses ∧
    (forwardReport n k p s).nodeLive[n].changed = s.nodeLive[n].changed ∧
    ∀ m : Fin 48, m ≠ n → (forwardReport n k p s).nodeLive[m] = s.nodeLive[m] := by
  cases hw : forwards s.nodes[n].active s.nodeLive[n].forwarded (firstValue k p)
  · rw [forwardReport_not hw]
    exact ⟨rfl, rfl, rfl, fun _ _ => rfl⟩
  · cases hf : reportFits s
    · rw [forwardReport_lost hw hf]
      exact ⟨rfl, rfl, rfl, fun _ _ => rfl⟩
    · rw [forwardReport_fits hw hf, setNodeLive_live]
      refine ⟨rfl, rfl, rfl, fun m hm => ?_⟩
      simp [Fin.val_ne_of_ne hm.symm]

/-! ## The outcome, judged -/

theorem pollResult_miss {s : State} {n : Fin 48} {report : Option (NodeKind × List Byte)}
    (h : ∀ p, report ≠ some (s.nodes[n].active.kind, p)) : pollResult n report s = pollMiss n s := by
  match report with
  | none => rfl
  | some (k, p) =>
    have hk : s.nodes[n].active.kind ≠ k := fun e => h p (by rw [e])
    simp only [pollResult, if_neg hk]

/-- The entry after a good reply, before its report is forwarded. -/
def pollConsumed (n : Fin 48) (p : List Byte) (s : State) : State :=
  consumeReport n s.nodes[n].active.kind p (pollHeard n s)

theorem pollResult_good {s : State} {n : Fin 48} (p : List Byte) :
    pollResult n (some (s.nodes[n].active.kind, p)) s = forwardReport n s.nodes[n].active.kind p (pollConsumed n p s) := by
  simp only [pollResult, if_pos, pollConsumed]

/-- What the consumer of a good reply leaves alone. -/
theorem pollConsumed_facts (n : Fin 48) (p : List Byte) :
    (pollConsumed n p s).nodeLive = (pollHeard n s).nodeLive ∧ (pollConsumed n p s).nodes = s.nodes ∧
    (pollConsumed n p s).partTime = s.partTime ∧ (pollConsumed n p s).hub = s.hub ∧
    (∀ f, (pollHeard n s).notice.isSet f = true → (pollConsumed n p s).notice.isSet f = true) ∧
    ∀ m : Fin 48, m ≠ n → (pollConsumed n p s).nodeLive[m] = s.nodeLive[m] := by
  have hc := consumeReport_move (c := .valves) (pollHeard n s) n s.nodes[n].active.kind p fun _ => trivial
  have hh := pollHeard_move (c := .node1 n) s n rfl fun _ => trivial
  have fc := consumeReport_field (pollHeard n s) n s.nodes[n].active.kind p
  have fh := pollHeard_field s n
  refine ⟨hc.nodeLive, (fc.nodes.trans fh.nodes), fc.partTime.trans fh.partTime, hc.hub.trans hh.hub, fc.flags, fun m hm => ?_⟩
  rw [pollConsumed, hc.nodeLive]
  exact hh.nodes m hm

end

end Sys2Proof.Machine
end

section
/-! PROOF. The outcome of a poll (03 R38 to R46). -/
namespace Sys2Proof.Machine

section
variable (s : State)

theorem enterStopped_tx (h : s.seq.tx = .idle) : (enterStopped s).seq.tx = .idle := by
  simp only [enterStopped]
  split
  · exact marksStop_tx _ rfl
  · exact marksStop_tx _ h

theorem examineStop_tx (h : s.seq.tx = .idle) : (examineStop s).seq.tx = .idle := by
  simp only [examineStop]
  split
  · exact enterStopped_tx _ h
  · exact h

theorem settle_tx {s : State} (hd : NoSwapDue s) (h : s.seq.tx = .idle) : (settle s).seq.tx = .idle :=
  settleTurns_induction (P := fun t => t.seq.tx = .idle) (fun t _ h => examineStop_tx t h)
    (fun t _ h => (pass_move (c := .all) t).tx_idle h) (fun _ _ h => h) 1024 hd h

theorem payClearing_tx {s : State} (tx : Transmission) (h : s.seq.tx = .idle) : (payClearing tx s).seq.tx = .idle := by
  simp only [payClearing]
  split
  · exact clearEntries_tx _ _ h
  · split
    · split
      · exact clearEntries_tx _ _ h
      · exact h
    · exact h

/-- What follows a poll's outcome within its step: nothing is sensed, and where neither a clearing is owed nor STOPPING may
end, no report is handed over. -/
structure PollFollowed (x t : State) : Prop where
  sensors : SensorsKept x t
  tx : t.seq.tx = .idle
  echo : t.seq.echoFailures = x.seq.echoFailures
  flags : ∀ f, x.notice.isSet f = true → t.notice.isSet f = true
  held : x.lcq.clearOwed = false → x.seq.state ≠ .stopping → reportsHeld t = reportsHeld x
  alone : Rested x → x.lcq.clearOwed = false → t = arbitrate (x.setQueue { x.lcq with withdrawOwed := false })

theorem pollFollowed (n : Fin 48) (a : Byte) {x : State} (hx : x.seq.tx = .idle) (hd : NoSwapDue x) :
    PollFollowed x (complete (payClearing (.poll n a) x)) := by
  have hp := payClearing_field x (.poll n a)
  have hdp := hp.line.noSwapDue hd
  have hquiet (h : x.lcq.clearOwed = false) := payClearing_quiet (tx := .poll n a) h (by simp)
  have hs := settle_settle (payClearing (.poll n a) x)
  refine ⟨?_, ?_, ?_, fun f h => ?_, fun h hst => ?_, fun hr h => ?_⟩
  · have h := (payClearing_sensors x (.poll n a)).trans (settle_sensors hdp)
    exact h.trans ⟨by rw [complete, arbitrate_nodeLive], by rw [complete, arbitrate_probes], by rw [complete, arbitrate_weather],
      by rw [complete, arbitrate_locks]⟩
  · rw [complete, arbitrate_seq]
    exact settle_tx hdp (payClearing_tx _ hx)
  · rw [complete, arbitrate_seq, hs.seq, hp.seq]
  · rw [complete, arbitrate_isSet]
    exact hs.flags f (hp.flags f h)
  · rw [hquiet h] at hdp ⊢
    rw [complete, reportsHeld_arbitrate, reportsHeld_congr (settle_move hdp hst).hub]
    rfl
  · rw [hquiet h, complete_rested (hr.setQueue _)]

/-- The state in which the Node Table takes the outcome, with `c` as the choice counter. -/
def pollTaken (c : Nat) : State := { lineIdle s with choice := c }

theorem pollTaken_due {s : State} (c : Nat) (h : NoSwapDue s) : NoSwapDue (pollTaken s c) := fun x => h x

/-- A poll whose outcome no entry takes. -/
theorem pollEndsAlone_of (n : Fin 48) (a : Byte) (c : Nat) (hd : NoSwapDue s) :
    PollEndsAlone c s (complete (payClearing (.poll n a) (pollTaken s c))) := by
  have h := pollFollowed n a (x := pollTaken s c) rfl (pollTaken_due c hd)
  obtain ⟨h1, h2, h3, h4⟩ := h.sensors
  exact ⟨h1, h2, h3, h4, fun hr hc => h.alone (hr.congr rfl rfl rfl rfl rfl rfl) hc⟩

/-- An outcome is taken by no entry, lost by one that has moved, or taken as the entry stands (log 36). -/
theorem pollDelivered_cases (n : Fin 48) (a : Byte) (report : Option (NodeKind × List Byte)) :
    (s.nodes[n].active.used = false → pollDelivered n a report (lineIdle s) = pollTaken s s.choice) ∧
    (s.nodes[n].active.used = true →
      byteOf s.nodes[n].active.address ≠ a ∧ pollDelivered n a report (lineIdle s) = pollTaken s (s.choice + 1) ∨
      ∃ c, pollDelivered n a report (lineIdle s) = pollResult n report (pollTaken s c)) := by
  refine ⟨fun h => ?_, fun h => ?_⟩
  · exact if_neg (by rw [Bool.not_eq_true]; exact h)
  · have hu : pollDelivered n a report (lineIdle s) = if byteOf s.nodes[n].active.address = a then
        pollResult n report (lineIdle s)
        else if Config.takesMovedPoll s.choice then pollResult n report (pollTaken s (s.choice + 1))
        else pollTaken s (s.choice + 1) := if_pos h
    rw [hu]
    split
    · exact .inr ⟨s.choice, rfl⟩
    next ha =>
      split
      · exact .inr ⟨_, rfl⟩
      · exact .inl ⟨ha, rfl⟩

/-! ## A good reply, and a miss -/

theorem forwardReport_lcq (n : Fin 48) (k : NodeKind) (p : List Byte) : (forwardReport n k p s).lcq = s.lcq := by
  cases hw : forwards s.nodes[n].active s.nodeLive[n].forwarded (firstValue k p)
  · rw [forwardReport_not hw]
  · cases hf : reportFits s
    · rw [forwardReport_lost hw hf]
      rfl
    · rw [forwardReport_fits hw hf]
      rfl

/-- The forwarding of a good reply: left out, entered with its value, or dropped with REPORT_LOST (03 R44 to R46). -/
theorem forwardReport_facts (n : Fin 48) (k : NodeKind) (p : List Byte) :
    (forwards s.nodes[n].active s.nodeLive[n].forwarded (firstValue k p) = false →
      reportsHeld (forwardReport n k p s) = reportsHeld s ∧
        (forwardReport n k p s).nodeLive[n].forwarded = s.nodeLive[n].forwarded) ∧
    (forwards s.nodes[n].active s.nodeLive[n].forwarded (firstValue k p) = true → reportFits s = true →
      reportsHeld (forwardReport n k p s) = reportsHeld s ++ [reportOf s n k p] ∧
        (forwardReport n k p s).nodeLive[n].forwarded = some (firstValue k p)) ∧
    (forwards s.nodes[n].active s.nodeLive[n].forwarded (firstValue k p) = true → reportFits s = false →
      reportsHeld (forwardReport n k p s) = reportsHeld s ∧
        (forwardReport n k p s).nodeLive[n].forwarded = s.nodeLive[n].forwarded ∧
        (forwardReport n k p s).notice.isSet .reportLost = true) := by
  refine ⟨fun hw => ?_, fun hw hf => ?_, fun hw hf => ?_⟩
  · rw [forwardReport_not hw]
    exact ⟨rfl, rfl⟩
  · rw [forwardReport_fits hw hf, setNodeLive_live]
    have hwait : s.hub.passWait = [] := by
      simp only [reportFits, Bool.and_eq_true, List.isEmpty_iff] at hf
      exact hf.2
    refine ⟨?_, rfl⟩
    simp [reportsHeld_eq, hwait]
  · rw [forwardReport_lost hw hf]
    exact ⟨rfl, rfl, by simp [NoticeUnit.isSet_raise]⟩

/-- The outcome of a poll that its entry takes, from a state that differs from `s` in the choice counter alone. -/
theorem pollTaken_good (n : Fin 48) (c : Nat) (p : List Byte) :
    let x := pollResult n (some (s.nodes[n].active.kind, p)) (pollTaken s c)
    let l := s.nodeLive[n]
    x.lcq.clearOwed = s.lcq.clearOwed ∧
    x.nodeLive[n].presence = .present ∧ x.nodeLive[n].misses = 0 ∧ (l.presence = .present → x.nodeLive[n].changed = l.changed) ∧
    (l.presence ≠ .present → x.nodeLive[n].changed = true ∧ x.notice.isSet .nodeChange = true) ∧
    (∀ m : Fin 48, m ≠ n → x.nodeLive[m] = s.nodeLive[m]) ∧
    (forwards s.nodes[n].active l.forwarded (firstValue s.nodes[n].active.kind p) = false →
      reportsHeld x = reportsHeld s ∧ x.nodeLive[n].forwarded = l.forwarded) ∧
    (forwards s.nodes[n].active l.forwarded (firstValue s.nodes[n].active.kind p) = true → reportFits s = true →
      reportsHeld x = reportsHeld s ++ [reportOf s n s.nodes[n].active.kind p] ∧
        x.nodeLive[n].forwarded = some (firstValue s.nodes[n].active.kind p)) ∧
    (forwards s.nodes[n].active l.forwarded (firstValue s.nodes[n].active.kind p) = true → reportFits s = false →
      reportsHeld x = reportsHeld s ∧ x.nodeLive[n].forwarded = l.forwarded ∧ x.notice.isSet .reportLost = true) := by
  intro x l
  generalize hk : s.nodes[n].active.kind = k at *
  generalize hy : pollConsumed n p (pollTaken s c) = y
  have hx : x = forwardReport n k p y := by
    rw [← hy, ← hk]
    exact pollResult_good p
  obtain ⟨hlive, hnodes, hpart, hhub, hflags, hother⟩ := pollConsumed_facts (pollTaken s c) n p
  obtain ⟨h1, h2, h3, h4, h5⟩ := pollHeard_facts (pollTaken s c) n
  have hclear : y.lcq.clearOwed = s.lcq.clearOwed := by
    rw [← hy]
    exact ((pollHeard_move (c := .all) _ n trivial fun _ => trivial).trans (consumeReport_move _ n _ _ fun _ => trivial)).clearOwed
  rw [hy] at hlive hnodes hpart hhub hflags hother
  rw [← hlive] at h1 h2 h3 h4 h5
  have hrec : y.nodes[n].active = s.nodes[n].active := by rw [hnodes]; rfl
  have hfwd : y.nodeLive[n].forwarded = l.forwarded := h3
  have hfits : reportFits y = reportFits s := by rw [reportFits, hhub]; rfl
  have hheld : reportsHeld y = reportsHeld s := reportsHeld_congr hhub
  have hreport : reportOf y n k p = reportOf s n k p := by rw [reportOf, hrec, hpart]; rfl
  obtain ⟨p1, p2, p3, p4⟩ := forwardReport_presence y n k p
  obtain ⟨f1, f2, f3⟩ := forwardReport_facts y n k p
  rw [hrec, hfwd, hheld] at f1 f2 f3
  rw [hfits] at f2 f3
  rw [hreport] at f2
  rw [hx]
  exact ⟨by rw [forwardReport_lcq, hclear], p1.trans h1, p2.trans h2, fun e => p3.trans (h4 e),
    fun e => ⟨p3.trans (h5 e).1, (forwardReport_field y n k p).flags _ (hflags _ (h5 e).2)⟩,
    fun m hm => (p4 m hm).trans (hother m hm), f1, f2, f3⟩

/-- Settles O26: the entry takes the outcome by its row, and what follows in the step senses nothing. -/
theorem pollOutcomeMovesPresence : Obligations.PollOutcomeMovesPresence := by
  intro n a reply s htx hd l good
  generalize hrep : acceptReport a (singleSlot 30 s.seq.replyWindow) reply = report at *
  have hx : exec (.pollOutcome reply) s = .next (complete (payClearing (.poll n a) (pollDelivered n a report (lineIdle s)))) := by
    simp only [exec, execPollOutcome, htx, hrep]
    rfl
  obtain ⟨hunused, hused⟩ := pollDelivered_cases s n a report
  have hfollow := pollFollowed n a (x := pollDelivered n a report (lineIdle s)) (pollDelivered_tx _ n a report rfl)
    ((pollDelivered_field _ n a report).line.noSwapDue fun y => hd y)
  have hseq : (pollDelivered n a report (lineIdle s)).seq = (lineIdle s).seq := by
    rw [(pollDelivered_field _ n a report).seq, pollDelivered_tx _ n a report rfl]
    rfl
  have hgood : good ↔ ∃ p, report = some (s.nodes[n].active.kind, p) := by rw [← hrep]
  clear_value good
  generalize pollDelivered n a report (lineIdle s) = x at *
  generalize ht : complete (payClearing (.poll n a) x) = t at *
  have hlive := hfollow.sensors.nodeLive
  refine ⟨fun k payload => ?_, t, hx, hfollow.tx, ?_, fun hu => ?_, fun hu => ?_⟩
  · rw [← hrep]
    exact acceptReport_iff_heard a _ reply k payload
  · rw [hfollow.echo, hseq]
    rfl
  · rw [← ht, hunused hu]
    exact pollEndsAlone_of s n a _ hd
  · rcases hused hu with ⟨ha, he⟩ | ⟨c, he⟩
    · refine .inl ⟨ha, ?_⟩
      rw [← ht, he]
      exact pollEndsAlone_of s n a _ hd
    right
    have hheld (hc : x.lcq.clearOwed = s.lcq.clearOwed) (h1 : s.lcq.clearOwed = false) (h2 : s.seq.state ≠ .stopping) :
        reportsHeld t = reportsHeld x := hfollow.held (hc.trans h1) (by rw [hseq]; exact h2)
    rw [hlive]
    by_cases hg : good
    · obtain ⟨p, hp⟩ := hgood.1 hg
      have hk : s.nodes[n].active.kind ≠ .unused := by
        rw [hp] at hrep
        obtain ⟨-, -, hk, -⟩ := (acceptReport_iff _ _ _ _ _).1 hrep
        exact hk
      rw [hp] at he
      obtain ⟨g1, g2, g3, g4, g5, g6, g7, g8, g9⟩ := pollTaken_good s n c p
      rw [← he] at g1 g2 g3 g4 g5 g6 g7 g8 g9
      refine ⟨fun _ => ⟨g2, g3, g4, fun e => ⟨(g5 e).1, hfollow.flags _ (g5 e).2⟩⟩, fun h => absurd hg h, fun h => absurd hg h,
        fun h => absurd hg h, fun h => absurd hg h, g6, fun h => absurd hg h, fun payload hpay h1 h2 => ?_⟩
      obtain rfl : p = payload := by
        rw [hp] at hpay
        simpa using hpay
      intro r value offered fits frame
      have hvalue : firstValue r.kind p = value := by
        show firstValue s.nodes[n].active.kind p = (match s.nodes[n].active.kind with
          | .weather => _
          | .valveDecoder => _
          | .soilProbe | .other | .unused => _)
        cases h : s.nodes[n].active.kind with
        | unused => exact absurd h hk
        | valveDecoder | soilProbe | weather | other => rfl
      have hoffer : offered ↔ forwards r l.forwarded (firstValue r.kind p) = true := by rw [forwards_iff, hvalue]
      have hfits : fits ↔ reportFits s = true := by
        simp only [fits, reportFits, Bool.and_eq_true, decide_eq_true_eq, List.isEmpty_iff]
      rw [hheld g1 h1 h2]
      refine ⟨fun h => ?_, fun h hf => ?_, fun h hf => ?_⟩
      · exact g7 (Bool.eq_false_iff.2 fun k => h (hoffer.2 k))
      · rw [← hvalue]
        exact g8 (hoffer.1 h) (hfits.1 hf)
      · obtain ⟨k1, k2, k3⟩ := g9 (hoffer.1 h) (Bool.eq_false_iff.2 fun k => hf (hfits.2 k))
        exact ⟨k1, k2, hfollow.flags _ k3⟩
    · have hm : x = pollMiss n (pollTaken s c) := by
        rw [he]
        exact pollResult_miss fun p e => hg (hgood.2 ⟨p, e⟩)
      obtain ⟨m1, m2, m3, m4⟩ := pollMiss_facts (pollTaken s c) n
      have hmove := pollMiss_move (c := .node1 n) (pollTaken s c) n rfl fun _ => trivial
      rw [← hm] at m1 m2 m3 m4 hmove
      refine ⟨fun h => absurd h hg, fun _ => m1, fun _ => m2, fun _ => m3,
        fun _ h1 h2 => ⟨(m4 h1 h2).1, hfollow.flags _ (m4 h1 h2).2⟩, fun m hmn => hmove.nodes m hmn,
        fun _ h1 h2 => (hheld hmove.clearOwed h1 h2).trans (reportsHeld_congr hmove.hub),
        fun payload hpay => absurd (hgood.2 ⟨payload, hpay⟩) hg⟩

end

end Sys2Proof.Machine
end

section
/-! SUPPORT. Table entries through moves and swaps (10 R164, R175). -/
namespace Sys2Proof.Machine

/-- Every valve and node, opens included; what the step owes stands. -/
def Scope.sweep : Scope := { valve := fun _ => True, node := fun _ => True, opens := True, drops := False }

/-- A table entry is in both states the same. -/
structure SlotSame (z : Slot) (s t : State) : Prop where
  due : slotDue t z = slotDue s z
  pending : pendingBytes t z = pendingBytes s z
  active : activeBytes t z = activeBytes s z

/-- An entry that was SWAP_DUE in `s` has swapped in `t`. -/
structure Swapped (z : Slot) (s t : State) : Prop where
  due : slotDue t z = false
  pending : pendingBytes t z = none
  active : ∀ bs, pendingBytes s z = some bs → activeBytes t z = bs

section
variable (s : State)

theorem SlotSame.refl (z : Slot) : SlotSame z s s := ⟨rfl, rfl, rfl⟩

theorem SlotSame.trans {z : Slot} {s t u : State} (h : SlotSame z s t) (k : SlotSame z t u) : SlotSame z s u :=
  ⟨k.due.trans h.due, k.pending.trans h.pending, k.active.trans h.active⟩

theorem Swapped.same {z : Slot} {s t u : State} (h : Swapped z s t) (k : SlotSame z t u) : Swapped z s u :=
  ⟨k.due.trans h.due, k.pending.trans h.pending, fun bs hb => k.active.trans (h.active bs hb)⟩

theorem Swapped.of_same {z : Slot} {s t u : State} (h : SlotSame z s t) (k : Swapped z t u) : Swapped z s u :=
  ⟨k.due, k.pending, fun bs hb => k.active bs (h.pending.trans hb)⟩

/-- A move that leaves the tables alone leaves every entry alone. -/
theorem LineFrame.slot {s t : State} (h : LineFrame s t) (z : Slot) : SlotSame z s t := by
  constructor <;> cases z <;>
    simp only [slotDue, pendingBytes, activeBytes, h.nodes, h.polls, h.valves, h.beds, h.supplyRec, h.lineRec, h.weatherRec,
      h.drying, h.lockRecs]

theorem arbitrate_slot (z : Slot) : SlotSame z s (arbitrate s) := by
  rw [arbitrate_eq]
  constructor <;> cases z <;> rfl

/-! ## One entry activated -/

theorem Entry.swap_active {α : Type} (e : Entry α) (f : α → List Byte) (bs : List Byte) (h : e.pending.map f = some bs) :
    f e.swap.active = bs := by
  obtain ⟨x, hx, rfl⟩ := Option.map_eq_some_iff.1 h
  simp [Entry.swap, hx]

/-- The entry itself: its pending copy is now the active one. -/
theorem activate_self (x : Slot) : Swapped x s (activate x s) := by
  cases x with
  | node i => exact ⟨by simp [activate, onSlot, slotDue, Entry.swap], by simp [activate, onSlot, pendingBytes, Entry.swap],
      fun bs h => by simpa [activate, onSlot, activeBytes] using Entry.swap_active _ _ bs h⟩
  | poll i => exact ⟨by simp [activate, onSlot, slotDue, Entry.swap], by simp [activate, onSlot, pendingBytes, Entry.swap],
      fun bs h => by simpa [activate, onSlot, activeBytes] using Entry.swap_active _ _ bs h⟩
  | valve i => exact ⟨by simp [activate, onSlot, slotDue, Entry.swap], by simp [activate, onSlot, pendingBytes, Entry.swap],
      fun bs h => by simpa [activate, onSlot, activeBytes] using Entry.swap_active _ _ bs h⟩
  | bed i => exact ⟨by simp [activate, onSlot, slotDue, Entry.swap], by simp [activate, onSlot, pendingBytes, Entry.swap],
      fun bs h => by simpa [activate, onSlot, activeBytes] using Entry.swap_active _ _ bs h⟩
  | lock i => exact ⟨by simp [activate, onSlot, slotDue, Entry.swap], by simp [activate, onSlot, pendingBytes, Entry.swap],
      fun bs h => by simpa [activate, onSlot, activeBytes] using Entry.swap_active _ _ bs h⟩
  | supply => exact ⟨rfl, rfl, fun bs h => Entry.swap_active _ _ bs h⟩
  | line => exact ⟨rfl, rfl, fun bs h => Entry.swap_active _ _ bs h⟩
  | weather => exact ⟨rfl, rfl, fun bs h => Entry.swap_active _ _ bs h⟩
  | drying => exact ⟨rfl, rfl, fun bs h => Entry.swap_active _ _ bs h⟩

/-- Another entry of a table, whose vector changes at `i` alone. -/
theorem getElem_set_other {α : Type} {n : Nat} (v : Vector α n) {i j : Fin n} (h : j ≠ i) (a : α) : (v.set i a)[j] = v[j] := by
  simp [Fin.val_ne_of_ne h.symm]

/-- Every other entry stays. -/
theorem activate_other {x z : Slot} (h : z ≠ x) : SlotSame z s (activate x s) := by
  cases x with
  | node i =>
    cases z with
    | node j =>
      have hj : (activate (.node i) s).nodes[j] = s.nodes[j] := getElem_set_other _ (fun e => h (by rw [e])) _
      exact ⟨by rw [slotDue, hj, slotDue], by rw [pendingBytes, hj, pendingBytes], by rw [activeBytes, hj, activeBytes]⟩
    | _ => exact ⟨rfl, rfl, rfl⟩
  | poll i =>
    cases z with
    | poll j =>
      have hj : (activate (.poll i) s).polls[j] = s.polls[j] := getElem_set_other _ (fun e => h (by rw [e])) _
      exact ⟨by rw [slotDue, hj, slotDue], by rw [pendingBytes, hj, pendingBytes], by rw [activeBytes, hj, activeBytes]⟩
    | _ => exact ⟨rfl, rfl, rfl⟩
  | valve i =>
    cases z with
    | valve j =>
      have hj : (activate (.valve i) s).valves[j] = s.valves[j] := getElem_set_other _ (fun e => h (by rw [e])) _
      exact ⟨by rw [slotDue, hj, slotDue], by rw [pendingBytes, hj, pendingBytes], by rw [activeBytes, hj, activeBytes]⟩
    | _ => exact ⟨rfl, rfl, rfl⟩
  | bed i =>
    cases z with
    | bed j =>
      have hj : (activate (.bed i) s).beds[j] = s.beds[j] := getElem_set_other _ (fun e => h (by rw [e])) _
      exact ⟨by rw [slotDue, hj, slotDue], by rw [pendingBytes, hj, pendingBytes], by rw [activeBytes, hj, activeBytes]⟩
    | _ => exact ⟨rfl, rfl, rfl⟩
  | lock i =>
    cases z with
    | lock j =>
      have hj : (activate (.lock i) s).lockRecs[j] = s.lockRecs[j] := getElem_set_other _ (fun e => h (by rw [e])) _
      exact ⟨by rw [slotDue, hj, slotDue], by rw [pendingBytes, hj, pendingBytes], by rw [activeBytes, hj, activeBytes]⟩
    | _ => exact ⟨rfl, rfl, rfl⟩
  | supply =>
    cases z with
    | supply => exact absurd rfl h
    | _ => exact ⟨rfl, rfl, rfl⟩
  | line =>
    cases z with
    | line => exact absurd rfl h
    | _ => exact ⟨rfl, rfl, rfl⟩
  | weather =>
    cases z with
    | weather => exact absurd rfl h
    | _ => exact ⟨rfl, rfl, rfl⟩
  | drying =>
    cases z with
    | drying => exact absurd rfl h
    | _ => exact ⟨rfl, rfl, rfl⟩

/-! ## A swap with its effects -/

/-- The effects of a swap move no table but by the activation. -/
theorem swapEffects_line (x : Slot) : ∃ u, LineFrame s u ∧ LineFrame (activate x u) (swapEffects x s) := by
  cases x with
  | node n => exact ⟨s, .refl s, (nodeSwapped_field _ n _ _).line⟩
  | poll i => exact ⟨s, .refl s, .refl _⟩
  | valve v => exact ⟨s, .refl s, (valveSwapped_frame _ v _ _).field.line⟩
  | bed b => exact ⟨accrue b s, (accrue_frame s b).field.line, ((setBedLive_frame _ b _).trans (demandCheck_frame _ b)).field.line⟩
  | supply => exact ⟨s, .refl s, (((setMonitor_frame _ _).field.trans (judgeContact_field _)).trans (pass_frame _).field).line⟩
  | line =>
    refine ⟨s, .refl s, ?_⟩
    simp only [swapEffects, lineSwapped]
    split
    · exact (judgeMeasure_line _).trans (by constructor <;> first | rfl | exact fun _ h => h)
    · exact judgeMeasure_line _
  | weather => exact ⟨s, .refl s, (weatherRecSwapped_field _ _ _).line⟩
  | drying => exact ⟨s, .refl s, (recomputeRate_field _).line⟩
  | lock i => exact ⟨s, .refl s, ((setLocks_field _ _).trans (recomputeLock_field _)).line⟩

theorem swapSlot_line (x : Slot) : LineFrame (swapEffects x s) (swapSlot x s) := by
  simp only [swapSlot]
  split
  · exact (setFlag_frame _ _).field.line
  · exact .refl _

theorem swapSlot_self (x : Slot) : Swapped x s (swapSlot x s) := by
  obtain ⟨u, h1, h2⟩ := swapEffects_line s x
  exact .of_same (h1.slot x) ((activate_self u x).same ((h2.trans (swapSlot_line s x)).slot x))

theorem swapSlot_other {x z : Slot} (h : z ≠ x) : SlotSame z s (swapSlot x s) := by
  obtain ⟨u, h1, h2⟩ := swapEffects_line s x
  exact (h1.slot z).trans ((activate_other u h).trans ((h2.trans (swapSlot_line s x)).slot z))

/-- A swap takes its entry out of those that are due. -/
theorem swapSlot_due (x : Slot) :
    allSlots.filter (slotDue (swapSlot x s)) = (allSlots.filter (slotDue s)).filter fun z => decide (z ≠ x) := by
  rw [List.filter_filter]
  refine List.filter_congr fun z _ => ?_
  by_cases h : z = x
  · rw [h, (swapSlot_self s x).due]
    simp
  · rw [(swapSlot_other s h).due]
    simp [h]

end

end Sys2Proof.Machine
end

section
/-! SUPPORT. The sweep before a CYCLE_MARK: the leading entries that may swap then do (10 R171, R173). -/
namespace Sys2Proof.Machine

section
variable (s : State)

/-! ## What the turns of a step's end owe -/

theorem clearEntries_owes (leaves : FifoEntry → Bool) : Owes s (clearEntries leaves s) := by
  obtain ⟨order, n, -, he⟩ := clearEntries_eq leaves s
  rw [he]
  exact (setFifo_owes s _).trans ((withdrawOpens_move (c := .sweep) _ (leaveFifo leaves order n s) fun _ _ => trivial).owed id)

theorem marksStop_owes : Owes s (marksStop s) := by
  simp only [marksStop]
  split
  · exact ⟨rfl, id⟩
  · exact clearEntries_owes (({ s with beacon := some (s.partTime + 10) } : State).setQueue
      { s.lcq with clearOwed := false, withdrawOwed := false }) _

theorem enterStopped_owes : Owes s (enterStopped s) := by
  have h : Owes s (quiet .stopped s) := ⟨rfl, fun _ => rfl⟩
  simp only [enterStopped]
  split
  · exact h.trans (marksStop_owes ((quiet .stopped s).setSeq { (quiet .stopped s).seq with tx := .idle }))
  · exact h.trans (marksStop_owes _)

/-- The examination of STOPPING enters STOPPED, or drops what it owed. -/
theorem examineStop_cases : (s.seq.state = .stopping ∧ (examineStop s).seq.state = .stopped) ∨
    examineStop s = s.setWork { s.work with stop := false } := by
  simp only [examineStop]
  split
  next h => exact .inl ⟨h.1, enterStopped_state _⟩
  · exact .inr rfl

theorem examineStop_owes : Owes s (examineStop s) := by
  simp only [examineStop]
  split
  · exact (show Owes s (s.setWork { s.work with stop := false }) from ⟨rfl, id⟩).trans (enterStopped_owes _)
  · exact ⟨rfl, id⟩

/-! ## A grant pass frees no FIFO entry -/

theorem putRun_work (r : Run) : (putRun s r).work = s.work := rfl

theorem releaseCheck_work (b : Fin 24) : (releaseCheck b s).work = s.work := by
  rcases releaseCheck_cases s b with e | ⟨r, f, q, -, -, -, e⟩ <;> rw [e]
  rfl

theorem writeValve_free (v : Fin 32) (l : ValveLive) : (writeValve v l s).work.free = s.work.free := by
  simp only [writeValve]
  split
  · have hu : (oweReport (if s.valveLive[v].state ≠ l.state then noteValveChange (s.setValveLive v l)
        else s.setValveLive v l)).work.free = s.work.free := by
      split <;> rfl
    split
    · rw [releaseCheck_work, hu]
    · exact hu
  · split <;> rfl

theorem appendOpen_work (v : Fin 32) : (appendOpen v s).work = s.work := by
  rw [appendOpen, setFifo_of_le s _ (by simp)]
  rfl

theorem openRequest_work (v : Fin 32) : (openRequest v s).work = s.work := by
  simp only [openRequest]
  split
  · rfl
  · rfl
  · have hd : (if flying s v .closeValve then detach v s else s).work = s.work := by
      split
      · rcases detach_eq s v with e | ⟨k, a, o, d, -, e⟩ <;> rw [e]
        rfl
      · rfl
    rw [appendOpen_work]
    split
    · exact hd
    · exact hd

theorem grant_free (r : Run) (v : Fin 32) : (grant r v s).work.free = s.work.free := by
  rw [grant, writeValve_free, openRequest_work, putRun_work]

theorem grantScan_free (bs passed bumped : List (Fin 24)) {s : State} :
    (grantScan bs passed bumped s).work.free = s.work.free := by
  induction bs generalizing passed bumped s with
  | nil => rfl
  | cons b bs ih =>
    simp only [grantScan]
    split
    · exact ih _ _
    · exact ih _ _
    · rfl
    next r v _ => rw [ih, grant_free]

theorem grantPass_free : (grantPass s).work.free = s.work.free := by
  unfold grantPass
  split
  · exact grantScan_free _ _ _
  · rfl

theorem pass_free : (pass s).work.free = s.work.free := by
  simp only [pass]
  split
  · split
    · rfl
    · exact grantPass_free _
  · exact grantPass_free s

/-! ## The sweep -/

/-- The entries that may swap whenever a CYCLE_MARK is about to be sent (10 R171). -/
def MarkSlot (z : Slot) : Prop :=
  (∃ n, z = .node n) ∨ (∃ i, z = .poll i) ∨ z = .line ∨ z = .weather ∨ z = .drying ∨ ∃ i, z = .lock i

theorem slotReady_mark {s : State} {z : Slot} (h : MarkSlot z) (hm : s.work.mark = true) : slotReady s z = true := by
  rcases h with ⟨n, rfl⟩ | ⟨i, rfl⟩ | rfl | rfl | rfl | ⟨i, rfl⟩ <;> simp [slotReady, hm]

/-- The turns that may still come before `n` entries have swapped: a swap owes at most an examination of STOPPING and a grant
pass, and only the entry to STOPPED, once, owes more. -/
def turnsLeft (n : Nat) (s : State) : Nat :=
  4 * n + 3 * (s.seq.state == .stopping).toNat + 2 * s.work.free.toNat + s.work.stop.toNat

theorem turnsLeft_examineStop (n : Nat) {s : State} (h : s.work.stop = true) : turnsLeft n (examineStop s) < turnsLeft n s := by
  rcases examineStop_cases s with ⟨h1, h2⟩ | e
  · have hfree := Bool.toNat_le (examineStop s).work.free
    have hstop := Bool.toNat_le (examineStop s).work.stop
    have hbefore : (SeqState.stopping == SeqState.stopping).toNat = 1 := rfl
    have hafter : (SeqState.stopped == SeqState.stopping).toNat = 0 := rfl
    simp only [turnsLeft, h1, h2, h, hbefore, hafter, Bool.toNat_true]
    omega
  · rw [e]
    simp only [turnsLeft, h, State.setWork_seq, State.setWork_work, Bool.toNat_true, Bool.toNat_false]
    omega

theorem turnsLeft_pass (n : Nat) {s : State} (h : s.work.free = true) (hs : s.work.stop = false) :
    turnsLeft n (pass (s.setWork { s.work with free := false })) < turnsLeft n s := by
  have hst : (pass (s.setWork { s.work with free := false })).seq.state = s.seq.state := (pass_move (c := .all) _).seqState
  have hfree : (pass (s.setWork { s.work with free := false })).work.free = false := pass_free _
  generalize pass (s.setWork { s.work with free := false }) = t at *
  have hstop := Bool.toNat_le t.work.stop
  simp only [turnsLeft, hst, hfree, h, hs, Bool.toNat_true, Bool.toNat_false]
  omega

theorem swapSlot_state (x : Slot) : (swapSlot x s).seq.state = s.seq.state :=
  (swapSlot_move (c := .all) s x (fun _ => trivial) fun _ => trivial).seqState

theorem turnsLeft_swap {m n : Nat} (hmn : m < n) {s : State} (x : Slot) (h : s.work.free = false) (hs : s.work.stop = false) :
    turnsLeft m (swapSlot x s) < turnsLeft n s := by
  have hfree := Bool.toNat_le (swapSlot x s).work.free
  have hstop := Bool.toNat_le (swapSlot x s).work.stop
  simp only [turnsLeft, swapSlot_state, h, hs, Bool.toNat_false]
  omega

/-- An entry that has swapped stays as it is to the step's end. -/
theorem settleTurns_swapped {z : Slot} {s : State} (n : Nat) {u : State} (h : Swapped z s u) : Swapped z s (settleTurns n u) := by
  induction n generalizing u with
  | zero => exact h
  | succ n ih =>
    have hw (w : Work) : Swapped z s (u.setWork w) := h.same ((setWork_frame u w).field.line.slot z)
    have hp (w : Work) : Swapped z s (settleTurns n (pass (u.setWork w))) := ih ((hw w).same ((pass_frame _).field.line.slot z))
    unfold settleTurns
    split
    · exact ih (h.same ((examineStop_line u).slot z))
    · split
      · exact hp _
      · split
        · refine ih ?_
          unfold sweepTurn
          split
          next x hx =>
            have hne : z ≠ x := by
              rintro rfl
              have hd : slotDue u z = true := by
                unfold readyHead at hx
                split at hx
                next y hy =>
                  split at hx
                  · cases hx
                    exact List.find?_some hy
                  · cases hx
                · cases hx
              rw [h.due] at hd
              cases hd
            exact h.same (swapSlot_other u hne)
          · exact hw _
        · split
          · exact hp _
          · exact h

/-- A sweep that a CYCLE_MARK has triggered, with the entries `first` at the head of those due: they swap, given turns
enough. -/
theorem settleTurns_sweeps {s : State} (n : Nat) {u : State} {first : List Slot} (hmark : u.work.mark = true)
    (hsweep : u.work.sweep = true) (hpre : first <+: allSlots.filter (slotDue u)) (hkind : ∀ z ∈ first, MarkSlot z)
    (hsame : ∀ z ∈ first, pendingBytes u z = pendingBytes s z) (hn : turnsLeft first.length u ≤ n) :
    ∀ z ∈ first, Swapped z s (settleTurns n u) := by
  induction n generalizing u first with
  | zero =>
    have : first.length = 0 := by
      unfold turnsLeft at hn
      omega
    rw [List.length_eq_zero_iff.1 this]
    simp
  | succ n ih =>
    match first with
    | [] => simp
    | x :: rest =>
      have keep {t : State} (hl : LineFrame u t) (ho : Owes u t) (ht : turnsLeft (x :: rest).length t < turnsLeft (x :: rest).length u) :
          ∀ z ∈ x :: rest, Swapped z s (settleTurns n t) := by
        have hdue : slotDue t = slotDue u := funext fun z => (hl.slot z).due
        exact ih (ho.1.trans hmark) (ho.2 hsweep) (by rw [hdue]; exact hpre) hkind
          (fun z hz => (hl.slot z).pending.trans (hsame z hz)) (by omega)
      unfold settleTurns
      split
      next hs => exact keep (examineStop_line u) (examineStop_owes u) (turnsLeft_examineStop _ hs)
      next hs =>
        have hs' : u.work.stop = false := by simpa using hs
        split
        next hf =>
          have hw : Owes u (u.setWork { u.work with free := false }) := ⟨rfl, id⟩
          exact keep ((setWork_frame u _).field.line.trans (pass_frame _).field.line)
            (hw.trans ((pass_move (c := .sweep) _).owed id)) (turnsLeft_pass _ hf hs')
        next hf =>
          have hf' : u.work.free = false := by simpa using hf
          obtain ⟨post, hpost⟩ := hpre
          have hhead : headDue u = some x := by
            rw [headDue, ← List.head?_filter, ← hpost]
            rfl
          have hready : readyHead u = some x := by
            simp only [readyHead, hhead, slotReady_mark (hkind x (by simp)) hmark, if_true]
          have hturn : sweepTurn u = swapSlot x u := by simp only [sweepTurn, hready]
          rw [hturn]
          have howes := (swapSlot_move (c := .sweep) u x (fun _ => trivial) fun _ => trivial).owed id
          have hxs : Swapped x s (settleTurns n (swapSlot x u)) := by
            refine settleTurns_swapped n ?_
            obtain ⟨h1, h2, h3⟩ := swapSlot_self u x
            exact ⟨h1, h2, fun bs hb => h3 bs ((hsame x (by simp)).trans hb)⟩
          have hshort : (rest.filter fun z => decide (z ≠ x)).length ≤ rest.length := List.length_filter_le _ _
          have hrest := ih (u := swapSlot x u) (first := rest.filter fun z => decide (z ≠ x)) (howes.1.trans hmark) (howes.2 hsweep)
            ⟨post.filter fun z => decide (z ≠ x), by rw [swapSlot_due, ← hpost]; simp⟩
            (fun z hz => hkind z (by simp [(List.mem_filter.1 hz).1]))
            (fun z hz => by
              obtain ⟨hz, hne⟩ := List.mem_filter.1 hz
              rw [(swapSlot_other u (by simpa using hne)).pending, hsame z (by simp [hz])])
            (by
              have := turnsLeft_swap (m := (rest.filter fun z => decide (z ≠ x)).length) (n := (x :: rest).length)
                (by rw [List.length_cons]; omega) x hf' hs'
              omega)
          intro z hz
          by_cases hzx : z = x
          · rw [hzx]
            exact hxs
          · refine hrest z (List.mem_filter.2 ⟨(List.mem_cons.1 hz).resolve_left hzx, by simpa using hzx⟩)

end

end Sys2Proof.Machine
end

section
/-! PROOF. CYCLE_MARK: the sweep, and the mark that opens the next cycle (01 R3, 10 R173). -/
namespace Sys2Proof.Machine

section
variable (s : State)

/-- The end of a step leaves nothing owed and MV judged. -/
theorem settle_isRested : Rested (settle s) := ⟨rfl, rfl⟩

theorem sweepAtMark_rested : Rested (sweepAtMark s) := settle_isRested _

/-- With no entry SWAP_DUE the sweep at a mark changes nothing. -/
theorem sweepAtMark_quiet {s : State} (hr : Rested s) (hd : NoSwapDue s) : sweepAtMark s = s := by
  have hwork : s.work = { pass := false, free := false, sweep := false, stop := false, mark := false } := hr.1
  generalize hu : s.setWork { s.work with sweep := true, mark := true } = u
  have huw : u.work = { pass := false, free := false, sweep := true, stop := false, mark := true } := by
    rw [← hu, State.setWork_work, hwork]
  have hud : NoSwapDue u := by
    rw [← hu]
    exact fun x => hd x
  have hturns : settleTurns 1024 u = u.setWork { pass := false, free := false, sweep := false, stop := false, mark := true } := by
    rw [settleTurns, if_neg (by simp [huw]), if_neg (by simp [huw]), if_pos (by simp [huw]), sweepTurn_idle hud, huw]
    simp [settleTurns]
  have hrest := settle_rested hr
  rw [settle, settleTurns_rested _ hr] at hrest
  rw [sweepAtMark, hu, settle, hturns, ← hu]
  exact hrest

/-- The mark that opens the next cycle is on the line. -/
def cycleOpened : State := openCycle (clearAttempted s)

theorem cycleOpened_rested {s : State} (h : Rested s) : Rested (cycleOpened s) := by
  unfold cycleOpened openCycle clearAttempted
  exact (h.setQueue _).setSeq _

theorem clearAttempted_eq : ∃ l, clearAttempted s = s.setQueue l := by
  unfold clearAttempted
  exact ⟨_, rfl⟩

/-- Opening a cycle moves the sequencer and the attempted marks alone. -/
theorem cycleOpened_eq : cycleOpened s = (s.setQueue (clearAttempted s).lcq).setSeq (openCycle s).seq := by
  obtain ⟨l, hl⟩ := clearAttempted_eq s
  rw [cycleOpened, hl]
  rfl

theorem cycleOpened_seq : (cycleOpened s).seq = (openCycle s).seq := by rw [cycleOpened_eq, State.setSeq_seq]

theorem cycleOpened_line : LineFrame s (cycleOpened s) := by
  rw [cycleOpened_eq]
  exact (setQueue_frame s _).field.line.trans (setSeq_line _ _)

theorem allPresent_iff : allPresent s = true ↔
    ∀ n : Fin 48, s.nodes[n].active.used = true → s.nodeLive[n].presence = .present := by
  simp only [allPresent, List.all_eq_true, List.mem_finRange, true_implies, Bool.or_eq_true, Bool.not_eq_true', beq_iff_eq]
  exact forall_congr' fun n => by cases s.nodes[n].active.used <;> simp

/-- The roll-call judgement at a mark (02 R34). -/
theorem openCycle_roll :
    (0 < s.seq.rollCount → (∃ n : Fin 48, s.nodes[n].active.used = true ∧ s.nodeLive[n].presence ≠ .present) →
      (openCycle s).seq.rollCount = s.seq.rollCount - 1 ∧ (openCycle s).seq.rollCycle = true) ∧
    (s.seq.rollCount = 0 ∨ (∀ n : Fin 48, s.nodes[n].active.used = true → s.nodeLive[n].presence = .present) →
      (openCycle s).seq.rollCount = 0 ∧ (openCycle s).seq.rollCycle = decide ((openCycle s).seq.cycle % 64 = 0)) := by
  have hcount : (openCycle s).seq.rollCount =
    if (decide (0 < s.seq.rollCount) && !allPresent s) = true then s.seq.rollCount - 1 else 0 := rfl
  have hcycle : (openCycle s).seq.rollCycle =
    ((decide (0 < s.seq.rollCount) && !allPresent s) || (openCycle s).seq.cycle % 64 == 0) := rfl
  refine ⟨fun hpos ⟨n, hu, hp⟩ => ?_, fun h => ?_⟩
  · have ha : allPresent s = false := by
      rw [Bool.eq_false_iff]
      exact fun h => hp ((allPresent_iff s).1 h n hu)
    rw [hcount, hcycle, ha, decide_eq_true hpos]
    exact ⟨rfl, rfl⟩
  · have hs : (decide (0 < s.seq.rollCount) && !allPresent s) = false := by
      rcases h with h | h
      · simp [h]
      · simp [(allPresent_iff s).2 h]
    rw [hcount, hcycle, hs]
    exact ⟨rfl, rfl⟩

/-- What the mark of the next cycle sets in the sequencer (01 R3, 12 R194). -/
theorem openCycle_opens : (openCycle s).seq.cycle = (s.seq.cycle + 1) % 1024 ∧ (openCycle s).seq.state = s.seq.state ∧
    (openCycle s).seq.resume = s.seq.resume ∧ (openCycle s).seq.position = 0 ∧ (openCycle s).seq.phase = .marked ∧
    (openCycle s).seq.tx = .mark ∧
    (openCycle s).seq.ltx = [0x10, byteOf (openCycle s).seq.cycle, byteOf ((openCycle s).seq.cycle / 256),
      crc8 [0x10, byteOf (openCycle s).seq.cycle, byteOf ((openCycle s).seq.cycle / 256)]] ∧
    (openCycle s).seq.cycleLength = 1936 + s.lineRec.active.trim ∧
    (openCycle s).seq.replyWindow = s.lineRec.active.replyWindow ∧
    (openCycle s).seq.echoFailures = s.seq.echoFailures := ⟨rfl, rfl, rfl, rfl, rfl, rfl, rfl, rfl, rfl, rfl⟩

theorem clearAttempted_clearOwed : (clearAttempted s).lcq.clearOwed = s.lcq.clearOwed := by
  simp only [clearAttempted, State.setQueue_lcq]

@[simp] theorem arbitrate_lineRec : (arbitrate s).lineRec = s.lineRec := by rw [arbitrate_eq]

theorem exec_cycleMark {s : State} (hm : s.seq.state = .running ∨ s.seq.state = .stopping ∨
    (s.seq.state = .step ∧ s.seq.phase = .noCycle)) (ht : s.seq.tx = .idle ∨ s.seq.tx = .mark) :
    exec .cycleMark s = .next (complete (if (sweepAtMark (settleMark s)).seq.state.marking then
      cycleOpened (sweepAtMark (settleMark s)) else sweepAtMark (settleMark s))) := by
  have hready : markReady s = true := by
    rcases hm with h | h | ⟨h, hp⟩ <;> simp [markReady, lineQuiet_of ht, SeqState.marking, *]
  simp only [exec, execCycleMark, hready, if_true]
  rfl

theorem complete_sweptMark : complete (if (sweepAtMark s).seq.state.marking then cycleOpened (sweepAtMark s) else sweepAtMark s) =
    arbitrate (if (sweepAtMark s).seq.state.marking then cycleOpened (sweepAtMark s) else sweepAtMark s) := by
  refine complete_rested ?_
  split
  · exact cycleOpened_rested (sweepAtMark_rested s)
  · exact sweepAtMark_rested s

theorem nextCycle_eq (n : Nat) : (n + 1) % 1024 = if n % 1024 = 1023 then 0 else n % 1024 + 1 := by
  split <;> omega

theorem allSlots_length : allSlots.length = 145 := by simp [allSlots]

/-- The entries at the head of those due, where each may swap at a mark, have swapped when it is sent. -/
theorem sweepAtMark_swaps {s : State} {first : List Slot} (hpre : first <+: allSlots.filter (slotDue s))
    (hkind : ∀ z ∈ first, MarkSlot z) : ∀ z ∈ first, Swapped z s (sweepAtMark s) := by
  generalize hu : s.setWork { s.work with sweep := true, mark := true } = u
  have hdue : slotDue u = slotDue s := by
    rw [← hu]
    funext z
    cases z <;> rfl
  have hsame (z : Slot) : pendingBytes u z = pendingBytes s z := by
    rw [← hu]
    cases z <;> rfl
  have hlen : first.length ≤ 145 := by
    rw [← allSlots_length]
    exact hpre.length_le.trans (List.length_filter_le _ _)
  have hturns : turnsLeft first.length u ≤ 1024 := by
    have h1 := Bool.toNat_le (u.seq.state == .stopping)
    have h2 := Bool.toNat_le u.work.free
    have h3 := Bool.toNat_le u.work.stop
    simp only [turnsLeft]
    omega
  have hswept := settleTurns_sweeps (s := s) 1024 (u := u) (first := first) (by rw [← hu]; rfl) (by rw [← hu]; rfl)
    (by rw [hdue]; exact hpre) hkind (fun z _ => hsame z) hturns
  intro z hz
  rw [sweepAtMark, hu]
  refine (hswept z hz).same (LineFrame.slot ?_ z)
  exact (setWork_frame _ _).field.line.trans (by constructor <;> first | rfl | exact fun _ h => h)

/-- Settles O23: the sweep first, then the mark of the next cycle; with nothing to swap the sweep is nothing. -/
theorem cycleMarkOpensTheNextCycle : Obligations.CycleMarkOpensTheNextCycle := by
  intro s hm ht hr next
  have hx := exec_cycleMark hm ht
  rw [complete_sweptMark] at hx
  have hsm := settleMark_quiet ht
  refine ⟨fun first hpre hkind => ?_, fun hd => ?_⟩
  · have hslot (z : Slot) : SlotSame z s (settleMark s) := (settleMark_line s).slot z
    have hswept := sweepAtMark_swaps (s := settleMark s) (first := first)
      (by rw [show slotDue (settleMark s) = slotDue s from funext fun z => (hslot z).due]; exact hpre) hkind
    have hcycle : (sweepAtMark (settleMark s)).seq.cycle = s.seq.cycle := by
      rw [sweepAtMark, (settle_settle _).seq, hsm]
      rfl
    generalize sweepAtMark (settleMark s) = u at *
    refine ⟨_, hx, fun z hz => ?_, fun hmark => ?_⟩
    · have hu : SlotSame z u (if u.seq.state.marking then cycleOpened u else u) := by
        split
        · exact (cycleOpened_line u).slot z
        · exact .refl u z
      obtain ⟨h1, h2, h3⟩ := Swapped.of_same (hslot z) (((hswept z hz).same hu).same (arbitrate_slot _ z))
      exact ⟨h1, h2, h3⟩
    · have hum : u.seq.state.marking = true := by
        by_contra h
        rw [if_neg h, arbitrate_seq] at hmark
        exact h hmark
      obtain ⟨hcyc, -, -, -, hphase, htx, -, hlength, hwindow, -⟩ := openCycle_opens u
      rw [if_pos hum, arbitrate_lineRec, (cycleOpened_line u).lineRec, arbitrate_seq, cycleOpened_seq]
      exact ⟨htx, hphase, by rw [hcyc, hcycle, nextCycle_eq], hlength, hwindow⟩
  · have hmarking : s.seq.state.marking = true := by
      rcases hm with h | h | ⟨h, -⟩ <;> rw [h] <;> rfl
    have hquiet : sweepAtMark (settleMark s) = settleMark s :=
      sweepAtMark_quiet hr.settleMark ((settleMark_line s).noSwapDue hd)
    have hsame : (settleMark s).lcq = s.lcq := by rw [hsm]; rfl
    have hstate : (settleMark s).seq.state.marking = true := by rw [hsm]; exact hmarking
    rw [hquiet, if_pos hstate, cycleOpened_eq] at hx
    obtain ⟨hroll, hnone⟩ := openCycle_roll (settleMark s)
    obtain ⟨hcyc, hst, hres, hpos, hphase, htx, hltx, hlength, hwindow, hecho⟩ := openCycle_opens (settleMark s)
    have howed := clearAttempted_clearOwed (settleMark s)
    have hfifo := clearAttempted_fifo (settleMark s)
    have hcloses := clearAttempted_closes (settleMark s)
    generalize (clearAttempted (settleMark s)).lcq = l at *
    generalize (openCycle (settleMark s)).seq = q at *
    rw [hsm] at hx hcyc hst hres hlength hwindow hecho hroll hnone howed hfifo hcloses
    refine ⟨q, l, hx, hcyc.trans (nextCycle_eq _), hst, hres, hpos, hphase, htx, hltx, hlength, hwindow, hecho, hroll,
      hnone, howed, hcloses, ?_⟩
    rw [hfifo]
    exact List.map_congr_left fun e _ => by cases e <;> rfl

end

end Sys2Proof.Machine
end

section
/-! SUPPORT. DETACHED in state and in mode (07 R121): each operation that writes a valve's live state keeps the two together. -/

namespace Sys2Proof.Machine

/-- The state is DETACHED exactly when the mode is. -/
def ValveLive.sound (l : ValveLive) : Prop := l.state = .detached ↔ l.mode = .detached

/-- A move that keeps DETACHED in state and in mode together. -/
structure DetachedKept (s t : State) : Prop where
  kept : DetachedLaw s → DetachedLaw t

namespace DetachedKept
variable {s t u : State}

theorem refl (s : State) : DetachedKept s s := ⟨id⟩

theorem trans (h : DetachedKept s t) (k : DetachedKept t u) : DetachedKept s u := ⟨fun d => k.kept (h.kept d)⟩

theorem of_live (h : t.valveLive = s.valveLive) : DetachedKept s t := ⟨fun d v => by rw [h]; exact d v⟩

/-- A move that follows one which leaves every live state alone. -/
theorem after (k : DetachedKept t u) (h : t.valveLive = s.valveLive) : DetachedKept s u := (of_live h).trans k

theorem foldl {α : Type} {f : State → α → State} (hf : ∀ s a, DetachedKept s (f s a)) (as : List α) (s : State) :
    DetachedKept s (as.foldl f s) := by
  induction as generalizing s with
  | nil => exact refl s
  | cons a as ih => exact (hf s a).trans (ih (f s a))

/-- One valve is written. -/
theorem of_set {v : Fin 32} {l : ValveLive} (ht : t.valveLive = s.valveLive.set v l) (h : s.valveLive[v].sound → l.sound) :
    DetachedKept s t := ⟨fun d w => by
  rw [ht]
  by_cases hw : w = v
  · subst hw
    rw [Fin.getElem_fin, Vector.getElem_set_self]
    exact h (d w)
  · rw [Fin.getElem_fin, Vector.getElem_set_ne _ _ (Fin.val_ne_of_ne (Ne.symm hw))]
    exact d w⟩

end DetachedKept

namespace ValveLive
variable {l l' : ValveLive}

theorem sound.same (h : l.sound) (hs : l'.state = l.state) (hm : l'.mode = l.mode) : l'.sound := by
  unfold sound at *; rwa [hs, hm]

/-- A valve that is not DETACHED goes to another such state, or stays. -/
theorem sound.moves {x : ValveState} (h : l.sound) (hs : l.state = x) (hm : l'.mode = l.mode)
    (hx : x ≠ .detached := by decide) (hs' : l'.state ≠ .detached := by simp) : l'.sound := by
  unfold sound at *
  rw [hm]
  exact ⟨fun k => absurd k hs', fun k => absurd (hs.symm.trans (h.2 k)) hx⟩

theorem sound_of_attached (hs : l'.state ≠ .detached) (hm : l'.mode ≠ .detached) : l'.sound :=
  ⟨fun k => absurd k hs, fun k => absurd k hm⟩

end ValveLive

section
variable (s : State)

theorem setValveLive_detached (v : Fin 32) (l : ValveLive) (h : s.valveLive[v].sound → l.sound) :
    DetachedKept s (s.setValveLive v l) := .of_set rfl h

theorem writeValve_detached (v : Fin 32) (l : ValveLive) (h : s.valveLive[v].sound → l.sound) :
    DetachedKept s (writeValve v l s) := .of_set (writeValve_valveLive s v l) h

/-! ## Balances and runs -/

@[simp] theorem onBed_valveLive (b : Fin 24) (f : BedLive → BedLive) : (onBed b f s).valveLive = s.valveLive := by
  unfold onBed
  split <;> rfl

@[simp] theorem accrue_valveLive (b : Fin 24) : (accrue b s).valveLive = s.valveLive := onBed_valveLive s b _
@[simp] theorem waterCredit_valveLive (b : Fin 24) (secs flow : Nat) : (waterCredit b secs flow s).valveLive = s.valveLive := by
  simp [waterCredit]
@[simp] theorem rainCredit_valveLive (b : Fin 24) (d : Nat) : (rainCredit b d s).valveLive = s.valveLive := by simp [rainCredit]
@[simp] theorem putRun_valveLive (r : Run) : (putRun s r).valveLive = s.valveLive := rfl

@[simp] theorem accrueAll_valveLive : (accrueAll s).valveLive = s.valveLive := by
  unfold accrueAll
  induction usedBeds s generalizing s with
  | nil => rfl
  | cons b bs ih => exact (ih _).trans (accrue_valveLive s b)

@[simp] theorem releaseAll_valveLive : (releaseAll s).valveLive = s.valveLive := by
  unfold releaseAll
  generalize s.runs.map (·.bed) = bs
  induction bs generalizing s with
  | nil => rfl
  | cons b bs ih => exact (ih _).trans (releaseCheck_valveLive s b)

@[simp] theorem takeOut_valveLive (b : Fin 24) (r : Run) : (takeOut b r s).valveLive = s.valveLive := by
  simp only [takeOut]
  split <;> exact onBed_valveLive _ b _

@[simp] theorem startPulse_valveLive (b : Fin 24) : (startPulse b s).valveLive = s.valveLive := by
  unfold startPulse
  split
  · rfl
  · split <;> rfl

theorem valveStop_detached (v : Fin 32) : DetachedKept s (valveStop v s) := by
  have hc (l : ValveLive) (h : s.valveLive[v].sound → l.sound) : DetachedKept s (writeValve v l (closeRequest v s)) :=
    .after (writeValve_detached _ v l (by simpa using h)) (closeRequest_valveLive s v)
  simp only [valveStop]
  split
  next hs => split <;> exact hc _ fun k => k.moves hs rfl
  next hs => exact hc _ fun k => k.moves hs rfl
  all_goals exact writeValve_detached s v _ fun k => k.same rfl rfl

/-! ## Grant passes -/

/-- A grant opens a valve that is CLOSED and AUTO. -/
theorem grantScan_detached (bs passed bumped : List (Fin 24)) : DetachedKept s (grantScan bs passed bumped s) := by
  induction bs generalizing passed bumped s with
  | nil => exact .of_live rfl
  | cons b bs ih =>
    unfold grantScan
    split
    · exact ih s _ _
    · exact ih s _ _
    · exact .of_live rfl
    next r v h =>
      obtain ⟨-, -, -, hc, -, -⟩ := scanStep_granted s h
      exact (DetachedKept.of_set (grant_valveLive s r v) fun k => k.moves hc rfl).trans (ih _ _ _)

theorem grantPass_detached : DetachedKept s (grantPass s) := by
  unfold grantPass
  split
  · exact grantScan_detached s _ _ _
  · exact .refl s

theorem pass_detached : DetachedKept s (pass s) := by
  simp only [pass]
  split
  · split
    · exact .of_live rfl
    · exact .after (grantPass_detached _) rfl
  · exact grantPass_detached s

/-! ## Pulses, removal, creation, demand -/

theorem endPulse_detached (b : Fin 24) (stop : Bool) : DetachedKept s (endPulse b stop s) := by
  simp only [endPulse]
  split
  · exact .refl s
  · split
    · exact .of_live rfl
    · split
      · exact .after (valveStop_detached _ _) (by simp)
      · exact .of_live (by simp)

theorem dropRun_detached (b : Fin 24) : DetachedKept s (dropRun b s) := by
  unfold dropRun
  split
  · exact .refl s
  · exact .after (pass_detached _) (takeOut_valveLive s b _)

theorem removeRun_detached (b : Fin 24) : DetachedKept s (removeRun b s) := by
  unfold removeRun
  split
  · exact .refl s
  · split
    · exact (endPulse_detached s b true).trans (dropRun_detached _ b)
    · exact dropRun_detached s b

theorem leaveOn_detached (r : Run) : DetachedKept s (leaveOn r s) := .after (pass_detached _) rfl

theorem endEarly_detached (b : Fin 24) (x : HeldReasons) (stop : Bool) : DetachedKept s (endEarly b x stop s) := by
  simp only [endEarly]
  have k := endPulse_detached s b stop
  split
  · exact k
  · split
    · exact k.trans (.of_live (takeOut_valveLive _ b _))
    · exact k.trans (.of_live rfl)

theorem earlyEnd_detached (b : Fin 24) (x : HeldReasons) (stop : Bool) : DetachedKept s (earlyEnd b x stop s) := by
  unfold earlyEnd
  split
  · exact (endEarly_detached s b x stop).trans (pass_detached _)
  · exact .refl s

theorem pulseExpires_detached (b : Fin 24) : DetachedKept s (pulseExpires b s) := by
  simp only [pulseExpires]
  have k := endPulse_detached s b true
  split
  · exact k
  · split
    · exact k.trans (dropRun_detached _ b)
    · split
      · exact k.trans (dropRun_detached _ b)
      · exact k.trans (leaveOn_detached _ _)
      · exact k.trans (leaveOn_detached _ _)

theorem soakExpires_detached (b : Fin 24) : DetachedKept s (soakExpires b s) := by
  simp only [soakExpires]
  split
  · exact .refl s
  · split
    · exact .after (pass_detached _) rfl
    · exact .of_live rfl

theorem runningLeft_detached : DetachedKept s (runningLeft s) := .foldl (fun t b => earlyEnd_detached t b _ _) _ s

theorem tellOwner_detached {ends : Fin 24 → State → State} (h : ∀ b t, DetachedKept t (ends b t)) (old new : ValveLive) :
    DetachedKept s (tellOwner ends old new s) := by
  unfold tellOwner
  split
  · exact .refl s
  · split
    · exact h _ s
    · split
      · exact .of_live (startPulse_valveLive s _)
      · exact .refl s

theorem shiftValve_detached (v : Fin 32) (l : ValveLive) (h : s.valveLive[v].sound → l.sound) :
    DetachedKept s (shiftValve v l s) := by
  simp only [shiftValve]
  have k := writeValve_detached s v l h
  split
  · exact k.trans (tellOwner_detached _ (fun b t => endEarly_detached t b _ _) _ _)
  · exact k

theorem changeValve_detached (v : Fin 32) (l : ValveLive) (h : s.valveLive[v].sound → l.sound) :
    DetachedKept s (changeValve v l s) := by
  simp only [changeValve]
  have k := writeValve_detached s v l h
  split
  · exact (k.trans (tellOwner_detached _ (fun b t => earlyEnd_detached t b _ _) _ _)).trans (pass_detached _)
  · exact k

theorem demandCheck_detached (b : Fin 24) : DetachedKept s (demandCheck b s) := by
  unfold demandCheck
  split
  · exact .refl s
  · exact .after (pass_detached _) rfl

theorem forBeds_detached (acts : Fin 24 → Bool) {f : Fin 24 → State → State} (h : ∀ b t, DetachedKept t (f b t)) :
    DetachedKept s (forBeds acts f s) :=
  inAnyOrder_keeps .refl .trans (fun _ _ => .of_live rfl) h _ _ s

theorem demandAll_detached : DetachedKept s (demandAll s) := forBeds_detached s _ fun b t => demandCheck_detached t b

/-! ## Valve Control -/

theorem latchFault_detached (v : Fin 32) : DetachedKept s (latchFault v s) := .of_set rfl fun k => k.same rfl rfl

/-- A valve changes after an operation that leaves every live state alone. -/
theorem change_detached {t : State} (v : Fin 32) (l : ValveLive) (ht : t.valveLive = s.valveLive)
    (h : s.valveLive[v].sound → l.sound) : DetachedKept s (changeValve v l t) :=
  .after (changeValve_detached t v l (by rwa [ht])) ht

theorem fault_detached (v : Fin 32) (l : ValveLive) (h : s.valveLive[v].sound → l.sound) :
    DetachedKept s (changeValve v l (latchFault v (withdraw v s))) := by
  refine (DetachedKept.of_live (withdraw_valveLive s v)).trans ((latchFault_detached _ v).trans (changeValve_detached _ v l ?_))
  intro k
  exact h (k.same (by simp [latchFault]) (by simp [latchFault]))

theorem failedAttempt_detached (v : Fin 32) {x : ValveState} (h : s.valveLive[v].state = x) (hx : x ≠ .detached) :
    DetachedKept s (failedAttempt v s) := by
  simp only [failedAttempt]
  split
  · exact setValveLive_detached s v _ fun k => k.same rfl rfl
  · exact fault_detached s v _ fun k => k.moves h (by simp [latchFault]) hx

theorem valveOutcome_detached (v : Fin 32) (k : CommandKind) (answered : Bool) :
    DetachedKept s (valveOutcome v k answered s) := by
  simp only [valveOutcome]
  split
  next hs =>
    split
    · exact changeValve_detached s v _ fun k => k.moves hs rfl
    · exact failedAttempt_detached s v hs (by decide)
  next hs =>
    split
    · exact changeValve_detached s v _ fun k => k.moves hs rfl
    · exact failedAttempt_detached s v hs (by decide)
  next hs =>
    split
    · exact changeValve_detached s v _ fun k => k.same rfl rfl
    · exact failedAttempt_detached s v hs (by decide)
  next => exact .refl s

theorem reconcile_detached (v : Fin 32) (isOpen : Bool) : DetachedKept s (reconcile v isOpen s) := by
  have shift (t : State) (l : ValveLive) (ht : t.valveLive = s.valveLive) (h : s.valveLive[v].sound → l.sound) :
      DetachedKept s (shiftValve v l t) := .after (shiftValve_detached t v l (by rwa [ht])) ht
  simp only [reconcile]
  split
  next hs =>
    refine ((latchFault_detached s v).trans (.of_live (closeRequest_valveLive _ v))).trans (shiftValve_detached _ v _ fun k => ?_)
    exact k.moves (by simpa [latchFault] using hs) rfl
  next hs =>
    refine (latchFault_detached s v).trans (shiftValve_detached _ v _ fun k => ?_)
    exact k.moves (by simpa [latchFault] using hs) rfl
  next => exact shift _ _ (closeRequest_valveLive s v) fun k => k.same rfl rfl
  next => exact shift _ _ rfl fun k => k.same rfl rfl
  next => exact .refl s

theorem decoderReport_detached (n : Fin 48) (outputs : Nat) : DetachedKept s (decoderReport n outputs s) := by
  simp only [decoderReport]
  refine (DetachedKept.foldl (fun t v => reconcile_detached t v _) _ s).trans (.foldl (fun t v => ?_) _ _)
  split
  · exact pass_detached t
  · exact .refl t

theorem loseDecoder_detached (v : Fin 32) : DetachedKept s (loseDecoder v s) := by
  simp only [loseDecoder]
  split
  iterate 3
    rename_i hs
    exact fault_detached s v _ fun k => k.moves hs (by simp [latchFault])
  · split
    · exact .after (setValveLive_detached _ v _ fun k => k.same (by simp) (by simp)) (withdraw_valveLive s v)
    · exact .refl s
  all_goals exact .refl s

theorem decoderLost_detached (n : Fin 48) : DetachedKept s (decoderLost n s) := .foldl (fun t v => loseDecoder_detached t v) _ s

theorem liftFault_detached (v : Fin 32) : DetachedKept s (liftFault v s) := by
  simp only [liftFault]
  split
  next hs =>
    split
    · exact change_detached s v _ (closeRequest_valveLive s v) fun k => k.moves hs rfl
    · exact changeValve_detached s v _ fun k => k.moves hs rfl
  · exact .refl s

theorem decoderReturned_detached (n : Fin 48) : DetachedKept s (decoderReturned n s) :=
  .foldl (fun t v => liftFault_detached t v) _ s

theorem settleClosed_detached (v : Fin 32) : DetachedKept s (settleClosed v s) := by
  unfold settleClosed
  split
  next h =>
    exact changeValve_detached s v _ fun _ => ValveLive.sound_of_attached (by simp) (by simp at h; exact h.2)
  · exact .refl s

theorem openWithdrawn_detached (v : Fin 32) (sent : Bool) : DetachedKept s (openWithdrawn v sent s) := by
  simp only [openWithdrawn]
  split
  next hs =>
    split
    · exact change_detached s v _ (closeRequest_valveLive s v) fun k => k.moves hs rfl
    · exact changeValve_detached s v _ fun k => k.moves hs rfl
  · exact .refl s

theorem stateAfterClose_attached (v : Fin 32) : stateAfterClose s v ≠ .detached := by
  unfold stateAfterClose
  split <;> simp

theorem setValveMode_detached (v : Fin 32) (m : ValveMode) : DetachedKept s (setValveMode v m s) := by
  have close := closeRequest_valveLive s v
  have hsac := stateAfterClose_attached s v
  simp only [setValveMode]
  split
  · split
    · exact .refl s
    · exact change_detached s v _ close fun _ => ValveLive.sound_of_attached hsac (by simp)
  · split
    · exact change_detached s v _ (openRequest_valveLive s v) fun _ => ValveLive.sound_of_attached (by simp) (by simp)
    next h =>
      refine changeValve_detached s v _ fun _ => ValveLive.sound_of_attached (fun k => h ?_) (by simp)
      have k' : s.valveLive[v].state = .detached := k
      unfold submitsOpen
      rw [k']
      rfl
  · split
    next hf =>
      have hfault (l : ValveLive) (hl : l.state = s.valveLive[v].state) (hm : l.mode = .forcedClosed) : l.sound :=
        ValveLive.sound_of_attached (by rw [hl, hf]; decide) (by rw [hm]; decide)
      split
      · exact change_detached s v _ close fun _ => hfault _ rfl rfl
      · exact changeValve_detached s v _ fun _ => hfault _ rfl rfl
    · exact change_detached s v _ close fun _ => ValveLive.sound_of_attached hsac (by simp)
  · exact change_detached s v _ (withdraw_valveLive s v) fun _ => by simp [ValveLive.sound]

theorem forcedToAuto_detached : DetachedKept s (forcedToAuto s) := by
  refine .foldl (fun t v => ?_) _ s
  split
  · exact setValveMode_detached t v .auto
  · exact .refl t

theorem ValveLive.afterSwap_sound (old new : ValveRec) {l : ValveLive} (h : l.sound) : (l.afterSwap old new).sound := by
  unfold ValveLive.afterSwap
  split
  · exact sound_of_attached (by simp) (by simp)
  · split
    · exact sound_of_attached (by simp) (by simp)
    · split
      next hf => exact h.moves (by simpa using (Bool.and_eq_true_iff.1 hf).2) rfl
      · exact h

@[simp] theorem noteValveChange_valveLive : (noteValveChange s).valveLive = s.valveLive := rfl

theorem valveSwapped_detached (v : Fin 32) (old new : ValveRec) : DetachedKept s (valveSwapped v old new s) := by
  simp only [valveSwapped]
  generalize ht : (if withdrawsAtSwap old new s.valveLive[v] then withdraw v s else s) = t
  have hw : t.valveLive = s.valveLive := by rw [← ht]; split <;> simp
  refine (change_detached s v (t := noteValveChange t) _ hw fun k => ?_).trans (pass_detached _)
  rw [hw]
  exact ValveLive.afterSwap_sound old new k

/-! ## Locks, weather and nodes -/

theorem lockOnset_detached (m : LockMode) (i : LockTiming) : DetachedKept s (lockOnset m i s) := by
  have drop (bs : List (Fin 24)) (t : State) : DetachedKept t (bs.foldl (fun u b => dropRun b u) t) :=
    .foldl (fun u b => dropRun_detached u b) bs t
  have pulses : DetachedKept s ((bedsOn s).foldl (fun u b => if m = .cancel then removeRun b u else earlyEnd b .onlyLock true u) s) :=
    .foldl (fun u b => by
      split
      · exact removeRun_detached u b
      · exact earlyEnd_detached u b _ _) _ s
  have ended : DetachedKept s (if i = .immediate then
      (bedsOn s).foldl (fun u b => if m = .cancel then removeRun b u else earlyEnd b .onlyLock true u) s else s) := by
    split
    · exact pulses
    · exact .refl s
  unfold lockOnset
  by_cases hm : m = .cancel
  · rw [if_pos hm]
    exact ended.trans (drop _ _)
  · rw [if_neg hm]
    exact ended

theorem lockLeaves_detached : DetachedKept s (lockLeaves s) :=
  .after ((grantPass_detached _).trans (demandAll_detached _)) (releaseAll_valveLive s)

theorem recomputeLock_detached : DetachedKept s (recomputeLock s) := by
  simp only [recomputeLock]
  split
  · exact .refl s
  · split
    · exact .after (lockLeaves_detached _) rfl
    · split
      · exact .after (lockOnset_detached _ _ _) rfl
      · exact .of_live rfl

theorem setCondition_detached (x : Source) (b : Bool) : DetachedKept s (setCondition x b s) := by
  unfold setCondition
  split
  · exact .refl s
  · exact .after (recomputeLock_detached _) rfl

theorem raiseSupply_detached : DetachedKept s (raiseSupply s) := by
  unfold raiseSupply
  split
  · exact .refl s
  · exact (setCondition_detached s _ _).trans (forcedToAuto_detached _)

theorem handWeather_detached (t : Int) (v : Nat) : DetachedKept s (handWeather t v s) := by
  have kf (w : State) : DetachedKept w (judgeFreeze t w) := setCondition_detached w _ _
  have kw (w : State) : DetachedKept w (judgeWind v w) := setCondition_detached w _ _
  simp only [handWeather]
  split
  · split
    · exact .after ((kw _).trans (kf _)) rfl
    · exact .after ((kf _).trans (kw _)) rfl
  · exact .after ((kf _).trans (kw _)) rfl

theorem rainHoldDelta_detached (d : Nat) : DetachedKept s (rainHoldDelta d s) := by
  simp only [rainHoldDelta]
  split
  · exact .after (setCondition_detached _ _ _) rfl
  · exact .refl s

theorem probeReading_detached (n : Fin 48) (x : Nat) : DetachedKept s (probeReading n x s) := by
  simp only [probeReading]
  split
  · exact .refl s
  · split
    · split
      · exact .of_live rfl
      · exact .after (demandCheck_detached _ _) (onBed_valveLive _ _ _)
    · split <;> exact .of_live rfl

@[simp] theorem probeReturns_valveLive (n : Fin 48) : (probeReturns n s).valveLive = s.valveLive := by
  unfold probeReturns
  split
  · rfl
  · split <;> rfl

@[simp] theorem probeSwapped_valveLive (n : Fin 48) (old new : NodeRec) : (probeSwapped n old new s).valveLive = s.valveLive := by
  unfold probeSwapped
  split
  · split
    · rfl
    · exact probeReturns_valveLive s n
  · rfl

@[simp] theorem judgeProbe_valveLive (n : Fin 48) : (judgeProbe n s).valveLive = s.valveLive := by
  unfold judgeProbe
  split <;> rfl

theorem evaluate_detached (b : Fin 24) : DetachedKept s (evaluate b s) := by
  simp only [evaluate]
  exact (DetachedKept.foldl (fun t n => .of_live (judgeProbe_valveLive t n)) (probesOf s b) s).trans (.of_live (by simp))

theorem setWeather_detached (w : WeatherUnit) : DetachedKept s (setWeather w s) := by
  simp only [setWeather]
  split
  · exact .after (demandAll_detached _) (by simp)
  · exact .of_live rfl

theorem recomputeRate_detached : DetachedKept s (recomputeRate s) := by
  unfold recomputeRate
  split
  · exact setWeather_detached s _
  · exact .refl s

theorem rainToBeds_detached (d : Nat) : DetachedKept s (rainToBeds d s) :=
  (DetachedKept.foldl (fun t b => .of_live (rainCredit_valveLive t b d)) _ s).trans (demandAll_detached _)

theorem rainDelta_detached (d : Nat) : DetachedKept s (rainDelta d s) := by
  simp only [rainDelta]
  split
  · split
    · exact .after ((rainHoldDelta_detached _ d).trans (rainToBeds_detached _ d)) rfl
    · exact .after ((rainToBeds_detached _ d).trans (rainHoldDelta_detached _ d)) rfl
  · exact (rainToBeds_detached s d).trans (rainHoldDelta_detached _ d)

theorem rainCounter_detached (x : Nat) : DetachedKept s (rainCounter x s) := by
  simp only [rainCounter]
  split
  · split
    · exact .of_live rfl
    · split
      · exact .refl s
      · split
        · exact .after (rainDelta_detached _ _) rfl
        · exact .of_live rfl
  · exact .refl s

theorem localTip_detached : DetachedKept s (localTip s) := by
  unfold localTip
  split
  · exact rainDelta_detached s 1
  · exact .refl s

theorem weatherReport_detached (t : Int) (v x : Nat) : DetachedKept s (weatherReport t v x s) :=
  ((setWeather_detached s _).trans (handWeather_detached _ _ _)).trans (rainCounter_detached _ x)

theorem weatherNodeSwapped_detached (old new : NodeRec) : DetachedKept s (weatherNodeSwapped old new s) := by
  unfold weatherNodeSwapped
  split
  · split
    · exact setWeather_detached s _
    · exact .of_live rfl
  · split
    · exact setWeather_detached s _
    · exact .refl s

theorem weatherRecSwapped_detached (old new : WeatherRec) : DetachedKept s (weatherRecSwapped old new s) := by
  unfold weatherRecSwapped
  split
  · exact .after (recomputeRate_detached _) rfl
  · exact recomputeRate_detached s

theorem consumeReport_detached (n : Fin 48) (k : NodeKind) (p : List Byte) : DetachedKept s (consumeReport n k p s) := by
  unfold consumeReport
  split
  · exact probeReading_detached s n _
  · exact weatherReport_detached s _ _ _
  · exact decoderReport_detached s n _
  all_goals exact .refl s

theorem nodePresent_detached (n : Fin 48) (k : NodeKind) (prior : Presence) : DetachedKept s (nodePresent n k prior s) := by
  unfold nodePresent
  split
  · split
    · exact (decoderReturned_detached s n).trans (pass_detached _)
    · exact pass_detached s
  · split
    · exact .of_live (probeReturns_valveLive s n)
    · exact .refl s
  · exact .of_live rfl
  all_goals exact .refl s

theorem nodeMissing_detached (n : Fin 48) (k : NodeKind) : DetachedKept s (nodeMissing n k s) := by
  unfold nodeMissing
  split
  · exact decoderLost_detached s n
  · exact .refl s

theorem decoderSwapped_detached (n : Fin 48) (old new : NodeRec) : DetachedKept s (decoderSwapped n old new s) := by
  unfold decoderSwapped
  split
  · exact decoderLost_detached s n
  · exact .refl s

/-! ## Clearings of the command FIFO -/

theorem clearEntries_detached (leaves : FifoEntry → Bool) : DetachedKept s (clearEntries leaves s) := by
  obtain ⟨order, n, -, h⟩ := clearEntries_eq leaves s
  rw [h]
  refine DetachedKept.after (.foldl (fun t v => ?_) _ _) (leaveFifo_valveLive s leaves order n)
  split
  · exact openWithdrawn_detached t v _
  · exact .refl t

theorem clearFifo_detached : DetachedKept s (clearFifo s) := .after (clearEntries_detached _ _) rfl
theorem clearWaiting_detached : DetachedKept s (clearWaiting s) := .after (clearEntries_detached _ _) rfl

theorem payClearing_detached (tx : Transmission) : DetachedKept s (payClearing tx s) := by
  simp only [payClearing]
  split
  · exact clearFifo_detached s
  · split
    · split
      · exact .after (clearEntries_detached _ _) rfl
      · exact .of_live rfl
    · exact .refl s

end

end Sys2Proof.Machine
end

section
/-! SUPPORT and PROOF. Line power with the state, miss counts in their range, and DETACHED state with DETACHED mode (02 R20, 03
R37, 07 R121): every operation, every command and every step keeps the three. -/

namespace Sys2Proof.Machine

/-- The miss count of a node's live state stands in its range (03 R37). -/
def NodeLive.counted (l : NodeLive) : Prop := l.misses ≤ 3 ∧ (l.presence = .present → l.misses < 3)

/-- A move that keeps the miss counts in range, and DETACHED in state and mode. -/
structure LivesKept (s t : State) : Prop where
  misses : MissLaw s → MissLaw t
  detached : DetachedKept s t

/-- A move that keeps LPWR with the sequencer's state too. -/
structure DeviceKept (s t : State) : Prop extends LivesKept s t where
  power : PowerLaw s → PowerLaw t

namespace LivesKept
variable {s t u : State}

theorem refl (s : State) : LivesKept s s := ⟨id, .refl s⟩

theorem trans (h : LivesKept s t) (k : LivesKept t u) : LivesKept s u :=
  ⟨fun p => k.misses (h.misses p), h.detached.trans k.detached⟩

theorem of_detached (d : DetachedKept s t) (nodes : t.nodeLive = s.nodeLive) : LivesKept s t :=
  ⟨fun m n => by rw [nodes]; exact m n, d⟩

/-- A move that leaves nodes and valves alone. -/
theorem aside (nodes : t.nodeLive = s.nodeLive) (valves : t.valveLive = s.valveLive) : LivesKept s t :=
  of_detached (.of_live valves) nodes

/-- A move that follows one which leaves nodes and valves alone. -/
theorem after (k : LivesKept t u) (nodes : t.nodeLive = s.nodeLive) (valves : t.valveLive = s.valveLive) : LivesKept s u :=
  (aside nodes valves).trans k

theorem foldl {α : Type} {f : State → α → State} (hf : ∀ s a, LivesKept s (f s a)) (as : List α) (s : State) :
    LivesKept s (as.foldl f s) := by
  induction as generalizing s with
  | nil => exact refl s
  | cons a as ih => exact (hf s a).trans (ih (f s a))

theorem ite {p : Prop} [Decidable p] (h : p → LivesKept s t) (k : ¬ p → LivesKept s u) : LivesKept s (if p then t else u) := by
  split
  next x => exact h x
  next x => exact k x

/-- Line power stands as it did, and so does whether the state has it. -/
theorem device (h : LivesKept s t) (lpwr : t.lpwr = s.lpwr) (state : t.seq.state.powered = s.seq.state.powered) :
    DeviceKept s t :=
  ⟨h, fun p => by unfold PowerLaw at *; rw [lpwr, p, state]⟩

/-- The line frame of a field move says so. -/
theorem field (h : LivesKept s t) (f : FieldFrame s t) : DeviceKept s t := h.device f.lpwr (by rw [f.seq])

end LivesKept

namespace DeviceKept
variable {s t u : State}

theorem refl (s : State) : DeviceKept s s := ⟨.refl s, id⟩

theorem trans (h : DeviceKept s t) (k : DeviceKept t u) : DeviceKept s u :=
  ⟨h.toLivesKept.trans k.toLivesKept, fun p => k.power (h.power p)⟩

theorem foldl {α : Type} {f : State → α → State} (hf : ∀ s a, DeviceKept s (f s a)) (as : List α) (s : State) :
    DeviceKept s (as.foldl f s) := by
  induction as generalizing s with
  | nil => exact refl s
  | cons a as ih => exact (hf s a).trans (ih (f s a))

/-- A move that leaves line power, nodes and valves alone. -/
theorem aside (lpwr : t.lpwr = s.lpwr) (state : t.seq.state = s.seq.state) (nodes : t.nodeLive = s.nodeLive)
    (valves : t.valveLive = s.valveLive) : DeviceKept s t :=
  (LivesKept.aside nodes valves).device lpwr (by rw [state])

theorem water (h : WaterFrame s t) (d : DetachedKept s t) : DeviceKept s t :=
  (LivesKept.of_detached d h.nodeLive).field h.field

/-- A move of the field blocks that touches no node. -/
theorem field (f : FieldFrame s t) (m : Move .valves s t) (d : DetachedKept s t) : DeviceKept s t :=
  (LivesKept.of_detached d m.nodeLive).field f

theorem ite {p : Prop} [Decidable p] (h : p → DeviceKept s t) (k : ¬ p → DeviceKept s u) :
    DeviceKept s (if p then t else u) := by
  split
  next x => exact h x
  next x => exact k x

end DeviceKept

section
variable (s : State)

/-! ## The Node Table -/

theorem setNodeLive_device (n : Fin 48) (l : NodeLive) (h : s.nodeLive[n].counted → l.counted) :
    DeviceKept s (s.setNodeLive n l) := by
  refine LivesKept.device ⟨fun d m => ?_, .of_live rfl⟩ rfl rfl
  by_cases hm : m = n
  · subst hm
    rw [setNodeLive_live]
    exact h (d m)
  · rw [State.setNodeLive_nodeLive, getElem_set_other _ hm]
    exact d m

theorem setFlag_device (f : Flag) : DeviceKept s (setFlag f s) := .aside rfl rfl rfl rfl
theorem setWork_device (w : Work) : DeviceKept s (s.setWork w) := .aside rfl rfl rfl rfl
theorem setHub_device (h : HubPort) : DeviceKept s (s.setHub h) := .aside rfl rfl rfl rfl

theorem presenceChanged_device (n : Fin 48) (l : NodeLive) (h : s.nodeLive[n].counted → l.counted) :
    DeviceKept s (presenceChanged n l s) :=
  (setNodeLive_device s n { l with changed := true } h).trans (setFlag_device _ _)

theorem pass_device : DeviceKept s (pass s) := .water (pass_frame s) (pass_detached s)

theorem nodeMissing_device (n : Fin 48) (k : NodeKind) : DeviceKept s (nodeMissing n k s) :=
  .field (nodeMissing_field s n k) (nodeMissing_move s n k fun _ => trivial) (nodeMissing_detached s n k)

theorem nodePresent_device (n : Fin 48) (k : NodeKind) (prior : Presence) : DeviceKept s (nodePresent n k prior s) :=
  .field (nodePresent_field s n k prior) (nodePresent_move s n k prior fun _ => trivial) (nodePresent_detached s n k prior)

theorem consumeReport_device (n : Fin 48) (k : NodeKind) (p : List Byte) : DeviceKept s (consumeReport n k p s) :=
  .field (consumeReport_field s n k p) (consumeReport_move s n k p fun _ => trivial) (consumeReport_detached s n k p)

theorem pollMiss_device (n : Fin 48) : DeviceKept s (pollMiss n s) := by
  simp only [pollMiss]
  split
  next hp => exact setNodeLive_device s n _ fun _ => ⟨Nat.min_le_left _ _, fun k => by rw [hp] at k; cases k⟩
  next hp => exact setNodeLive_device s n _ fun _ => ⟨Nat.le_refl 3, fun k => by rw [hp] at k; cases k⟩
  · split
    next h => exact setNodeLive_device s n _ fun _ => ⟨Nat.le_of_lt h, fun _ => h⟩
    · exact (presenceChanged_device s n _ fun _ => ⟨Nat.le_refl 3, fun k => by cases k⟩).trans (nodeMissing_device _ n _)

theorem pollHeard_device (n : Fin 48) : DeviceKept s (pollHeard n s) := by
  have heard (l : NodeLive) (h : l.misses = 0) : l.counted := ⟨by omega, fun _ => by omega⟩
  simp only [pollHeard]
  split
  · exact setNodeLive_device s n _ fun _ => heard _ rfl
  · exact (presenceChanged_device s n _ fun _ => heard _ rfl).trans (nodePresent_device _ n _ _)

theorem offerReport_device (f : HubFrame) : DeviceKept s (offerReport f s) := by
  unfold offerReport
  split
  · exact setHub_device s _
  · exact setFlag_device s _

theorem forwardReport_device (n : Fin 48) (k : NodeKind) (p : List Byte) : DeviceKept s (forwardReport n k p s) := by
  have live (f : HubFrame) : (offerReport f s).nodeLive = s.nodeLive := by unfold offerReport; split <;> rfl
  simp only [forwardReport]
  split
  · split
    · exact (offerReport_device s _).trans (setNodeLive_device _ n _ fun c => by rw [live] at c; exact c)
    · exact offerReport_device s _
  · exact .refl s

theorem pollResult_device (n : Fin 48) (r : Option (NodeKind × List Byte)) : DeviceKept s (pollResult n r s) := by
  unfold pollResult
  split
  · exact pollMiss_device s n
  · split
    · exact ((pollHeard_device s n).trans (consumeReport_device _ n _ _)).trans (forwardReport_device _ n _ _)
    · exact pollMiss_device s n

theorem pollDelivered_device (n : Fin 48) (a : Byte) (r : Option (NodeKind × List Byte)) :
    DeviceKept s (pollDelivered n a r s) := by
  have chosen : DeviceKept s { s with choice := s.choice + 1 } := .aside rfl rfl rfl rfl
  simp only [pollDelivered]
  refine .ite (fun _ => .ite (fun _ => pollResult_device s n r) fun _ => ?_) fun _ => .refl s
  split
  · exact chosen.trans (pollResult_device _ n r)
  · exact chosen

theorem absent_counted {l : NodeLive} (hp : l.presence = .absent) (hm : l.misses = 0) : l.counted :=
  ⟨by omega, fun k => by rw [hp] at k; cases k⟩

theorem losePower_device (n : Fin 48) : DeviceKept s (losePower n s) := by
  simp only [losePower]
  refine .ite (fun _ => .ite (fun _ => ?_) fun _ => ?_) fun _ => .refl s
  · exact setNodeLive_device s n _ fun _ => absent_counted rfl rfl
  · exact presenceChanged_device s n _ fun _ => absent_counted rfl rfl

theorem nodesPowerOff_device : DeviceKept s (nodesPowerOff s) := .foldl (fun t n => losePower_device t n) _ s

theorem nodeLiveSwapped_device (n : Fin 48) (old new : NodeRec) : DeviceKept s (nodeLiveSwapped n old new s) := by
  simp only [nodeLiveSwapped]
  refine .ite (fun _ => .ite (fun _ => ?_) fun _ => ?_) fun _ => ?_
  · exact setNodeLive_device s n _ fun _ => absent_counted rfl rfl
  · exact presenceChanged_device s n _ fun _ => absent_counted rfl rfl
  · exact setNodeLive_device s n _ id

theorem nodeSwapped_device (n : Fin 48) (old new : NodeRec) : DeviceKept s (nodeSwapped n old new s) := by
  unfold nodeSwapped
  have hl := nodeLiveSwapped_device s n old new
  generalize nodeLiveSwapped n old new s = u at hl
  refine hl.trans (.field ?_ ?_ ?_)
  · exact ((probeSwapped_field u n old new).trans (weatherNodeSwapped_field _ old new)).trans (decoderSwapped_field _ n old new)
  · exact ((probeSwapped_move u n old new).trans (weatherNodeSwapped_move _ old new)).trans
      (decoderSwapped_move _ n old new fun _ => trivial)
  · exact ((DetachedKept.of_live (probeSwapped_valveLive u n old new)).trans (weatherNodeSwapped_detached _ old new)).trans
      (decoderSwapped_detached _ n old new)

/-! ## The Sequencer -/

theorem clearFifo_device : DeviceKept s (clearFifo s) :=
  (LivesKept.of_detached (clearFifo_detached s) (clearFifo_sensors s).nodeLive).field (clearFifo_field s)

theorem clearWaiting_device : DeviceKept s (clearWaiting s) :=
  (LivesKept.of_detached (clearWaiting_detached s)
    ((SensorsKept.of_water (setQueue_frame s _)).trans (clearEntries_sensors _ _)).nodeLive).field (clearWaiting_field s)

theorem payClearing_device (tx : Transmission) : DeviceKept s (payClearing tx s) :=
  (LivesKept.of_detached (payClearing_detached s tx) (payClearing_sensors s tx).nodeLive).field (payClearing_field s tx)

theorem marksStop_device : DeviceKept s (marksStop s) := by
  have beacon : DeviceKept s { s with beacon := some (s.partTime + 10) } := .aside rfl rfl rfl rfl
  simp only [marksStop]
  exact .ite (fun _ => .aside rfl rfl rfl rfl) fun _ => beacon.trans (clearFifo_device _)

theorem marksStart_device : DeviceKept s (marksStart s) := by
  have beacon : DeviceKept s { s with beacon := none } := .aside rfl rfl rfl rfl
  simp only [marksStart]
  exact .ite (fun _ => beacon.trans (clearWaiting_device _)) fun _ => beacon

theorem runningLeft_device : DeviceKept s (runningLeft s) := .water (runningLeft_frame s) (runningLeft_detached s)
theorem releaseAll_device : DeviceKept s (releaseAll s) := .water (releaseAll_frame s) (.of_live (releaseAll_valveLive s))

/-- The sequencer changes, to a state with power from one with power. -/
theorem setSeq_device (q : Sequencer) (h : q.state.powered = s.seq.state.powered) : DeviceKept s (s.setSeq q) :=
  LivesKept.device (t := s.setSeq q) (.aside rfl rfl) rfl h

theorem quiet_device (q : SeqState) (h : q.powered = s.seq.state.powered) : DeviceKept s (quiet q s) :=
  LivesKept.device (t := quiet q s) (.aside rfl rfl) rfl h

theorem enterStopped_device (h : s.seq.state.powered = true) : DeviceKept s (enterStopped s) := by
  have hq := quiet_device s .stopped h.symm
  simp only [enterStopped]
  refine .trans ?_ (marksStop_device _)
  exact .ite (fun _ => hq.trans (setSeq_device _ _ rfl)) fun _ => hq

theorem halt_device (h : s.seq.state.powered = true) : DeviceKept s (halt s) := by
  have hq : DeviceKept s (quiet .halted (setFlag .seqHalted s)) := (setFlag_device s _).trans (quiet_device _ _ h.symm)
  simp only [halt]
  refine .trans ?_ (marksStop_device _)
  exact .ite (fun _ => hq.trans (runningLeft_device _)) fun _ => hq

theorem marksStart_state : (marksStart s).seq.state = s.seq.state := by
  simp only [marksStart]
  split
  · rw [(clearWaiting_field _).seq]
  · rfl

/-- Marks start, in RUNNING or STEP. -/
theorem beginMarking_lives (q : SeqState) (n : Nat) : LivesKept s (beginMarking q n (marksStart s)) :=
  (marksStart_device s).toLivesKept.trans (.aside rfl rfl)

theorem enterRunning_lives (n : Nat) : LivesKept s (enterRunning n s) :=
  (beginMarking_lives s .running n).trans ((releaseAll_device _).trans (pass_device _)).toLivesKept

theorem enterRunning_state (n : Nat) : (enterRunning n s).seq.state = .running := by
  simp only [enterRunning]
  rw [(pass_frame _).seq, (releaseAll_frame _).seq]
  rfl

theorem marksStart_lpwr : (marksStart s).lpwr = s.lpwr := by
  simp only [marksStart]
  split
  · exact (clearWaiting_field _).lpwr
  · rfl

theorem enterRunning_lpwr (n : Nat) : (enterRunning n s).lpwr = s.lpwr := by
  simp only [enterRunning]
  rw [(pass_frame _).lpwr, (releaseAll_frame _).lpwr]
  exact marksStart_lpwr s

theorem enterRunning_device (n : Nat) (h : s.seq.state.powered = true) : DeviceKept s (enterRunning n s) :=
  (enterRunning_lives s n).device (enterRunning_lpwr s n) (by rw [enterRunning_state, h]; rfl)

theorem enterStep_device (h : s.seq.state.powered = true) : DeviceKept s (enterStep s) :=
  (beginMarking_lives s .step 0).device (marksStart_lpwr s) h.symm

theorem enterStopping_device (h : s.seq.state.powered = true) : DeviceKept s (enterStopping s) :=
  ((setSeq_device s { s.seq with state := .stopping } h.symm).trans (runningLeft_device _)).trans (setWork_device _ _)

theorem examineStop_device : DeviceKept s (examineStop s) := by
  simp only [examineStop]
  refine .ite (fun h => (setWork_device s _).trans (enterStopped_device _ ?_)) fun _ => setWork_device s _
  rw [h.1]
  rfl

/-! ## Line current -/

theorem settleClosed_device (v : Fin 32) : DeviceKept s (settleClosed v s) :=
  .water (settleClosed_frame s v) (settleClosed_detached s v)

theorem valvesPowerOff_device : DeviceKept s (valvesPowerOff s) := by
  have beacon : DeviceKept s { s with beacon := none } := .aside rfl rfl rfl rfl
  exact beacon.trans (.foldl (fun t v => settleClosed_device t v) _ _)

theorem beaconExpires_device : DeviceKept s (beaconExpires s) := by
  have beacon : DeviceKept s { s with beacon := none } := .aside rfl rfl rfl rfl
  have withdrawn (t : State) (v : Fin 32) : DeviceKept t (withdraw v t) :=
    .water (withdraw_frame t v) (.of_live (withdraw_valveLive t v))
  exact beacon.trans ((DeviceKept.foldl (fun t v => withdrawn t v) _ _).trans (.foldl (fun t v => settleClosed_device t v) _ _))

theorem queuePowerOff_device : DeviceKept s (queuePowerOff s) := by
  refine LivesKept.field (.aside ?_ ?_) (queuePowerOff_field s) <;>
  · simp only [queuePowerOff]
    obtain ⟨order, n, -, h⟩ := passesDown_eq s.lcq.fifo
      (setFifo [] (s.setQueue { s.lcq with closes := Vector.replicate 32 none, clearOwed := false, withdrawOwed := false }))
    rw [h]
    simp

/-- Power is cut, and the sequencer takes a state without it (02 R30, R32). -/
theorem cutPower_device (q : SeqState) (m : CurrentMonitor) (hq : q.powered = false) : DeviceKept s (cutPower q m s) := by
  simp only [cutPower]
  have cut : DeviceKept s (quiet q { s with lpwr := false, mon := m }) := ⟨.aside rfl rfl, fun _ => hq.symm⟩
  exact (((DeviceKept.ite (fun _ => cut.trans (runningLeft_device _)) fun _ => cut).trans (queuePowerOff_device _)).trans
    (valvesPowerOff_device _)).trans (nodesPowerOff_device _)

theorem trip_device : DeviceKept s (trip s) := by
  simp only [trip]
  refine .ite (fun _ => ?_) fun _ => ?_
  · exact ((setFlag_device s _).trans (setFlag_device _ _)).trans (cutPower_device _ _ _ rfl)
  · exact ((setFlag_device s _).trans (setSeq_device _ { s.seq with resume := resumeFor s.seq.state } rfl)).trans
      (cutPower_device _ _ _ rfl)

/-- Power returns, and the sequencer takes a state with it (02 R33). -/
theorem backoffEnds_device : DeviceKept s (backoffEnds s) := by
  simp only [backoffEnds]
  split
  · refine ⟨.after (enterRunning_lives _ _) rfl rfl, fun _ => ?_⟩
    unfold PowerLaw
    rw [enterRunning_lpwr, enterRunning_state]
    rfl
  all_goals exact ⟨.aside rfl rfl, fun _ => rfl⟩

theorem restoreLine_device : DeviceKept s (restoreLine s) := ⟨.aside rfl rfl, fun _ => rfl⟩

/-! ## Echo, cycle, transactions -/

theorem echoGood_device : DeviceKept s (echoGood s) := setSeq_device s _ rfl

theorem settleMark_device : DeviceKept s (settleMark s) := by
  unfold settleMark
  exact .ite (fun _ => (setSeq_device s { s.seq with tx := .idle } rfl).trans (echoGood_device _)) fun _ => .refl s

theorem dropPass_device : DeviceKept s (dropPass s) :=
  .water (dropPass_frame s) (.of_live (by rw [dropPass_eq]; simp))

theorem offerPassReply_device (f : HubFrame) : DeviceKept s (offerPassReply f s) := by
  rw [offerPassReply_eq]
  exact setHub_device s _

theorem abandonTx_device : DeviceKept s (abandonTx s) := by
  have idle := setSeq_device s { s.seq with tx := .idle } rfl
  simp only [abandonTx]
  split
  · exact (idle.trans (dropPass_device _)).trans (offerPassReply_device _ _)
  all_goals exact idle

theorem marking_powered {q : SeqState} (h : q.marking = true) : q.powered = true := by cases q <;> simp_all [SeqState.marking, SeqState.powered]

theorem countMismatch_device : DeviceKept s (countMismatch s) := by
  have counted := setSeq_device s { s.seq with echoFailures := min 3 (s.seq.echoFailures + 1) } rfl
  simp only [countMismatch]
  exact .ite (fun h => counted.trans (halt_device _ (marking_powered h.2))) fun _ => counted

theorem clearAttempted_device : DeviceKept s (clearAttempted s) := by
  obtain ⟨l, h⟩ := clearAttempted_eq s
  rw [h]
  exact .aside rfl rfl rfl rfl

theorem openCycle_device : DeviceKept s (openCycle s) := setSeq_device s _ rfl

theorem beginPolls_device : DeviceKept s (beginPolls s) := by
  simp only [beginPolls]
  split <;> exact .aside rfl rfl rfl rfl

theorem beginPollSlot_device (n : Fin 48) (rest : List (Fin 48)) : DeviceKept s (beginPollSlot n rest s) :=
  setSeq_device s _ rfl

theorem beginCommandSlot_device : DeviceKept s (beginCommandSlot s) := by
  have sent (t : State) (i : Nat) : DeviceKept t (sendPass i t) := by
    unfold sendPass
    split
    · exact .aside rfl rfl rfl rfl
    · exact .refl t
  have begun := setSeq_device s { s.seq with phase := .commands, position := s.seq.nextSlot, nextSlot := s.seq.nextSlot + 160 } rfl
  simp only [beginCommandSlot]
  split
  · exact begun.trans (setSeq_device _ _ rfl)
  · exact begun.trans (setSeq_device _ _ rfl)
  · exact begun.trans (sent _ _)
  · exact begun

theorem commandEnds_device (v : Fin 32) (k : CommandKind) (d a : Bool) : DeviceKept s (commandEnds v k d a s) := by
  have ended (t : State) : DeviceKept t (if a then commandLeaves v k t else commandStays v k t) :=
    .ite (fun _ => .water (commandLeaves_frame t v k) (.of_live (commandLeaves_valveLive t v k)))
      fun _ => .water (commandStays_frame t v k) (.of_live (commandStays_valveLive t v k))
  have idle := (setSeq_device s { s.seq with tx := .idle } rfl).trans (echoGood_device _)
  simp only [commandEnds]
  exact .ite (fun _ => idle) fun _ => (idle.trans (ended _)).trans
    (.water (valveOutcome_frame _ v k a) (valveOutcome_detached _ v k a))

theorem passEnds_device (a : Byte) (x : Option (List Byte)) : DeviceKept s (passEnds a x s) := by
  rw [passEnds_eq]
  exact ((setSeq_device s { s.seq with tx := .idle, echoFailures := 0 } rfl).trans (dropPass_device _)).trans
    (offerPassReply_device _ _)

/-! ## Swaps and the end of a step -/

theorem onSlot_device (f : EntryOp) (x : Slot) : DeviceKept s (onSlot f x s) := by
  cases x <;> exact .aside rfl rfl rfl rfl

theorem judgeMeasure_device : DeviceKept s (judgeMeasure s) := .aside rfl rfl rfl rfl

theorem lineSwapped_device : DeviceKept s (lineSwapped s) := by
  simp only [lineSwapped]
  exact .ite (fun _ => .aside rfl rfl rfl rfl) fun _ => judgeMeasure_device s

theorem demandCheck_device (b : Fin 24) : DeviceKept s (demandCheck b s) :=
  .water (demandCheck_frame s b) (demandCheck_detached s b)

theorem setCondition_device (x : Source) (b : Bool) : DeviceKept s (setCondition x b s) :=
  .field (setCondition_field s x b) (setCondition_move s x b fun _ => trivial) (setCondition_detached s x b)

theorem recomputeLock_device : DeviceKept s (recomputeLock s) :=
  .field (recomputeLock_field s) (recomputeLock_move s fun _ => trivial) (recomputeLock_detached s)

theorem bedSwapped_device (b : Fin 24) (old new : BedRec) : DeviceKept s (bedSwapped b old new s) := by
  have accrued : DeviceKept s (accrue b s) := .water (accrue_frame s b) (.of_live (accrue_valveLive s b))
  have written (t : State) (l : Option BedLive) : DeviceKept t (t.setBedLive b l) := .aside rfl rfl rfl rfl
  exact ((accrued.trans (onSlot_device _ _ _)).trans (written _ _)).trans (demandCheck_device _ b)

theorem swapEffects_device (x : Slot) : DeviceKept s (swapEffects x s) := by
  have h := onSlot_device s ⟨Entry.swap⟩ x
  cases x with
  | node n => exact h.trans (nodeSwapped_device _ n _ _)
  | poll _ => exact h
  | valve v => exact h.trans (.water (valveSwapped_frame _ v _ _) (valveSwapped_detached _ v _ _))
  | bed b => exact bedSwapped_device s b _ _
  | supply =>
    have monitored (t : State) (m : SupplyMonitor) : DeviceKept t (t.setMonitor m) := .aside rfl rfl rfl rfl
    exact h.trans (((monitored _ _).trans (setCondition_device _ _ _)).trans (pass_device _))
  | line => exact h.trans (lineSwapped_device _)
  | weather =>
    exact h.trans (.field (weatherRecSwapped_field _ _ _) (weatherRecSwapped_move _ _ _) (weatherRecSwapped_detached _ _ _))
  | drying => exact h.trans (.field (recomputeRate_field _) (recomputeRate_move _) (recomputeRate_detached _))
  | lock i =>
    have judged (t : State) (l : LockUnit) : DeviceKept t (t.setLocks l) := .aside rfl rfl rfl rfl
    exact h.trans ((judged _ _).trans (recomputeLock_device _))

theorem swapSlot_device (x : Slot) : DeviceKept s (swapSlot x s) := by
  simp only [swapSlot]
  exact .ite (fun _ => (swapEffects_device s x).trans (setFlag_device _ _)) fun _ => swapEffects_device s x

theorem sweepTurn_device : DeviceKept s (sweepTurn s) := by
  unfold sweepTurn
  split
  · exact swapSlot_device s _
  · exact setWork_device s _

theorem settleTurns_device (n : Nat) : DeviceKept s (settleTurns n s) := by
  induction n generalizing s with
  | zero => exact .refl s
  | succ n ih =>
    have granted (w : Work) : DeviceKept s (settleTurns n (pass (s.setWork w))) :=
      ((setWork_device s w).trans (pass_device _)).trans (ih _)
    unfold settleTurns
    refine .ite (fun _ => (examineStop_device s).trans (ih _)) fun _ => .ite (fun _ => granted _) fun _ =>
      .ite (fun _ => (sweepTurn_device s).trans (ih _)) fun _ => .ite (fun _ => granted _) fun _ => .refl s

theorem settle_device : DeviceKept s (settle s) := (settleTurns_device s 1024).trans (.aside rfl rfl rfl rfl)

theorem firstSweep_device (n : Nat) : DeviceKept s (firstSweep n s) := by
  induction n generalizing s with
  | zero => exact .refl s
  | succ n ih =>
    unfold firstSweep
    split
    · exact (swapSlot_device s _).trans (ih _)
    · exact .refl s

end

end Sys2Proof.Machine
end

section
/-! PROOF. What the Port's rules and every command keep of line power, of the nodes' miss counts and of DETACHED valves. -/

namespace Sys2Proof.Machine

section
variable (s : State)

/-! ## The port -/

theorem arbitrate_device : DeviceKept s (arbitrate s) :=
  .aside (arbitrate_lpwr s) (by rw [arbitrate_seq]) (arbitrate_nodeLive s) (arbitrate_valveLive s)

theorem completed_device {s t : State} (h : DeviceKept s t) : DeviceKept s (complete t) :=
  (h.trans (settle_device t)).trans (arbitrate_device _)

theorem takeRequest_device (kind : Byte) (lengths : Nat → Bool) (rule : List Byte → State → Ruling) (body : List Byte)
    (h : ∀ t, DeviceKept t (rule body t).state) : DeviceKept s (takeRequest kind lengths rule body s) := by
  have head (f : HubFrame) : DeviceKept s (atHead f s) := by
    unfold atHead
    exact .ite (fun _ => setHub_device s _) fun _ => .refl s
  have answer (t : State) (r : Ruling) (k : DeviceKept t r.state) : DeviceKept t (answerRuling kind r) :=
    ((k.trans (settle_device _)).trans (setHub_device _ _)).trans (arbitrate_device _)
  simp only [takeRequest]
  refine .ite (fun _ => (head { kind := kind, body := body }).trans (answer (atHead { kind := kind, body := body } s) _ ?_)) fun _ => .refl s
  split
  · exact h _
  · exact .refl _

theorem framerByte_device (b : Byte) : DeviceKept s (framerByte b s) := by
  have taken (t : State) (f : HubFrame) : DeviceKept t (intake f t) := by
    unfold intake
    exact .ite (fun _ => .refl t) fun _ => .ite (fun _ => setFlag_device t _) fun _ => setHub_device t _
  unfold framerByte
  split
  · exact .ite (fun _ => setHub_device s _) fun _ => .refl s
  · exact .ite (fun _ => setHub_device s _) fun _ => setHub_device s _
  · simp only [checkFrame]
    exact .ite (fun _ => (setHub_device s _).trans (.ite (fun _ => taken _ _) fun _ => .refl _)) fun _ => setHub_device s _

/-- The three laws hold at a reset. -/
theorem blocksReset_device (now : Nat) (micros : Micros) (clock : Clock) : DeviceKept s (blocksReset now micros clock s) where
  misses _ n := by simp [blocksReset, judgeMeasure, State.reset, NodeLive.reset]
  detached := ⟨fun _ v => by simp [blocksReset, judgeMeasure, State.reset, ValveLive.reset]⟩
  power _ := rfl

/-! ## The rules of the requests -/

theorem seqRunRule_device (body : List Byte) : DeviceKept s (seqRunRule body s).state := by
  unfold seqRunRule
  split
  iterate 2
    rename_i hs
    exact enterRunning_device s 0 (by rw [hs]; rfl)
  iterate 3 exact .refl s
  · exact setSeq_device s _ rfl
  · exact .refl s

theorem seqStopRule_device (body : List Byte) : DeviceKept s (seqStopRule body s).state := by
  unfold seqStopRule
  split
  next hs => exact enterStopping_device s (by rw [hs]; rfl)
  iterate 3 exact .refl s
  next hs => exact quiet_device s _ (by rw [hs]; rfl)
  · exact setSeq_device s _ rfl
  · exact .refl s

theorem seqStepRule_device (body : List Byte) : DeviceKept s (seqStepRule body s).state := by
  unfold seqStepRule
  split
  next hs => exact enterStep_device s (by rw [hs]; rfl)
  all_goals exact .refl s

theorem lineRestoreRule_device (body : List Byte) : DeviceKept s (lineRestoreRule body s).state := by
  unfold lineRestoreRule
  split
  · exact restoreLine_device s
  all_goals exact .refl s

theorem passRule_device (body : List Byte) : DeviceKept s (passRule body s).state := by
  simp only [passRule]
  split
  · exact .refl s
  · split
    · exact .refl s
    · split
      · exact .refl s
      · exact .water (setFifo_frame s _) (.of_live (setFifo_valveLive s _))

theorem dropRun_device (b : Fin 24) : DeviceKept s (dropRun b s) := .water (dropRun_frame s b) (dropRun_detached s b)
theorem removeRun_device (b : Fin 24) : DeviceKept s (removeRun b s) := .water (removeRun_frame s b) (removeRun_detached s b)
theorem putRun_device (r : Run) : DeviceKept s (putRun s r) := .aside rfl rfl rfl rfl
theorem setClock_device (k : Clock) : DeviceKept s { s with clock := k } := .aside rfl rfl rfl rfl

theorem forBeds_device (acts : Fin 24 → Bool) {f : Fin 24 → State → State} (h : ∀ b t, DeviceKept t (f b t)) :
    DeviceKept s (forBeds acts f s) :=
  inAnyOrder_keeps .refl .trans (fun _ _ => .aside rfl rfl rfl rfl) h _ _ s

theorem windowCloses_device (b : Fin 24) : DeviceKept s (windowCloses b s) := by
  unfold windowCloses
  split
  · exact .refl s
  · exact .ite (fun _ => .refl s) fun _ => .ite (fun _ => putRun_device s _) fun _ => dropRun_device s b

theorem timeSetRule_device (body : List Byte) : DeviceKept s (timeSetRule body s).state := by
  unfold timeSetRule
  split
  · exact .refl s
  · exact ((setClock_device s _).trans (forBeds_device _ _ fun b t => windowCloses_device t b)).trans
      (.water (demandAll_frame _) (demandAll_detached _))

theorem runStartRule_device (body : List Byte) : DeviceKept s (runStartRule body s).state := by
  have created (t : State) (r : Run) : DeviceKept t (createRun r t) := .water (createRun_frame t r) (.after (pass_detached _) rfl)
  have accrued (b : Fin 24) : DeviceKept s (accrue b s) := .water (accrue_frame s b) (.of_live (accrue_valveLive s b))
  simp only [runStartRule]
  split
  · exact .refl s
  · iterate 4
      split
      · exact .refl s
    split
    · exact .refl s
    · iterate 2
        split
        · exact .refl s
      split
      · split
        · exact accrued _
        · exact (accrued _).trans (created _ _)
      · exact created s _

theorem runStopRule_device (body : List Byte) : DeviceKept s (runStopRule body s).state := by
  unfold runStopRule
  split
  · exact .refl s
  · split
    · exact .refl s
    · exact removeRun_device s _

theorem runAdjustRule_device (body : List Byte) : DeviceKept s (runAdjustRule body s).state := by
  unfold runAdjustRule
  split
  · exact .refl s
  · split
    · exact .refl s
    · split
      · exact .refl s
      · exact putRun_device s _

theorem bedStateRule_device (body : List Byte) : DeviceKept s (bedStateRule body s).state := by
  unfold bedStateRule
  split
  · exact .refl s
  · split
    · exact .refl s
    · exact .water (accrue_frame s _) (.of_live (accrue_valveLive s _))

theorem valveModeRule_device (body : List Byte) : DeviceKept s (valveModeRule body s).state := by
  unfold valveModeRule
  split
  · exact .refl s
  · split
    · exact .refl s
    · iterate 2
        split
        · exact .refl s
      exact .water (setValveMode_frame s _ _) (setValveMode_detached s _ _)

theorem clearFlags_device (x : BitVec 32) : DeviceKept s (clearFlags x s) := .aside rfl rfl rfl rfl

theorem clearChanges_device : DeviceKept s (clearChanges s) := by
  have misses (n : Fin 48) : (clearChanges s).nodeLive[n].misses = s.nodeLive[n].misses := by simp [clearChanges]
  have presence (n : Fin 48) : (clearChanges s).nodeLive[n].presence = s.nodeLive[n].presence := by simp [clearChanges]
  refine LivesKept.device (t := clearChanges s) ⟨fun d n => ?_, .of_live (by simp only [clearChanges])⟩
    (by simp only [clearChanges]) (by simp only [clearChanges])
  simpa only [misses, presence] using d n

theorem clearLatches_device : DeviceKept s (clearLatches s) := by
  have state (v : Fin 32) : (clearLatches s).valveLive[v].state = s.valveLive[v].state := by simp [clearLatches]
  have mode (v : Fin 32) : (clearLatches s).valveLive[v].mode = s.valveLive[v].mode := by simp [clearLatches]
  refine LivesKept.device (t := clearLatches s) ⟨fun d n => ?_, ⟨fun d v => ?_⟩⟩
    (by simp only [clearLatches]) (by simp only [clearLatches])
  · simpa only [clearLatches] using d n
  · simpa only [ValveLive.sound, state, mode] using d v

/-- FLAGS_CLEAR touches a node's change flag and a valve's latched flag alone (11 R187). -/
theorem flagsClearRule_device (body : List Byte) : DeviceKept s (flagsClearRule body s).state := by
  have flags := clearFlags_device s (flagSet body)
  have unchanged : DeviceKept s
      (if namesFlag (flagSet body) .nodeChange then clearChanges (clearFlags (flagSet body) s) else clearFlags (flagSet body) s) :=
    .ite (fun _ => flags.trans (clearChanges_device _)) fun _ => flags
  have unlatched {t : State} (h : DeviceKept s t) :
      DeviceKept s (if namesFlag (flagSet body) .valveFault then clearLatches t else t) :=
    .ite (fun _ => h.trans (clearLatches_device t)) fun _ => h
  simp only [flagsClearRule]
  split
  · exact .refl s
  · exact .ite (fun _ => (unlatched unchanged).trans (setCondition_device _ _ _)) fun _ => unlatched unchanged

theorem resetPartRule_device (body : List Byte) : DeviceKept s (resetPartRule body s).state := by
  unfold resetPartRule
  split
  iterate 3 exact setHub_device s _
  all_goals exact .refl s

theorem loadRule_device (body : List Byte) : DeviceKept s (loadRule body s).state := by
  have loaded {t : State} (x : Slot) (bs : List Byte) (h : loadRecord x bs s = some t) : DeviceKept s t := by
    cases x <;> obtain ⟨r, -, rfl⟩ := Option.map_eq_some_iff.1 h <;> exact .aside rfl rfl rfl rfl
  unfold loadRule
  split
  · exact .refl s
  · split
    · exact .refl s
    · split
      · exact .refl s
      · split
        · exact .refl s
        next h =>
          split
          · exact .refl s
          · exact loaded _ _ h

theorem updateRule_device (body : List Byte) : DeviceKept s (updateRule body s).state := by
  simp only [updateRule]
  split
  · exact .refl s
  · split
    · exact .refl s
    · split
      · exact .refl s
      · split
        · exact .refl s
        · exact ((DeviceKept.foldl (fun t x => onSlot_device t _ x) _ s).trans (setWork_device _ _)).trans
            (firstSweep_device _ 145)

theorem discardRule_device (body : List Byte) : DeviceKept s (discardRule body s).state := by
  unfold discardRule
  split
  · exact .refl s
  · exact .foldl (fun t x => onSlot_device t _ x) _ s

/-! ## The events -/

theorem advance_device (m : Micros) : DeviceKept s (advance m s) := .aside rfl rfl rfl rfl
theorem setMonitor_device (m : SupplyMonitor) : DeviceKept s (s.setMonitor m) := .aside rfl rfl rfl rfl
theorem setLocks_device (l : LockUnit) : DeviceKept s (s.setLocks l) := .aside rfl rfl rfl rfl

theorem judgeEdge_device (x : InputId) : DeviceKept s (judgeEdge x s) := by
  simp only [judgeEdge]
  exact .ite (fun _ => setMonitor_device s _) fun _ => setMonitor_device s _

theorem setWeather_device (w : WeatherUnit) : DeviceKept s (setWeather w s) :=
  .field (setWeather_field s w) (setWeather_move s w) (setWeather_detached s w)

theorem judgeWindow_device (w : WindowResult) : DeviceKept s (judgeWindow w s) := by
  have flagged (b : Bool) (f : Flag) {t : State} (h : DeviceKept s t) : DeviceKept s (if b then setFlag f t else t) :=
    .ite (fun _ => h.trans (setFlag_device _ _)) fun _ => h
  have raised (t : State) : DeviceKept t (raiseSupply t) :=
    .field (raiseSupply_field t) (raiseSupply_move t fun _ => trivial) (raiseSupply_detached t)
  simp only [judgeWindow]
  refine .ite (fun _ => .ite (fun _ => ?_) fun _ => ?_) fun _ => setMonitor_device s _
  · exact ((flagged _ _ (flagged _ _ (setMonitor_device s _))).trans (setFlag_device _ _)).trans (raised _)
  · exact flagged _ _ (flagged _ _ (setMonitor_device s _))

theorem windowTransition_device (old : Nat) (b : Fin 24) : DeviceKept s (windowTransition old b s) := by
  unfold windowTransition
  exact .ite (fun _ => demandCheck_device s b) fun _ => .ite (fun _ => windowCloses_device s b) fun _ => .refl s

/-- Every command keeps the three laws. -/
theorem exec_device (c : Instr) (t : State) (h : exec c s = .next t) : DeviceKept s t := by
  cases c <;> simp only [exec] at h <;> cases h
  case powerOnReset => exact (blocksReset_device s _ _ _).trans (arbitrate_device _)
  case receiveFrame b => exact .ite (fun _ => completed_device (framerByte_device s b)) fun _ => .refl s
  case frameGapTimeout =>
    split
    · exact .refl s
    · exact setHub_device s _
  case breakBegin => exact .ite (fun _ => .refl s) fun _ => setHub_device s _
  case breakEnd => exact .ite (fun _ => (setHub_device s _).trans (arbitrate_device _)) fun _ => .refl s
  case load body => exact takeRequest_device s _ _ _ _ fun t => loadRule_device t body
  case read body => exact takeRequest_device s _ _ _ _ fun t => by rw [readRule_state]; exact .refl t
  case update body => exact takeRequest_device s _ _ _ _ fun t => updateRule_device t body
  case discard body => exact takeRequest_device s _ _ _ _ fun t => discardRule_device t body
  case seqRun body => exact takeRequest_device s _ _ _ _ fun t => seqRunRule_device t body
  case seqStop body => exact takeRequest_device s _ _ _ _ fun t => seqStopRule_device t body
  case seqStep body => exact takeRequest_device s _ _ _ _ fun t => seqStepRule_device t body
  case lineRestore body => exact takeRequest_device s _ _ _ _ fun t => lineRestoreRule_device t body
  case timeSet body => exact takeRequest_device s _ _ _ _ fun t => timeSetRule_device t body
  case timeRead body => exact takeRequest_device s _ _ _ _ fun t => .refl t
  case runStart body => exact takeRequest_device s _ _ _ _ fun t => runStartRule_device t body
  case runStop body => exact takeRequest_device s _ _ _ _ fun t => runStopRule_device t body
  case runStopAll body =>
    exact takeRequest_device s _ _ _ _ fun t => DeviceKept.foldl (fun u b => removeRun_device u b) _ t
  case runAdjust body => exact takeRequest_device s _ _ _ _ fun t => runAdjustRule_device t body
  case runList body => exact takeRequest_device s _ _ _ _ fun t => by rw [runListRule_state]; exact .refl t
  case bedState body => exact takeRequest_device s _ _ _ _ fun t => bedStateRule_device t body
  case valveMode body => exact takeRequest_device s _ _ _ _ fun t => valveModeRule_device t body
  case lockSet body => exact takeRequest_device s _ _ _ _ fun t => setCondition_device t .hub true
  case lockClear body => exact takeRequest_device s _ _ _ _ fun t => setCondition_device t .hub false
  case status body => exact takeRequest_device s _ _ _ _ fun t => .refl t
  case flagsClear body => exact takeRequest_device s _ _ _ _ fun t => flagsClearRule_device t body
  case noticeMask body =>
    refine takeRequest_device s _ _ _ _ fun t => ?_
    unfold noticeMaskRule
    split
    · exact .refl t
    · exact .aside rfl rfl rfl rfl
  case pass body =>
    refine .ite (fun _ => .ite (fun _ => ?_) fun _ => .refl s) fun _ => takeRequest_device s _ _ _ _ fun t => passRule_device t body
    unfold atHead
    exact .ite (fun _ => setHub_device s _) fun _ => .refl s
  case resetPart body => exact takeRequest_device s _ _ _ _ fun t => resetPartRule_device t body
  case unknownKind kind body => exact .ite (fun _ => takeRequest_device s _ _ _ _ fun t => .refl t) fun _ => .refl s
  case answerEnd =>
    split
    · refine .trans ?_ (arbitrate_device _)
      exact .ite (fun _ => (setHub_device s _).trans (blocksReset_device _ _ _ _)) fun _ => setHub_device s _
    all_goals exact .refl s
  case upstreamFrameEnd =>
    split
    iterate 2 exact (setHub_device s _).trans (arbitrate_device _)
    all_goals exact .refl s
  case cycleMark =>
    refine .ite (fun _ => completed_device ?_) fun _ => .refl s
    have swept : DeviceKept s (sweepAtMark (settleMark s)) :=
      ((settleMark_device s).trans (setWork_device _ _)).trans (settle_device _)
    exact .ite (fun _ => (swept.trans (clearAttempted_device _)).trans (openCycle_device _)) fun _ => swept
  case pollPartStart =>
    exact .ite (fun _ => completed_device ((settleMark_device s).trans (beginPolls_device _))) fun _ => .refl s
  case pollSlotStart =>
    refine .ite (fun _ => ?_) fun _ => .refl s
    split
    · exact .refl s
    · exact completed_device (beginPollSlot_device s _ _)
  case commandSlotStart => exact .ite (fun _ => completed_device (beginCommandSlot_device s)) fun _ => .refl s
  case pollOutcome r =>
    split
    · exact completed_device ((((setSeq_device s { s.seq with tx := .idle } rfl).trans (echoGood_device _)).trans
        (pollDelivered_device _ _ _ _)).trans (payClearing_device _ _))
    all_goals exact .refl s
  case commandOutcome r =>
    split
    · exact completed_device ((commandEnds_device s _ _ _ _).trans (payClearing_device _ _))
    all_goals exact .refl s
  case passOutcome r =>
    split
    · exact completed_device ((passEnds_device s _ _).trans (payClearing_device _ _))
    all_goals exact .refl s
  case echoMismatch =>
    exact .ite (fun _ => .refl s) fun _ =>
      completed_device (((abandonTx_device s).trans (countMismatch_device _)).trans (payClearing_device _ _))
  case stepEnd =>
    exact .ite (fun h => completed_device (enterStopped_device s (by rw [h.1]; rfl))) fun _ => .refl s
  case overcurrent => exact .ite (fun _ => completed_device (trip_device s)) fun _ => .refl s
  case backoffExpiry => exact .ite (fun _ => completed_device (backoffEnds_device s)) fun _ => .refl s
  case beaconSilenceExpiry => exact .ite (fun _ => completed_device (beaconExpires_device s)) fun _ => .refl s
  case pulseExpiry b =>
    exact .ite (fun _ => completed_device (.water (pulseExpires_frame s b) (pulseExpires_detached s b))) fun _ => .refl s
  case soakExpiry b =>
    exact .ite (fun _ => completed_device (.water (soakExpires_frame s b) (soakExpires_detached s b))) fun _ => .refl s
  case evaluationExpiry b =>
    exact .ite (fun _ => completed_device
      (.trans (.field (evaluate_field s b) (evaluate_move s b) (evaluate_detached s b)) (demandCheck_device _ b))) fun _ => .refl s
  case weatherStalenessExpiry =>
    exact .ite (fun _ => completed_device ((setFlag_device s _).trans (setWeather_device _ _))) fun _ => .refl s
  case rainHoldExpiry =>
    exact .ite (fun _ => completed_device ((setLocks_device s _).trans (setCondition_device _ _ _))) fun _ => .refl s
  case inputLevelChange a l =>
    exact .ite (fun _ => advance_device s _) fun _ => (advance_device s _).trans (setMonitor_device _ _)
  case rainTip a =>
    exact .ite (fun _ => completed_device (((advance_device s _).trans (setMonitor_device _ _)).trans
      (.field (localTip_field _) (localTip_move _ fun _ => trivial) (localTip_detached _)))) fun _ => advance_device s _
  case contactStable a =>
    exact .ite (fun _ => completed_device (((advance_device s _).trans (setMonitor_device _ _)).trans
      (setCondition_device _ _ _))) fun _ => advance_device s _
  case flowEdge a =>
    refine .ite (fun _ => ?_) fun _ => advance_device s _
    split
    · exact ((advance_device s _).trans (setMonitor_device _ _)).trans (judgeEdge_device _ _)
    · exact .ite (fun _ => (advance_device s _).trans (judgeEdge_device _ _)) fun _ => advance_device s _
  case flowWindowEnd =>
    split
    · exact .ite (fun _ => completed_device ((judgeWindow_device s _).trans (setMonitor_device _ _))) fun _ => .refl s
    · exact .refl s
  case minuteTransition =>
    exact .ite (fun _ => completed_device ((setClock_device s _).trans
      (forBeds_device _ _ fun b t => windowTransition_device t _ b))) fun _ => .refl s
  case hubByteReceived b e =>
    exact .ite (fun _ => .refl s) fun _ => .ite (fun _ => setHub_device s _) fun _ => completed_device (framerByte_device s b)
  case sensedCurrentChange ma => exact .aside rfl rfl rfl rfl

theorem idle_device : DeviceKept s (idle s) := by
  have ticked (t : State) : DeviceKept t (tick t) := by
    simp only [tick]
    exact .ite (fun _ => .ite (fun _ => .aside rfl rfl rfl rfl) fun _ => .aside rfl rfl rfl rfl) fun _ => .aside rfl rfl rfl rfl
  have raised (t : State) (cs : List Instr) : DeviceKept t { t with pending := cs } := .aside rfl rfl rfl rfl
  simp only [idle]
  split
  · exact (arbitrate_device s).trans (ticked _)
  · exact (arbitrate_device s).trans (raised _ _)

theorem step_device {s t : State} (h : step s = .next t) : DeviceKept s t := by
  unfold step at h
  split at h
  · cases h; exact idle_device s
  next c rest _ =>
    have taken : DeviceKept s { s with pending := rest } := .aside rfl rfl rfl rfl
    exact taken.trans (exec_device _ c t h)

end

/-- Settles O52: each operation keeps the three laws, so every command and every step does. -/
theorem stepKeepsPowerPresenceAndDetachment : Obligations.StepKeepsPowerPresenceAndDetachment := by
  intro s t h
  have k := step_device h
  exact ⟨k.power, k.misses, k.detached.kept⟩

end Sys2Proof.Machine
end

section
/-! PROOF. The reset state holds the spec's values. -/

namespace Sys2Proof.Machine

theorem reset_noSlotPending (x : Slot) : slotPending State.reset x = false := by
  cases x with
  | lock i => fin_cases i <;> rfl
  | _ => simp [slotPending, State.reset, Entry.atReset]

/-- At reset a lock is disabled, pauses and releases at once, and its terms are none (08 R142). -/
theorem reset_lockRec (i : Fin 5) :
    State.reset.lockRecs[i].active.enabled = false ∧ State.reset.lockRecs[i].active.mode = .pause ∧
    State.reset.lockRecs[i].active.timing = .immediate ∧ State.reset.lockRecs[i].active.terms = none := by
  fin_cases i <;> exact ⟨rfl, rfl, rfl, rfl⟩

/-- READY alone is set at reset (11 R185). -/
theorem reset_isSet (f : Flag) : State.reset.notice.isSet f = decide (f = .ready) := by
  cases f <;> rfl

/-- Settles O4: the fields by their definition, the tables entry by entry, flags and slots by cases. -/
theorem resetHoldsTheSpecValues : Obligations.ResetHoldsTheSpecValues := by
  have nodes (n : Fin 48) : State.reset.nodes[n].active.kind = .unused ∧ State.reset.nodeLive[n] = NodeLive.reset := by
    simp [State.reset, Entry.atReset, NodeRec.reset]
  have polls (i : Fin 32) : State.reset.polls[i].active.nodes = [] := by simp [State.reset, Entry.atReset]
  have beds (b : Fin 24) : State.reset.beds[b].active.used = false ∧ State.reset.bedLive[b] = none := by
    simp [State.reset, Entry.atReset, BedRec.reset]
  have valves (v : Fin 32) : State.reset.valves[v].active.used = false ∧ State.reset.valveLive[v] = ValveLive.reset := by
    simp [State.reset, Entry.atReset, ValveRec.reset]
  have closes (v : Fin 32) : State.reset.lcq.closes[v] = none := by simp [State.reset]
  have slots (x : Slot) : slotPending State.reset x = false ∧ slotDue State.reset x = false :=
    ⟨reset_noSlotPending x, reset_noSwapDue x⟩
  exact ⟨rfl, rfl, rfl, rfl, rfl, rfl, rfl, rfl, rfl, rfl, rfl, rfl, closes, nodes, rfl, polls, rfl, rfl, rfl, rfl, rfl, rfl, rfl,
    rfl, beds, rfl, rfl, rfl, valves, rfl, rfl, rfl, rfl, rfl, reset_lockRec, rfl, rfl, rfl, rfl, rfl, rfl, rfl, rfl, rfl, rfl,
    rfl, rfl, rfl, rfl, rfl, rfl, rfl, reset_isSet, rfl, rfl, slots⟩

end Sys2Proof.Machine
end

section
/-! SUPPORT and PROOF. Requests taken from a rested state: the answer stands ready whatever the ruling did, a ruling that moves
the sequencer alone is answered as it stands; LINE_RESTORE (11 R182, 02 R26). -/

namespace Sys2Proof.Machine

section
variable {kind : Byte} {lengths : Nat → Bool} {rule : List Byte → State → Ruling} {body : List Byte} {s : State}

/-! ## The answer -/

/-- A request is taken only while no answer is on the wire (11 R182). -/
theorem htx_ne_answer_of_canTake {f : HubFrame} (h : canTake f s = true) (g : HubFrame) : s.hub.htx ≠ .answer g := by
  intro hg
  simp [canTake, portFree, hg] at h

/-- The arbiter sends a ready answer or leaves it ready. -/
theorem answerOf_arbitrate_putAnswer (r : Result) (tail : List Byte) (h : ∀ g, s.hub.htx ≠ .answer g) :
    answerOf (arbitrate (putAnswer kind r tail s)) = some { kind := kind + 0x80, body := r.code :: tail } := by
  by_cases hi : s.hub.htx = .idle ∧ s.hub.holdOff = false
  · have hp : (putAnswer kind r tail s).hub.htx = .idle ∧ (putAnswer kind r tail s).hub.holdOff = false := hi
    rw [arbitrate, if_pos hp]
    rfl
  · have hp : ¬ ((putAnswer kind r tail s).hub.htx = .idle ∧ (putAnswer kind r tail s).hub.holdOff = false) := hi
    rw [arbitrate, if_neg hp]
    cases hx : s.hub.htx with
    | answer g => exact absurd hx (h g)
    | _ => simp [answerOf, putAnswer, hx]

/-- The port with the request at the head of its queue. -/
def HubPort.headed (f : HubFrame) (h : HubPort) : HubPort := if h.requests.isEmpty then { h with requests := [f] } else h

theorem atHead_eq (f : HubFrame) (s : State) : atHead f s = s.setHub (s.hub.headed f) := by
  unfold atHead HubPort.headed
  split <;> rfl

@[simp] theorem HubPort.headed_htx (f : HubFrame) (h : HubPort) : (h.headed f).htx = h.htx := by
  unfold headed
  split <;> rfl

/-- A request that can be taken is ruled on and answered, with the answer ready where the ruling leaves the line to the hub
alone. -/
theorem takeRequest_ruled (h : canTake { kind := kind, body := body } s = true) (hl : lengths body.length = true) :
    ∃ p : HubPort, (∀ g, p.htx ≠ .answer g) ∧
      takeRequest kind lengths rule body s = answerRuling kind (rule body (s.setHub p)) := by
  refine ⟨s.hub.headed { kind := kind, body := body }, fun g => ?_, ?_⟩
  · rw [HubPort.headed_htx]
    exact htx_ne_answer_of_canTake h g
  · rw [takeRequest_taken _ _ _ _ _ h hl, atHead_eq]

/-- After any ruling whose state settles, the answer is the ruling's. -/
theorem answerOf_answerRuling (r : Ruling) (h : ∀ g, r.state.hub.htx ≠ .answer g) :
    answerOf (answerRuling kind r) = some { kind := kind + 0x80, body := r.result.code :: r.body (settle r.state) } := by
  refine answerOf_arbitrate_putAnswer r.result (r.body (settle r.state)) fun g => ?_
  rw [(settle_settle r.state).hub]
  exact h g

/-- An accepted request whose ruling settles in the state `t`, the request at its head, is answered in `t`. -/
theorem takeRequest_settled {t u : State} (h : canTake { kind := kind, body := body } s = true)
    (hl : lengths body.length = true) (hx : rule body (atHead { kind := kind, body := body } s) = accept u)
    (hu : settle u = atHead { kind := kind, body := body } t) :
    takeRequest kind lengths rule body s = answered kind .ok [] body t := by
  rw [takeRequest_taken _ _ _ _ _ h hl, hx]
  show arbitrate (putAnswer kind .ok [] (settle u)) = _
  rw [hu]
  rfl

theorem atHead_setSeq (f : HubFrame) (s : State) (q : Sequencer) : atHead f (s.setSeq q) = (atHead f s).setSeq q := by
  rw [atHead_eq, atHead_eq]
  rfl

/-- A request that is accepted and changes nothing. -/
theorem takeRequest_accepted (h : canTake { kind := kind, body := body } s = true) (hl : lengths body.length = true)
    (hr : Rested s) (hx : rule body (atHead { kind := kind, body := body } s) = accept (atHead { kind := kind, body := body } s)) :
    takeRequest kind lengths rule body s = answered kind .ok [] body s :=
  takeRequest_settled h hl hx (settle_rested (atHead_rested s _ hr))

/-- A request that is accepted and moves the sequencer's own fields alone. -/
theorem takeRequest_sequencer (h : canTake { kind := kind, body := body } s = true) (hl : lengths body.length = true)
    (hr : Rested s) (q : Sequencer)
    (hx : rule body (atHead { kind := kind, body := body } s) = accept ((atHead { kind := kind, body := body } s).setSeq q)) :
    takeRequest kind lengths rule body s = answered kind .ok [] body (s.setSeq q) := by
  refine takeRequest_settled h hl hx ?_
  rw [atHead_setSeq]
  exact settle_rested ((atHead_rested s _ hr).setSeq q)

/-! ## Settling where nothing marches -/

/-- Where MV stands as it must, the end of a step outside RUNNING and STOPPING drops what is owed and no more. -/
theorem settle_quiet (hd : NoSwapDue s) (hr : s.seq.state ≠ .running) (hs : s.seq.state ≠ .stopping) (hm : MasterValveLaw s) :
    settle s = s.setWork { pass := false, free := false, sweep := false, stop := false, mark := false } := by
  rw [settle_still hd hr hs]
  show { s.setWork _ with mv := mvWanted s } = _
  rw [← hm]
  rfl

theorem setWork_workless (h : WorkLaw s) :
    s.setWork { pass := false, free := false, sweep := false, stop := false, mark := false } = s := by
  rw [← h]
  rfl

/-- A sequencer that goes to a state without marks, with nothing else moved, settles as it is. -/
theorem settle_goneQuiet (hr : Rested s) (hd : NoSwapDue s) {q : SeqState} (hq : q ≠ .running ∧ q ≠ .stopping) :
    settle (quiet q s) = s.setSeq { s.seq with state := q, phase := .noCycle, rollCount := 0, toPoll := [] } := by
  rw [settle_quiet (s := quiet q s) hd hq.1 hq.2 hr.2]
  exact setWork_workless (s := s.setSeq { s.seq with state := q, phase := .noCycle, rollCount := 0, toPoll := [] }) hr.1

end

/-! ## LINE_RESTORE -/

/-- The restored line, from a state in which nothing is owed (02 R26, R29). -/
theorem settle_restoreLine {s : State} (hr : Rested s) (hd : NoSwapDue s) :
    settle (restoreLine s) =
      { s with
        lpwr := true
        mon := { s.mon with
          faults := [], backoff := none, swapEnded := none
          measureSince := if 50 * s.lineRec.active.trip < s.mon.sensed then some s.partTime else none }
        seq := { s.seq with state := .stopped, phase := .noCycle, rollCount := 0, toPoll := [] } } := by
  have hp : Rested (powerOn (s.setMon { s.mon with faults := [] })) := hr.congr rfl rfl rfl rfl rfl rfl
  rw [restoreLine, settle_goneQuiet hp hd ⟨by simp, by simp⟩]
  simp only [powerOn, judgeMeasure, overTrip, State.setMon, State.setSeq, Bool.true_and, Option.getD_none]
  by_cases h : 50 * s.lineRec.active.trip < s.mon.sensed <;> simp [h]

/-- Settles O19: the ruling goes to a state without marks, which settles as it is; elsewhere it is refused. -/
theorem lineRestoreActsInLockedOutOnly : Obligations.LineRestoreActsInLockedOutOnly := by
  intro s ht hr
  have hx : exec (.lineRestore []) s = .next (takeRequest 0x08 noBody lineRestoreRule [] s) := rfl
  rw [hx]
  refine ⟨fun hs hd => congrArg _ ?_, fun hs => congrArg _ ?_⟩
  · refine takeRequest_settled ht rfl (u := restoreLine (atHead { kind := 0x08, body := [] } s)) ?_ ?_
    · simp only [lineRestoreRule, atHead_seq, hs]
    · rw [atHead_eq, atHead_eq]
      exact settle_restoreLine (hr.setHub _) hd
  · refine takeRequest_refused 0x08 noBody lineRestoreRule [] s .refusedState ht rfl hr ?_
    simp only [lineRestoreRule, atHead_seq]
    cases h : s.seq.state <;> simp_all

end Sys2Proof.Machine
end

section
/-! SUPPORT and PROOF. STOPPING and STOPPED: what the examination of the STOPPING condition leaves, and SEQ_STOP (02 R24, R25). -/

namespace Sys2Proof.Machine

section
variable (s : State)

/-- The end of a request is the state that settled, but for the port and the pending notice (11 R182, R184). -/
theorem answerRuling_eq (kind : Byte) (r : Ruling) : ∃ (h : HubPort) (b : Bool),
    answerRuling kind r = { settle r.state with hub := h, notice := { (settle r.state).notice with pending := b } } :=
  ⟨_, _, arbitrate_eq (putAnswer kind r.result (r.body (settle r.state)) (settle r.state))⟩

/-! ## No run is ON -/

theorem bedsOn_eq_nil_iff : bedsOn s = [] ↔ ∀ q ∈ s.runs, q.state ≠ .on := by
  simp [bedsOn]

theorem OnFrom.none_on {s t : State} (k : OnFrom s t) (h : ∀ q ∈ s.runs, q.state ≠ .on) : ∀ q ∈ t.runs, q.state ≠ .on := by
  intro q hq ho
  obtain ⟨r, hr, -, hon⟩ := k q hq ho
  exact h r hr hon

/-! ## Marks stop and the entry to STOPPED -/

theorem marksStop_seq : (marksStop s).seq = { s.seq with tx := (marksStop s).seq.tx } := by
  simp only [marksStop]
  split
  · rfl
  · exact (clearFifo_field { s with beacon := some (s.partTime + 10) }).seq

theorem marksStop_beacon : (marksStop s).beacon = some (s.partTime + 10) := by
  simp only [marksStop]
  split
  · rfl
  · exact (clearFifo_field _).beacon

/-- STOPPED is entered with the cycle ended, its number kept, and the beacon-silence timer at 10 s (02 R23, R25). -/
theorem enterStopped_facts :
    (enterStopped s).seq.state = .stopped ∧ (enterStopped s).seq.phase = .noCycle ∧
    (enterStopped s).seq.cycle = s.seq.cycle ∧ (enterStopped s).beacon = some (s.partTime + 10) := by
  simp only [enterStopped]
  split
  all_goals
    rw [marksStop_seq, marksStop_beacon]
    exact ⟨rfl, rfl, rfl, rfl⟩

/-- The STOPPING condition looks at valves and their records. -/
theorem fieldSettled_congr {s t : State} (valves : t.valves = s.valves) (live : t.valveLive = s.valveLive) :
    fieldSettled t = fieldSettled s := by
  unfold fieldSettled
  rw [valves, live]

theorem enterStopped_on : OnFrom s (enterStopped s) := by
  simp only [enterStopped]
  split <;> exact marksStop_on (by simp [quiet, oweSweep])

/-! ## The end of a step in STOPPING -/

variable {s}

/-- While a valve is not settled, the examination finds so each time. -/
theorem settle_unsettled (hd : NoSwapDue s) (hs : s.seq.state = .stopping) (hf : fieldSettled s = false) :
    settle s = judgeMv (s.setWork { pass := false, free := false, sweep := false, stop := false, mark := false }) := by
  have h : ∃ w, settleTurns 1024 s = s.setWork w := by
    refine settleTurns_induction (P := fun t => ∃ w, t = s.setWork w) ?_ ?_ ?_ 1024 hd ⟨s.work, rfl⟩
    · rintro _ - ⟨w, rfl⟩
      have hx : ¬ (((s.setWork w).setWork { w with stop := false }).seq.state = .stopping ∧
          fieldSettled ((s.setWork w).setWork { w with stop := false }) = true) := fun k => by
        have hk : fieldSettled s = true := k.2
        rw [hf] at hk
        cases hk
      exact ⟨{ w with stop := false }, by rw [examineStop]; exact if_neg hx⟩
    · rintro _ - ⟨w, rfl⟩
      exact ⟨w, pass_idle (by simp [hs])⟩
    · rintro _ w ⟨_, rfl⟩
      exact ⟨w, rfl⟩
  obtain ⟨w, hw⟩ := h
  simp only [settle, hw]
  rfl

/-- With every valve settled, the examination owed enters STOPPED, and what else is owed finds nothing to do. -/
theorem settle_settled (hd : NoSwapDue s) (hs : s.seq.state = .stopping) (hw : s.work.stop = true)
    (hf : fieldSettled s = true) :
    ∃ w v, settle s = judgeMv ((enterStopped (s.setWork w)).setWork v) := by
  have hx : examineStop s = enterStopped (s.setWork { s.work with stop := false }) := by
    rw [examineStop]
    exact if_pos ⟨hs, hf⟩
  have hst := (enterStopped_facts (s.setWork { s.work with stop := false })).1
  have hd' : NoSwapDue (enterStopped (s.setWork { s.work with stop := false })) := (enterStopped_line _).noSwapDue hd
  generalize hu : enterStopped (s.setWork { s.work with stop := false }) = u at *
  have h : ∃ w, settleTurns 1023 u = u.setWork w := by
    refine settleTurns_induction (P := fun t => ∃ w, t = u.setWork w) ?_ ?_ ?_ 1023 hd' ⟨u.work, rfl⟩
    · rintro _ - ⟨w, rfl⟩
      exact ⟨_, examineStop_idle (by simp [hst])⟩
    · rintro _ - ⟨w, rfl⟩
      exact ⟨w, pass_idle (by simp [hst])⟩
    · rintro _ w ⟨_, rfl⟩
      exact ⟨w, rfl⟩
  obtain ⟨w, hw'⟩ := h
  have ht : settleTurns 1024 s = u.setWork w := by
    rw [settleTurns, if_pos hw, hx, hw']
  refine ⟨{ s.work with stop := false }, { pass := false, free := false, sweep := false, stop := false, mark := false }, ?_⟩
  rw [hu, settle, ht]
  rfl

/-! ## SEQ_STOP -/

/-- RUNNING is left for STOPPING with no run ON and the examination owed (02 R25, 06 R108). -/
theorem enterStopping_facts (s : State) :
    (enterStopping s).seq.state = .stopping ∧ (enterStopping s).work.stop = true ∧
    (enterStopping s).seq.cycle = s.seq.cycle ∧ (enterStopping s).beacon = s.beacon ∧
    (enterStopping s).partTime = s.partTime ∧ (enterStopping s).hub = s.hub ∧
    ∀ q ∈ (enterStopping s).runs, q.state ≠ .on := by
  have hw := runningLeft_frame (s.setSeq { s.seq with state := .stopping })
  have hseq : (enterStopping s).seq =
      { (s.setSeq { s.seq with state := .stopping }).seq with tx := (enterStopping s).seq.tx } := hw.seq
  exact ⟨by rw [hseq]; rfl, rfl, by rw [hseq]; rfl, hw.beacon, hw.partTime, hw.hub,
    runningLeft_off (s := s.setSeq { s.seq with state := .stopping }) (by simp)⟩

/-- What SEQ_STOP leaves of a running sequencer: STOPPING while a valve is not settled, otherwise STOPPED. -/
theorem settle_enterStopping (s : State) (hd : NoSwapDue s) :
    let t := settle (enterStopping s)
    (∀ q ∈ t.runs, q.state ≠ .on) ∧
    (t.seq.state = .stopping ∧ fieldSettled t = false ∧ t.seq.cycle = s.seq.cycle ∧ t.beacon = s.beacon ∨
     t.seq.state = .stopped ∧ t.seq.phase = .noCycle ∧ t.beacon = some (s.partTime + 10)) := by
  obtain ⟨hst, hstop, hcycle, hbeacon, htime, -, hoff⟩ := enterStopping_facts s
  have hd' : NoSwapDue (enterStopping s) := (enterStopping_line s).noSwapDue hd
  cases hf : fieldSettled (enterStopping s) with
  | false =>
    rw [settle_unsettled hd' hst hf]
    simp only [judgeMv_runs, judgeMv_seq, judgeMv_beacon, State.setWork_runs, State.setWork_seq, State.setWork_beacon]
    exact ⟨hoff, .inl ⟨hst, (fieldSettled_congr rfl rfl).trans hf, hcycle, hbeacon⟩⟩
  | true =>
    obtain ⟨w, v, he⟩ := settle_settled hd' hst hstop hf
    obtain ⟨h1, h2, -, h4⟩ := enterStopped_facts ((enterStopping s).setWork w)
    rw [he]
    simp only [judgeMv_runs, judgeMv_seq, judgeMv_beacon, State.setWork_runs, State.setWork_seq, State.setWork_beacon]
    refine ⟨(enterStopped_on _).none_on hoff, .inr ⟨h1, h2, h4.trans ?_⟩⟩
    rw [State.setWork_partTime, htime]

end

/-- Settles O17: from RUNNING by the examination of the STOPPING condition; elsewhere the ruling moves at most the sequencer. -/
theorem seqStopActsByState : Obligations.SeqStopActsByState := by
  intro s ht hr
  have hx : exec (.seqStop []) s = .next (takeRequest 0x06 noBody seqStopRule [] s) := rfl
  rw [hx]
  refine ⟨fun hs hd => ?_, fun hs => congrArg _ ?_, fun hs hd => congrArg _ ?_, fun hs => congrArg _ ?_,
    fun hs => congrArg _ ?_⟩
  · obtain ⟨p, hp, he⟩ := takeRequest_ruled (rule := seqStopRule) ht (lengths := noBody) rfl
    have hrule : seqStopRule [] (s.setHub p) = accept (enterStopping (s.setHub p)) := by
      simp only [seqStopRule, State.setHub_seq, hs]
    obtain ⟨hoff, hend⟩ := settle_enterStopping (s.setHub p) hd
    obtain ⟨-, -, -, -, -, hhub, -⟩ := enterStopping_facts (s.setHub p)
    refine ⟨_, rfl, ?_⟩
    rw [he, hrule]
    refine ⟨answerOf_answerRuling _ fun g => ?_, ?_⟩
    · show (enterStopping (s.setHub p)).hub.htx ≠ _
      rw [hhub]
      exact hp g
    · obtain ⟨h, b, ha⟩ := answerRuling_eq 0x06 (accept (enterStopping (s.setHub p)))
      rw [ha]
      exact ⟨(bedsOn_eq_nil_iff _).2 hoff, hend⟩
  · refine takeRequest_accepted ht rfl hr ?_
    rcases hs with hs | hs | hs <;> simp only [seqStopRule, atHead_seq, hs]
  · refine takeRequest_settled ht rfl (u := quiet .stopped (atHead { kind := 0x06, body := [] } s)) ?_ ?_
    · simp only [seqStopRule, atHead_seq, hs]
    · rw [settle_goneQuiet (atHead_rested s _ hr) (by rw [atHead_eq]; exact hd) ⟨by simp, by simp⟩, atHead_setSeq, atHead_seq]
  · refine takeRequest_sequencer ht rfl hr _ ?_
    simp only [seqStopRule, atHead_seq, hs]
  · refine takeRequest_refused 0x06 noBody seqStopRule [] s .refusedState ht rfl hr ?_
    simp only [seqStopRule, atHead_seq, hs]

end Sys2Proof.Machine
end

section
/-! SUPPORT and PROOF. The sequencer's figures and the beacon-silence timer through the end of a step outside STOPPING, swaps
included; SEQ_STEP and STEP_END (02 R23, 07 R133). -/

namespace Sys2Proof.Machine

/-! ## What a sweep leaves of the sequencer -/

/-- The sequencer but for its transmission, and the beacon-silence timer, are as they were. -/
structure MarchKept (s t : State) : Prop where
  seq : t.seq = { s.seq with tx := t.seq.tx }
  beacon : t.beacon = s.beacon

namespace MarchKept
variable {s t u : State}

theorem refl (s : State) : MarchKept s s := ⟨rfl, rfl⟩

theorem trans (h : MarchKept s t) (k : MarchKept t u) : MarchKept s u := ⟨by rw [k.seq, h.seq], k.beacon.trans h.beacon⟩

theorem state (h : MarchKept s t) : t.seq.state = s.seq.state := by rw [h.seq]

end MarchKept

theorem FieldFrame.march {s t : State} (h : FieldFrame s t) : MarchKept s t := ⟨h.seq, h.beacon⟩

section
variable (s : State)

theorem onSlot_march (f : EntryOp) (x : Slot) : MarchKept s (onSlot f x s) := by
  cases x <;> exact ⟨rfl, rfl⟩

theorem lineSwapped_march : MarchKept s (lineSwapped s) := by
  simp only [lineSwapped]
  split <;> exact ⟨rfl, rfl⟩

theorem bedSwapped_march (b : Fin 24) (old new : BedRec) : MarchKept s (bedSwapped b old new s) :=
  (((accrue_frame s b).field.march.trans (onSlot_march _ _ _)).trans (setBedLive_frame _ b _).field.march).trans
    (demandCheck_frame _ b).field.march

theorem swapEffects_march (x : Slot) : MarchKept s (swapEffects x s) := by
  have h := onSlot_march s ⟨Entry.swap⟩ x
  cases x with
  | node n => exact h.trans (nodeSwapped_field _ n _ _).march
  | poll _ => exact h
  | valve v => exact h.trans (valveSwapped_frame _ v _ _).field.march
  | bed b => exact bedSwapped_march s b _ _
  | supply =>
    exact h.trans (((setMonitor_frame _ _).field.trans (judgeContact_field _)).trans (pass_frame _).field).march
  | line => exact h.trans (lineSwapped_march _)
  | weather => exact h.trans (weatherRecSwapped_field _ _ _).march
  | drying => exact h.trans (recomputeRate_field _).march
  | lock i => exact h.trans ((setLocks_field _ _).trans (recomputeLock_field _)).march

theorem swapSlot_march (x : Slot) : MarchKept s (swapSlot x s) := by
  simp only [swapSlot]
  split
  · exact (swapEffects_march s x).trans ⟨rfl, rfl⟩
  · exact swapEffects_march s x

theorem sweepTurn_march : MarchKept s (sweepTurn s) := by
  unfold sweepTurn
  split
  · exact swapSlot_march s _
  · exact ⟨rfl, rfl⟩

variable {s}

theorem settleTurns_march (n : Nat) (hs : s.seq.state ≠ .stopping) : MarchKept s (settleTurns n s) := by
  induction n generalizing s with
  | zero => exact .refl s
  | succ n ih =>
    have next {t : State} (k : MarchKept s t) : MarchKept s (settleTurns n t) := k.trans (ih (by rwa [k.state]))
    have passed (w : Work) : MarchKept s (pass (s.setWork w)) := ((setWork_frame s w).trans (pass_frame _)).field.march
    unfold settleTurns
    split
    · rw [examineStop_idle hs]
      exact next ⟨rfl, rfl⟩
    · split
      · exact next (passed _)
      · split
        · exact next (sweepTurn_march s)
        · split
          · exact next (passed _)
          · exact .refl s

/-- Outside STOPPING the end of a step moves the sequencer in its transmission at most. -/
theorem settle_march (hs : s.seq.state ≠ .stopping) : MarchKept s (settle s) :=
  (settleTurns_march 1024 hs).trans ⟨rfl, rfl⟩

/-! ## SEQ_STEP -/

variable (s)

theorem marksStart_facts : (marksStart s).seq = { s.seq with tx := (marksStart s).seq.tx } ∧ (marksStart s).beacon = none := by
  simp only [marksStart]
  split
  · exact ⟨(clearWaiting_field _).seq, (clearWaiting_field _).beacon⟩
  · exact ⟨rfl, rfl⟩

/-- A state that sends marks is entered before its first cycle: no echo failure, position 0, the cycle number kept. -/
theorem beginMarking_facts (q : SeqState) (n : Nat) :
    (beginMarking q n (marksStart s)).seq.state = q ∧ (beginMarking q n (marksStart s)).seq.echoFailures = 0 ∧
    (beginMarking q n (marksStart s)).seq.position = 0 ∧ (beginMarking q n (marksStart s)).seq.phase = .noCycle ∧
    (beginMarking q n (marksStart s)).seq.rollCount = n ∧ (beginMarking q n (marksStart s)).seq.cycle = s.seq.cycle ∧
    (beginMarking q n (marksStart s)).beacon = none := by
  obtain ⟨hseq, hb⟩ := marksStart_facts s
  exact ⟨rfl, rfl, rfl, rfl, rfl, by rw [beginMarking, State.setSeq_seq, hseq], hb⟩

/-- The figures that a marking state is entered with, after the end of a step that moves the transmission alone. -/
theorem MarchKept.figures {t : State} (h : MarchKept s t) :
    t.seq.state = s.seq.state ∧ t.seq.echoFailures = s.seq.echoFailures ∧ t.seq.position = s.seq.position ∧
    t.seq.phase = s.seq.phase ∧ t.seq.rollCount = s.seq.rollCount ∧ t.seq.cycle = s.seq.cycle ∧ t.beacon = s.beacon := by
  rw [h.seq]
  exact ⟨rfl, rfl, rfl, rfl, rfl, rfl, h.beacon⟩

/-- STEP entered with no clearing owed moves no run. -/
theorem settle_enterStep_runs (hd : NoSwapDue s) (hc : s.lcq.clearOwed = false) : (settle (enterStep s)).runs = s.runs := by
  have hr : (enterStep s).runs = s.runs := by
    show (marksStart s).runs = s.runs
    simp [marksStart, hc]
  rw [settle_still ((enterStep_line s).noSwapDue hd) (show SeqState.step ≠ _ by simp) (show SeqState.step ≠ _ by simp)]
  exact hr

/-! ## STEP_END -/

/-- STOPPED entered on a line that carries at most a mark: the FIFO is cleared at once (01 R19). -/
theorem enterStopped_clears (h : s.seq.tx = .idle ∨ s.seq.tx = .mark) :
    ∃ u : State, enterStopped s = clearFifo u ∧ u.seq.state = .stopped ∧ u.seq.tx = .idle ∧ u.lcq = s.lcq ∧
      u.valveLive = s.valveLive ∧ u.hub = s.hub := by
  simp only [enterStopped, marksStop]
  rcases h with h | h <;> exact ⟨_, by simp [quiet, oweSweep, h, Transmission.inTransaction]; rfl, by simp⟩

/-- The FIFO cleared at the entry to STOPPED, seen from before it. -/
theorem enterStopped_cleared (h : s.seq.tx = .idle ∨ s.seq.tx = .mark) :
    FifoCleared s.lcq.fifo [] (fun _ => True) (fun _ => True) s (enterStopped s) ∧ (enterStopped s).seq.tx = .idle := by
  obtain ⟨u, he, hst, htx, hlcq, hlive, hhub⟩ := enterStopped_clears s h
  have hc := clearFifo_cleared (s := u) (by rw [hst]; simp)
  rw [he]
  refine ⟨?_, by rw [clearFifo_seq (by simp [htx]), htx]⟩
  rw [hlcq] at hc
  exact hc.before (by rw [reportsHeld_congr hhub, List.append_nil])
    (fun w _ _ => ⟨by rw [hlive], by rw [hlcq]⟩) (fun w _ => by rw [hlcq])

end

/-- Settles O18: STEP is entered and settles with its figures; its end clears the FIFO and settles as it is. -/
theorem stepRunsOneCycle : Obligations.StepRunsOneCycle := by
  refine ⟨fun s ht hr => ?_, fun s hs hp htx hd => ?_⟩
  · have hx : exec (.seqStep []) s = .next (takeRequest 0x07 noBody seqStepRule [] s) := rfl
    rw [hx]
    refine ⟨fun hs => ?_, fun hs => congrArg _ ?_⟩
    · obtain ⟨p, hp, he⟩ := takeRequest_ruled (rule := seqStepRule) ht (lengths := noBody) rfl
      have hrule : seqStepRule [] (s.setHub p) = accept (enterStep (s.setHub p)) := by
        simp only [seqStepRule, State.setHub_seq, hs]
      obtain ⟨h1, h2, h3, h4, -, h6, h7⟩ := beginMarking_facts (s.setHub p) .step 0
      obtain ⟨k1, k2, k3, k4, -, k6, k7⟩ := (settle_march (s := enterStep (s.setHub p)) (by rw [enterStep, h1]; simp)).figures
      obtain ⟨h, b, ha⟩ := answerRuling_eq 0x07 (accept (enterStep (s.setHub p)))
      refine ⟨_, rfl, ?_⟩
      rw [he, hrule]
      refine ⟨answerOf_answerRuling _ fun g => ?_, ?_⟩
      · show (enterStep (s.setHub p)).hub.htx ≠ _
        rw [(enterStep_line (s.setHub p)).hub]
        exact hp g
      · rw [ha]
        exact ⟨k1.trans h1, k2.trans h2, k3.trans h3, k4.trans h4, k6.trans h6, k7.trans h7,
          fun hd hc => settle_enterStep_runs (s.setHub p) hd hc⟩
    · refine takeRequest_refused 0x07 noBody seqStepRule [] s .refusedState ht rfl hr ?_
      simp only [seqStepRule, atHead_seq]
      cases h : s.seq.state <;> simp_all
  · have hq : lineQuiet s = true := by rcases htx with h | h <;> simp [lineQuiet, h, Transmission.inTransaction]
    have hx : exec .stepEnd s = .next (complete (enterStopped s)) := congrArg _ (if_pos ⟨hs, hp, hq⟩)
    obtain ⟨hst, hphase, hcycle, hbeacon⟩ := enterStopped_facts s
    obtain ⟨hcleared, hidle⟩ := enterStopped_cleared s htx
    have hd' : NoSwapDue (enterStopped s) := (enterStopped_line s).noSwapDue hd
    have hrun : (enterStopped s).seq.state ≠ .running := by rw [hst]; simp
    have hstop : (enterStopped s).seq.state ≠ .stopping := by rw [hst]; simp
    obtain ⟨klcq, klive, kseq, kheld, -⟩ := complete_still hd' hrun hstop
    obtain ⟨-, kbeacon, -⟩ := complete_still_field hd' hrun hstop
    refine ⟨_, hx, ?_⟩
    rw [kseq, kbeacon]
    exact ⟨hst, hphase, hidle, hcycle, hbeacon, hcleared.after klcq klive kheld⟩

end Sys2Proof.Machine
end

section
/-! SUPPORT and PROOF. The line current: BACKOFF_EXPIRY resumes by the target, and a change of the current drives the measure (02
R29, R33, R34). -/

namespace Sys2Proof.Machine

section
variable (s : State)

/-- The end of a step is the state that settled, but for the port and the pending notice (11 R184). -/
theorem complete_eq : ∃ (h : HubPort) (b : Bool),
    complete s = { settle s with hub := h, notice := { (settle s).notice with pending := b } } :=
  ⟨_, _, arbitrate_eq (settle s)⟩

/-- Marks start touches no line power and no measure. -/
theorem marksStart_power : (marksStart s).lpwr = s.lpwr ∧ (marksStart s).mon = s.mon := by
  simp only [marksStart]
  split
  · exact ⟨(clearWaiting_field _).lpwr, (clearWaiting_field _).mon⟩
  · exact ⟨rfl, rfl⟩

/-- The release checks and the grant pass of the entry to RUNNING are water moves. -/
theorem enterRunning_frame (n : Nat) : WaterFrame (beginMarking .running n (marksStart s)) (enterRunning n s) :=
  (releaseAll_frame _).trans (pass_frame _)

/-- RUNNING is entered with the first cycle's figures, power and the fault list as they stood (02 R22). -/
theorem enterRunning_facts (n : Nat) :
    (enterRunning n s).seq.state = .running ∧ (enterRunning n s).seq.echoFailures = 0 ∧
    (enterRunning n s).seq.position = 0 ∧ (enterRunning n s).seq.phase = .noCycle ∧
    (enterRunning n s).seq.rollCount = n ∧ (enterRunning n s).seq.cycle = s.seq.cycle ∧
    (enterRunning n s).beacon = none ∧ (enterRunning n s).lpwr = s.lpwr ∧ (enterRunning n s).mon = s.mon := by
  obtain ⟨h1, h2, h3, h4, h5, h6, h7⟩ := beginMarking_facts s .running n
  obtain ⟨k1, k2, k3, k4, k5, k6, k7⟩ := (enterRunning_frame s n).field.march.figures
  obtain ⟨hl, hm⟩ := marksStart_power s
  exact ⟨k1.trans h1, k2.trans h2, k3.trans h3, k4.trans h4, k5.trans h5, k6.trans h6, k7.trans h7,
    (enterRunning_frame s n).lpwr.trans hl, (enterRunning_frame s n).mon.trans hm⟩

/-- Power returns to the state that the resume target names (02 R33, R34). -/
theorem backoffEnds_facts :
    (backoffEnds s).lpwr = true ∧ (backoffEnds s).mon.backoff = none ∧ (backoffEnds s).mon.faults = s.mon.faults ∧
    (backoffEnds s).seq.cycle = s.seq.cycle ∧ (backoffEnds s).seq.state ≠ .stopping ∧
    (s.seq.resume = .running → (backoffEnds s).seq.state = .running ∧ (backoffEnds s).seq.echoFailures = 0 ∧
      (backoffEnds s).seq.rollCount = 16 ∧ (backoffEnds s).seq.position = 0 ∧ (backoffEnds s).beacon = none) ∧
    (s.seq.resume = .stopped → (backoffEnds s).seq.state = .stopped ∧ (backoffEnds s).seq.rollCount = 0) ∧
    (s.seq.resume = .halted → (backoffEnds s).seq.state = .halted ∧ (backoffEnds s).seq.rollCount = 0) := by
  have on : (powerOn s).lpwr = true ∧ (powerOn s).mon.backoff = none ∧ (powerOn s).mon.faults = s.mon.faults ∧
    (powerOn s).seq = s.seq := ⟨rfl, rfl, rfl, rfl⟩
  obtain ⟨hl, hb, hf, hs⟩ := on
  simp only [backoffEnds]
  split
  next hr =>
    obtain ⟨h1, h2, h3, -, h5, h6, h7, h8, h9⟩ := enterRunning_facts (powerOn s) 16
    rw [h1, h9]
    exact ⟨h8.trans hl, hb, hf, by rw [h6, hs], by simp, fun _ => ⟨rfl, h2, h5, h3, h7⟩, by simp [hr], by simp [hr]⟩
  next hr => exact ⟨hl, hb, hf, rfl, by simp [quiet, oweSweep], by simp [hr], fun _ => ⟨rfl, rfl⟩, by simp [hr]⟩
  next hr => exact ⟨hl, hb, hf, rfl, by simp [quiet, oweSweep], by simp [hr], by simp [hr], fun _ => ⟨rfl, rfl⟩⟩

end

/-- Settles O21: power returns, and what settles then moves no figure; a change of the current is the measure judged again. -/
theorem powerReturnsAndCurrentIsMeasured : Obligations.PowerReturnsAndCurrentIsMeasured := by
  refine ⟨fun e s hs hb he _ => ?_, fun ma s => ?_⟩
  · have hdue : due s s.mon.backoff = true := by simp [due, hb, he]
    have hx : exec .backoffExpiry s = .next (complete (backoffEnds s)) := congrArg _ (if_pos ⟨hs, hdue⟩)
    obtain ⟨h1, h2, h3, h4, hn, h5, h6, h7⟩ := backoffEnds_facts s
    obtain ⟨k1, k2, k3, -, k5, k6, k7⟩ := (settle_march hn).figures
    have k := settle_settle (backoffEnds s)
    have kb : (settle (backoffEnds s)).mon.backoff = (backoffEnds s).mon.backoff := by rw [k.mon]
    have kf : (settle (backoffEnds s)).mon.faults = (backoffEnds s).mon.faults := by rw [k.mon]
    obtain ⟨h, b, hc⟩ := complete_eq (backoffEnds s)
    refine ⟨_, hx, ?_⟩
    rw [hc]
    simp only [k.lpwr, kb, kf, k1, k2, k3, k5, k6, k7]
    exact ⟨h1, h2, h3, h4, h5, h6, h7⟩
  · show Host.Outcome.next (judgeMeasure _) = _
    by_cases hl : s.lpwr = true <;> by_cases hm : 50 * s.lineRec.active.trip < ma <;>
      cases ht : s.mon.measureSince <;> simp [judgeMeasure, overTrip, State.setMon, hl, hm, ht]

end Sys2Proof.Machine
end

section
/-! SUPPORT and PROOF. OVERCURRENT: the FIFO, the valves, the nodes and the runs as the cut of line power leaves them (02 R30 to
R32, 07 R132, 03 R48). -/

namespace Sys2Proof.Machine

section
variable (s : State)

/-! ## Valve modes where no grant can be made -/

/-- Every valve has the mode it had. -/
def ModesKept (s t : State) : Prop := ∀ v : Fin 32, t.valveLive[v].mode = s.valveLive[v].mode

theorem ModesKept.of_live {s t : State} (h : t.valveLive = s.valveLive) : ModesKept s t := fun v => by rw [h]

theorem ModesKept.trans {s t u : State} (h : ModesKept s t) (k : ModesKept t u) : ModesKept s u :=
  fun v => (k v).trans (h v)

theorem writeValve_modes (v : Fin 32) (l : ValveLive) (h : l.mode = s.valveLive[v].mode) : ModesKept s (writeValve v l s) := by
  intro w
  rw [writeValve_valveLive]
  by_cases hw : w = v
  · subst hw
    simpa using h
  · rw [getElem_set_other _ hw]

theorem valveStop_modes (v : Fin 32) : ModesKept s (valveStop v s) := by
  have closed (l : ValveLive) (h : l.mode = s.valveLive[v].mode) : ModesKept s (writeValve v l (closeRequest v s)) :=
    .trans (.of_live (closeRequest_valveLive s v)) (writeValve_modes _ v l (by rw [closeRequest_valveLive]; exact h))
  simp only [valveStop]
  split
  · split
    · exact closed _ rfl
    · exact closed _ rfl
  · exact closed _ rfl
  all_goals exact writeValve_modes s v _ rfl

theorem endPulse_modes (b : Fin 24) (stop : Bool) : ModesKept s (endPulse b stop s) := by
  simp only [endPulse]
  split
  · exact .of_live rfl
  · split
    · exact .of_live rfl
    · split
      · exact .trans (.of_live (by rw [waterCredit_valveLive, putRun_valveLive])) (valveStop_modes _ _)
      · exact .of_live (by rw [waterCredit_valveLive, putRun_valveLive])

theorem endEarly_modes (b : Fin 24) (x : HeldReasons) (stop : Bool) : ModesKept s (endEarly b x stop s) := by
  simp only [endEarly]
  split
  · exact endPulse_modes s b stop
  · split
    · exact (endPulse_modes s b stop).trans (.of_live (takeOut_valveLive _ _ _))
    · exact (endPulse_modes s b stop).trans (.of_live rfl)

/-- RUNNING left moves states of valves, and no mode (06 R108). -/
theorem runningLeft_modes (hs : s.seq.state ≠ .running) : ModesKept s (runningLeft s) := by
  have ended (b : Fin 24) (t : State) (ht : t.seq.state ≠ .running) : ModesKept t (earlyEnd b .onlyLine true t) := by
    unfold earlyEnd
    split
    · have hf : (endEarly b .onlyLine true t).seq.state = t.seq.state := by rw [(endEarly_frame t b .onlyLine true).seq]
      rw [pass_idle (by rwa [hf])]
      exact endEarly_modes t b _ _
    · exact .of_live rfl
  have all (bs : List (Fin 24)) (t : State) (ht : t.seq.state ≠ .running) :
      ModesKept t (bs.foldl (fun u b => earlyEnd b .onlyLine true u) t) := by
    induction bs generalizing t with
    | nil => exact .of_live rfl
    | cons b bs ih =>
      refine (ended b t ht).trans (ih _ ?_)
      rw [(earlyEnd_frame t b .onlyLine true).seq]
      exact ht
  exact all _ s hs

/-! ## The valves -/

/-- In a fold over all valves each one meets its own operation at its state in `s`, with the tables of `s`. -/
theorem foldl_valve_frame {f : State → Fin 32 → State} (hf : ∀ t v, Move (.only v) t (f t v)) (hw : ∀ t v, WaterFrame t (f t v))
    (hs : s.seq.state ≠ .running) (w : Fin 32) :
    ∃ t, SameValve w s t ∧ WaterFrame s t ∧ SameValve w (f t w) ((List.finRange 32).foldl f s) := by
  obtain ⟨pre, post, hsplit⟩ := List.append_of_mem (List.mem_finRange w)
  have hn : (pre ++ w :: post).Nodup := hsplit ▸ List.nodup_finRange 32
  obtain ⟨-, hwp, hdis⟩ := List.nodup_append.1 hn
  have hpre : w ∉ pre := fun h => hdis w h w (by simp) rfl
  refine ⟨pre.foldl f s, foldl_other hf pre hpre hs, .foldl hw pre s, ?_⟩
  rw [hsplit, List.foldl_append, List.foldl_cons]
  exact foldl_other hf post (List.nodup_cons.1 hwp).1 (by rwa [(hf _ w).seqState, foldl_seqState s hf pre])

/-- A valve that line power off reaches is CLOSED; its places in the queue stay as they are. -/
theorem settleClosed_valve (v : Fin 32) (hs : s.seq.state ≠ .running) :
    (settleClosed v s).lcq.closes[v] = s.lcq.closes[v] ∧
    (s.valves[v].active.used = true → s.valveLive[v].mode ≠ .detached → (settleClosed v s).valveLive[v] =
      { s.valveLive[v] with state := .closed, assumedOpen := false, attempts := 0, owner := none }) := by
  unfold settleClosed
  split
  · exact ⟨(changeValve_same s v _ (.inl hs)).close, fun _ _ => changeValve_live s v _ (.inl hs)⟩
  next h => exact ⟨rfl, fun hu hm => absurd (by simpa using ⟨hu, hm⟩) h⟩

theorem valvesPowerOff_move : Move .valves { s with beacon := none } (valvesPowerOff s) :=
  .foldl (fun t v => settleClosed_move t v (.inl trivial)) _ _

/-- Line power off at the valves, with nothing waiting for them (07 R132). -/
theorem valvesPowerOff_valve (hs : s.seq.state ≠ .running) (w : Fin 32) :
    (valvesPowerOff s).lcq.closes[w] = s.lcq.closes[w] ∧
    (s.valves[w].active.used = true → s.valveLive[w].mode ≠ .detached → (valvesPowerOff s).valveLive[w] =
      { s.valveLive[w] with state := .closed, assumedOpen := false, attempts := 0, owner := none }) := by
  obtain ⟨t, h1, h2, h3⟩ := foldl_valve_frame { s with beacon := none } (f := fun t v => settleClosed v t)
    (fun t v => settleClosed_move t v (.inl rfl)) (fun t v => settleClosed_frame t v) hs w
  have ht : t.seq.state ≠ .running := by rw [h2.seq]; exact hs
  obtain ⟨hc, hl⟩ := settleClosed_valve t w ht
  rw [valvesPowerOff, h3.close, h3.live]
  have live : t.valveLive[w] = s.valveLive[w] := h1.live
  have valves : t.valves = s.valves := h2.valves
  rw [valves, live] at hl
  exact ⟨hc.trans h1.close, hl⟩

/-! ## The nodes -/

theorem losePower_other {m n : Fin 48} (h : m ≠ n) : (losePower n s).nodeLive[m] = s.nodeLive[m] :=
  (losePower_move (c := .node1 n) s n rfl).nodes m h

/-- A used node is ABSENT without power, and its change is flagged (03 R48). -/
theorem losePower_node (n : Fin 48) (h : s.nodes[n].active.used = true) :
    (losePower n s).nodeLive[n].presence = .absent ∧ (losePower n s).nodeLive[n].misses = 0 ∧
    (losePower n s).nodeLive[n].forwarded = none ∧
    (s.nodeLive[n].presence ≠ .absent →
      (losePower n s).nodeLive[n].changed = true ∧ (losePower n s).notice.isSet .nodeChange = true) := by
  simp only [losePower, h, if_true]
  split
  next ha =>
    rw [setNodeLive_live]
    exact ⟨rfl, rfl, rfl, fun hn => absurd ha hn⟩
  · rw [presenceChanged_live]
    exact ⟨rfl, rfl, rfl, fun _ => ⟨rfl, presenceChanged_flag _ _ _⟩⟩

/-- Line power off at the nodes: each used one is met once (03 R48). -/
theorem nodesPowerOff_node (n : Fin 48) (h : s.nodes[n].active.used = true) :
    (nodesPowerOff s).nodeLive[n].presence = .absent ∧ (nodesPowerOff s).nodeLive[n].misses = 0 ∧
    (nodesPowerOff s).nodeLive[n].forwarded = none ∧
    (s.nodeLive[n].presence ≠ .absent →
      (nodesPowerOff s).nodeLive[n].changed = true ∧ (nodesPowerOff s).notice.isSet .nodeChange = true) := by
  have others (ns : List (Fin 48)) (hn : n ∉ ns) (t : State) :
      (ns.foldl (fun u m => losePower m u) t).nodeLive[n] = t.nodeLive[n] := by
    induction ns generalizing t with
    | nil => rfl
    | cons m ns ih =>
      obtain ⟨hm, hns⟩ := List.ne_and_not_mem_of_not_mem_cons hn
      exact (ih hns _).trans (losePower_other t hm)
  obtain ⟨pre, post, hsplit⟩ := List.append_of_mem (List.mem_finRange n)
  have hnd : (pre ++ n :: post).Nodup := hsplit ▸ List.nodup_finRange 48
  obtain ⟨-, hpost, hdis⟩ := List.nodup_append.1 hnd
  have before := others pre (fun k => hdis n k n (by simp) rfl) s
  have frame : FieldFrame s (pre.foldl (fun u m => losePower m u) s) := .foldl (fun t m => losePower_field t m) pre s
  rw [nodesPowerOff, hsplit, List.foldl_append, List.foldl_cons, others post (List.nodup_cons.1 hpost).1]
  generalize pre.foldl (fun u m => losePower m u) s = t at before frame
  obtain ⟨h1, h2, h3, h4⟩ := losePower_node t n (by rw [frame.nodes]; exact h)
  refine ⟨h1, h2, h3, fun ha => ?_⟩
  obtain ⟨h5, h6⟩ := h4 (by rwa [before])
  have after : FieldFrame (losePower n t) (post.foldl (fun u m => losePower m u) (losePower n t)) :=
    .foldl (fun t m => losePower_field t m) post _
  exact ⟨h5, after.flags _ h6⟩

/-- At line power off the Node Table moves its live states and flags alone. -/
theorem nodesPowerOff_eq : ∃ l n, nodesPowerOff s = { s with nodeLive := l, notice := n } := by
  have all (ns : List (Fin 48)) : ∃ l n, ns.foldl (fun u m => losePower m u) s = { s with nodeLive := l, notice := n } := by
    induction ns using List.reverseRecOn with
    | nil => exact ⟨_, _, rfl⟩
    | append_singleton ns m ih =>
      obtain ⟨l, n, h⟩ := ih
      rw [List.foldl_append, h, List.foldl_cons, List.foldl_nil]
      simp only [losePower]
      split
      · split <;> exact ⟨_, _, rfl⟩
      · exact ⟨_, _, rfl⟩
  exact all _

/-! ## The queue -/

/-- Line power off leaves nothing waiting and nothing in progress; it moves neither runs nor devices (01 R19). -/
theorem queuePowerOff_facts :
    (queuePowerOff s).lcq.fifo = [] ∧ (∀ v : Fin 32, (queuePowerOff s).lcq.closes[v] = none) ∧
    (queuePowerOff s).seq = { s.seq with tx := .idle } ∧ (queuePowerOff s).valveLive = s.valveLive ∧
    (queuePowerOff s).nodeLive = s.nodeLive ∧ (queuePowerOff s).runs = s.runs := by
  obtain ⟨order, n, -, he⟩ := passesDown_eq s.lcq.fifo
    (setFifo [] (s.setQueue { s.lcq with closes := Vector.replicate 32 none, clearOwed := false, withdrawOwed := false }))
  simp [queuePowerOff, he]

/-! ## Power is cut -/

/-- The cut before the queue is emptied: RUNNING has been left. -/
def cutBegun (q : SeqState) (mon : CurrentMonitor) : State :=
  let t := quiet q { s with lpwr := false, mon := mon }
  if s.seq.state = .running then runningLeft t else t

theorem cutPower_eq (q : SeqState) (mon : CurrentMonitor) :
    cutPower q mon s = nodesPowerOff (valvesPowerOff (queuePowerOff (cutBegun s q mon))) := rfl

theorem cutBegun_facts {q : SeqState} (hq : q ≠ .running) (mon : CurrentMonitor) :
    WaterFrame (quiet q { s with lpwr := false, mon := mon }) (cutBegun s q mon) ∧ ModesKept s (cutBegun s q mon) ∧
    (s.seq.state = .running → ∀ r ∈ (cutBegun s q mon).runs, r.state ≠ .on) := by
  simp only [cutBegun]
  split
  next h =>
    exact ⟨runningLeft_frame _, runningLeft_modes (quiet q { s with lpwr := false, mon := mon }) hq, fun _ =>
      runningLeft_off (s := quiet q { s with lpwr := false, mon := mon }) hq⟩
  next h => exact ⟨.refl _, .of_live rfl, fun k => absurd k h⟩

/-- The sequencer, the lists and the measure when power is cut (02 R30). -/
theorem cutPower_line_facts {q : SeqState} (hq : q ≠ .running) (mon : CurrentMonitor) :
    (cutPower q mon s).lpwr = false ∧ (cutPower q mon s).mon = mon ∧ (cutPower q mon s).beacon = none ∧
    (cutPower q mon s).seq = { s.seq with state := q, phase := .noCycle, rollCount := 0, toPoll := [], tx := .idle } ∧
    (cutPower q mon s).lcq.fifo = [] ∧ (∀ v : Fin 32, (cutPower q mon s).lcq.closes[v] = none) ∧
    (s.seq.state = .running → ∀ r ∈ (cutPower q mon s).runs, r.state ≠ .on) := by
  obtain ⟨frame, -, hoff⟩ := cutBegun_facts s hq mon
  rw [cutPower_eq]
  generalize cutBegun s q mon = t at frame hoff ⊢
  obtain ⟨hfifo, hcloses, hseq, -, -, hruns⟩ := queuePowerOff_facts t
  have queue := queuePowerOff_field t
  generalize queuePowerOff t = u at *
  have hu : u.seq = { s.seq with state := q, phase := .noCycle, rollCount := 0, toPoll := [], tx := .idle } :=
    hseq.trans (congrArg (fun c : Sequencer => { c with tx := .idle }) frame.seq)
  have hrun : u.seq.state ≠ .running := by rw [hu]; exact hq
  have valves : WaterFrame { u with beacon := none } (valvesPowerOff u) := .foldl (fun t v => settleClosed_frame t v) _ _
  have move := valvesPowerOff_move u
  have vcloses (v : Fin 32) := (valvesPowerOff_valve u hrun v).1
  generalize valvesPowerOff u = w at *
  obtain ⟨l, n, he⟩ := nodesPowerOff_eq w
  rw [he]
  refine ⟨?_, ?_, valves.beacon, ?_, ?_, fun v => (vcloses v).trans (hcloses v), fun hr => ?_⟩
  · rw [valves.lpwr]
    exact queue.lpwr.trans frame.lpwr
  · rw [valves.mon]
    exact queue.mon.trans frame.mon
  · rw [← hu]
    exact move.seq_idle (by simp [hu])
  · have hle := move.shrinks (fun h => h) hrun
    exact List.eq_nil_of_length_eq_zero (Nat.le_zero.1 (by rwa [hfifo] at hle))
  · exact (move.on hrun).none_on (by rw [hruns]; exact hoff hr)

/-- The devices when power is cut: used nodes ABSENT, used valves but the detached ones CLOSED (03 R48, 07 R132). -/
theorem cutPower_devices {q : SeqState} (hq : q ≠ .running) (mon : CurrentMonitor) :
    (∀ n : Fin 48, s.nodes[n].active.used = true →
      (cutPower q mon s).nodeLive[n].presence = .absent ∧ (cutPower q mon s).nodeLive[n].misses = 0 ∧
      (cutPower q mon s).nodeLive[n].forwarded = none ∧
      (s.nodeLive[n].presence ≠ .absent →
        (cutPower q mon s).nodeLive[n].changed = true ∧ (cutPower q mon s).notice.isSet .nodeChange = true)) ∧
    (∀ v : Fin 32, s.valves[v].active.used = true → s.valveLive[v].mode ≠ .detached →
      (cutPower q mon s).valveLive[v].state = .closed ∧ (cutPower q mon s).valveLive[v].assumedOpen = false ∧
      (cutPower q mon s).valveLive[v].attempts = 0) := by
  obtain ⟨frame, modes, -⟩ := cutBegun_facts s hq mon
  rw [cutPower_eq]
  generalize cutBegun s q mon = t at frame modes ⊢
  obtain ⟨-, -, hseq, hlive, hnode, -⟩ := queuePowerOff_facts t
  have queue := queuePowerOff_field t
  generalize queuePowerOff t = u at *
  have hrun : u.seq.state ≠ .running := by
    rw [hseq]
    exact frame.field.march.state.trans_ne hq
  have hnodes : (valvesPowerOff u).nodes = s.nodes := (valvesPowerOff_line u).nodes.trans (queue.nodes.trans frame.nodes)
  have hnodeLive : (valvesPowerOff u).nodeLive = s.nodeLive := by
    have valves : WaterFrame { u with beacon := none } (valvesPowerOff u) := .foldl (fun t v => settleClosed_frame t v) _ _
    exact valves.nodeLive.trans (hnode.trans frame.nodeLive)
  have hvalves : u.valves = s.valves := queue.valves.trans frame.valves
  refine ⟨fun n hn => ?_, fun v hv hm => ?_⟩
  · have h := nodesPowerOff_node (valvesPowerOff u) n (by rwa [hnodes])
    rwa [hnodeLive] at h
  · have hmode : u.valveLive[v].mode ≠ .detached := by
      rw [hlive, modes v]
      exact hm
    have h := (valvesPowerOff_valve u hrun v).2 (by rwa [hvalves]) hmode
    generalize valvesPowerOff u = w at *
    obtain ⟨l, n, he⟩ := nodesPowerOff_eq w
    rw [he]
    show w.valveLive[v].state = .closed ∧ w.valveLive[v].assumedOpen = false ∧ w.valveLive[v].attempts = 0
    rw [h]
    exact ⟨rfl, rfl, rfl⟩

/-- What a cut of line power leaves whatever follows it: the sequencer in `q` with an empty queue and an idle line, no node and
no valve in service, and no run ON that was ON in RUNNING. -/
structure PowerCut (q : SeqState) (mon : CurrentMonitor) (s t : State) : Prop where
  lpwr : t.lpwr = false
  mon : t.mon = mon
  beacon : t.beacon = none
  seq : t.seq = { s.seq with state := q, phase := .noCycle, rollCount := 0, toPoll := [], tx := .idle }
  fifo : t.lcq.fifo = []
  closes : ∀ v : Fin 32, t.lcq.closes[v] = none
  nodes : ∀ n : Fin 48, s.nodes[n].active.used = true → t.nodeLive[n].presence = .absent ∧ t.nodeLive[n].misses = 0 ∧
    t.nodeLive[n].forwarded = none ∧
    (s.nodeLive[n].presence ≠ .absent → t.nodeLive[n].changed = true ∧ t.notice.isSet .nodeChange = true)
  valves : ∀ v : Fin 32, s.valves[v].active.used = true → s.valveLive[v].mode ≠ .detached →
    t.valveLive[v].state = .closed ∧ t.valveLive[v].assumedOpen = false ∧ t.valveLive[v].attempts = 0
  off : s.seq.state = .running → bedsOn t = []
  flags : ∀ f, s.notice.isSet f = true → t.notice.isSet f = true

/-- Where nothing marches, the end of a step changes MV, what is owed, the port and the pending notice alone. -/
theorem complete_still_eq (hd : NoSwapDue s) (hr : s.seq.state ≠ .running) (hs : s.seq.state ≠ .stopping) :
    ∃ (m : Bool) (w : Work) (h : HubPort) (b : Bool),
      complete s = { s with mv := m, work := w, hub := h, notice := { s.notice with pending := b } } := by
  obtain ⟨h, b, he⟩ := complete_eq s
  refine ⟨mvWanted s, { pass := false, free := false, sweep := false, stop := false, mark := false }, h, b, ?_⟩
  rw [he, settle_still hd hr hs]
  rfl

theorem complete_cutPower {q : SeqState} (hq : q ≠ .running ∧ q ≠ .stopping) (mon : CurrentMonitor) (hd : NoSwapDue s) :
    PowerCut q mon s (complete (cutPower q mon s)) := by
  obtain ⟨hlpwr, hmon, hbeacon, hseq, hfifo, hcloses, hoff⟩ := cutPower_line_facts s hq.1 mon
  obtain ⟨hnodes, hvalves⟩ := cutPower_devices s hq.1 mon
  have frame := cutPower_line s q mon
  generalize cutPower q mon s = t at *
  have hst : t.seq.state = q := by rw [hseq]
  obtain ⟨m, w, h, b, he⟩ := complete_still_eq t (frame.noSwapDue hd) (by rw [hst]; exact hq.1) (by rw [hst]; exact hq.2)
  rw [he]
  exact ⟨hlpwr, hmon, hbeacon, hseq, hfifo, hcloses, hnodes, hvalves, fun hr => (bedsOn_eq_nil_iff _).2 (hoff hr), frame.flags⟩

/-! ## The trip -/

/-- The third fault of the window locks the line out, an earlier one leaves it off for a time (02 R30 to R32). -/
theorem complete_trip (hd : NoSwapDue s) :
    let mon := { s.mon with faults := enterFault s.partTime s.mon.faults, measureSince := none, swapEnded := none }
    (mon.faults.length < 3 → PowerCut .lineOff { mon with backoff := some (s.partTime + 30) }
      ((setFlag .lineFault s).setSeq { s.seq with resume := resumeFor s.seq.state }) (complete (trip s))) ∧
    (3 ≤ mon.faults.length →
      PowerCut .lockedOut mon (setFlag .lineLockout (setFlag .lineFault s)) (complete (trip s))) := by
  refine ⟨fun h => ?_, fun h => ?_⟩
  · have ht : trip s = _ := if_neg (Nat.not_le.2 h)
    rw [ht]
    exact complete_cutPower _ ⟨by simp, by simp⟩ _ hd
  · have ht : trip s = _ := if_pos h
    rw [ht]
    exact complete_cutPower _ ⟨by simp, by simp⟩ _ hd

end

/-- Settles O20: the cut of power by either road, and what settles after it. -/
theorem overcurrentCutsLinePower : Obligations.OvercurrentCutsLinePower := by
  intro s hl hm hd faults
  have hmeasured : measured s = true := by
    rcases hm with hm | hm
    · simp [measured, hm]
    · simp [measured, hm, State.now, momentOf]
  have hx : exec .overcurrent s = .next (complete (trip s)) := congrArg _ (if_pos ⟨hl, hmeasured⟩)
  have hf : faults = enterFault s.partTime s.mon.faults := rfl
  clear_value faults
  obtain ⟨few, many⟩ := complete_trip s hd
  refine ⟨_, hx, ?_⟩
  generalize complete (trip s) = t at few many
  rw [← hf] at few many
  by_cases hn : faults.length < 3
  · obtain ⟨h1, h2, h3, h4, h5, h6, h7, h8, h9, h10⟩ := few hn
    rw [h2, h4]
    refine ⟨h1, h10 _ ?_, rfl, rfl, rfl, fun _ => ⟨rfl, rfl, ?_, ?_, ?_⟩, fun hn' => absurd hn (Nat.not_lt.2 hn'), rfl, rfl,
      rfl, h3, h5, h6, h7, h8, h9⟩
    · simp [setFlag, NoticeUnit.isSet_raise]
    · intro hs
      simp [hs, resumeFor]
    · intro hs
      rcases hs with hs | hs | hs <;> simp [hs, resumeFor]
    · intro hs
      simp [hs, resumeFor]
  · obtain ⟨h1, h2, h3, h4, h5, h6, h7, h8, h9, h10⟩ := many (Nat.not_lt.1 hn)
    rw [h2, h4]
    refine ⟨h1, h10 _ ?_, rfl, rfl, rfl, fun hn' => absurd hn' hn, fun _ => ⟨rfl, h10 _ ?_, rfl, rfl⟩, rfl, rfl,
      rfl, h3, h5, h6, h7, h8, h9⟩
    · simp [setFlag, NoticeUnit.isSet_raise]
    · simp [setFlag, NoticeUnit.isSet_raise]

end Sys2Proof.Machine
end

section
/-! SUPPORT. In RUNNING no operation of a sweep or a grant pass holds a run for LINE, and no valve's report gives a bed a second
run (06 R93, R106). -/

namespace Sys2Proof.Machine

/-! ## Runs held for LINE -/

/-- The sequencer is RUNNING and no run is HELD for LINE. -/
def LineClear (s : State) : Prop := s.seq.state = .running ∧ ∀ r ∈ s.runs, r.state = .held → r.reasons.line = false

/-- A move that lets no run of a running sequencer be HELD for LINE. -/
structure ClearKept (s t : State) : Prop where
  kept : LineClear s → LineClear t

namespace ClearKept
variable {s t u : State}

theorem refl (s : State) : ClearKept s s := ⟨id⟩

theorem trans (h : ClearKept s t) (k : ClearKept t u) : ClearKept s u := ⟨fun c => k.kept (h.kept c)⟩

theorem foldl {α : Type} {f : State → α → State} (hf : ∀ s a, ClearKept s (f s a)) (as : List α) (s : State) :
    ClearKept s (as.foldl f s) := by
  induction as generalizing s with
  | nil => exact refl s
  | cons a as ih => exact (hf s a).trans (ih (f s a))

/-- Every run goes on in its state with its reasons, or leaves, or is not HELD for LINE. -/
theorem of_mem (state : t.seq.state = s.seq.state) (h : LineClear s → ∀ r ∈ t.runs, r.state = .held →
    (∃ q ∈ s.runs, q.state = .held ∧ q.reasons = r.reasons) ∨ r.reasons.line = false) : ClearKept s t := by
  refine ⟨fun c => ⟨state.trans c.1, fun r hr hh => ?_⟩⟩
  rcases h c r hr hh with ⟨q, hq, hqh, e⟩ | e
  · rw [← e]
    exact c.2 q hq hqh
  · exact e

theorem of_runs (state : t.seq.state = s.seq.state) (runs : t.runs = s.runs) : ClearKept s t :=
  of_mem state fun _ r hr hh => .inl ⟨r, runs ▸ hr, hh, rfl⟩

/-- A move of the water frame that moves no run. -/
theorem of_frame (h : WaterFrame s t) (runs : t.runs = s.runs) : ClearKept s t := of_runs h.field.march.state runs

end ClearKept

section
variable (s : State)

theorem setRuns_clear (rs : List Run) (h : LineClear s → ∀ r ∈ rs, r.state = .held →
    (∃ q ∈ s.runs, q.state = .held ∧ q.reasons = r.reasons) ∨ r.reasons.line = false) : ClearKept s (s.setRuns rs) :=
  .of_mem rfl h

/-- A record that goes on in its state with its reasons, or is not HELD for LINE, is put in place. -/
theorem putRun_clear (r : Run) (h : LineClear s → r.state = .held →
    (∃ q ∈ s.runs, q.state = .held ∧ q.reasons = r.reasons) ∨ r.reasons.line = false) : ClearKept s (putRun s r) := by
  refine .of_mem rfl fun c q hq hh => ?_
  rcases mem_putRun s hq with rfl | ⟨hq, -⟩
  · exact h c hh
  · exact .inl ⟨q, hq, hh, rfl⟩

theorem releaseCheck_clear (b : Fin 24) : ClearKept s (releaseCheck b s) := by
  unfold releaseCheck
  split
  · exact .refl s
  · split
    · exact putRun_clear s _ fun c _ => .inr (by simp [failingReasons, c.1])
    · exact .refl s

theorem writeValve_clear (v : Fin 32) (l : ValveLive) : ClearKept s (writeValve v l s) := by
  have noted (b : Bool) : ClearKept s (oweReport (if b then noteValveChange (s.setValveLive v l) else s.setValveLive v l)) := by
    cases b <;> exact .of_runs rfl rfl
  simp only [writeValve]
  split
  · have hn := noted (decide (s.valveLive[v].state ≠ l.state))
    simp only [decide_eq_true_eq] at hn
    split
    · exact hn.trans (releaseCheck_clear _ _)
    · exact hn
  · split <;> exact .of_runs rfl rfl

theorem closeRequest_runs (v : Fin 32) : (closeRequest v s).runs = s.runs := by
  simp only [closeRequest]
  split
  · rfl
  · rw [dropOpen_runs]
  · rw [setClose_runs]
    split <;> split <;> simp

theorem withdraw_runs (v : Fin 32) : (withdraw v s).runs = s.runs := by
  simp only [withdraw]
  split <;> simp

theorem closeRequest_clear (v : Fin 32) : ClearKept s (closeRequest v s) := .of_frame (closeRequest_frame s v) (closeRequest_runs s v)
theorem withdraw_clear (v : Fin 32) : ClearKept s (withdraw v s) := .of_frame (withdraw_frame s v) (withdraw_runs s v)

theorem valveStop_clear (v : Fin 32) : ClearKept s (valveStop v s) := by
  simp only [valveStop]
  split
  · split <;> exact (closeRequest_clear s v).trans (writeValve_clear _ v _)
  · exact (closeRequest_clear s v).trans (writeValve_clear _ v _)
  all_goals exact writeValve_clear s v _

/-! ## Grant passes -/

theorem grant_clear (r : Run) (v : Fin 32) : ClearKept s (grant r v s) := by
  have opened : ClearKept (putRun s { r with state := .on, skips := 0 }) (openRequest v (putRun s { r with state := .on, skips := 0 })) :=
    .of_frame (openRequest_frame _ v) (openRequest_runs _ v)
  exact ((putRun_clear s _ fun _ h => by cases h).trans opened).trans (writeValve_clear _ v _)

theorem bumpSkips_clear (bs : List (Fin 24)) : ClearKept s (bumpSkips bs s) := by
  refine setRuns_clear s _ fun _ r hr hh => .inl ?_
  obtain ⟨q, hq, rfl⟩ := List.mem_map.1 hr
  refine ⟨q, hq, ?_⟩
  split at hh <;> split <;> exact ⟨hh, rfl⟩

theorem grantScan_clear (bs passed bumped : List (Fin 24)) : ClearKept s (grantScan bs passed bumped s) := by
  induction bs generalizing passed bumped s with
  | nil => exact bumpSkips_clear s _
  | cons b bs ih =>
    unfold grantScan
    split
    · exact ih s _ _
    · exact ih s _ _
    · exact bumpSkips_clear s _
    next r v _ => exact (grant_clear s r v).trans (ih _ _ _)

theorem grantPass_clear : ClearKept s (grantPass s) := by
  unfold grantPass
  split
  · exact grantScan_clear s _ _ _
  · exact .refl s

theorem pass_clear : ClearKept s (pass s) := by
  have chosen : ClearKept s { s with choice := s.choice + 1 } := .of_runs rfl rfl
  simp only [pass]
  split
  · split
    · exact .of_runs rfl rfl
    · exact chosen.trans (grantPass_clear _)
  · exact grantPass_clear s

/-! ## Pulses, removal, creation, demand -/

theorem onBed_clear (b : Fin 24) (f : BedLive → BedLive) : ClearKept s (onBed b f s) := by
  unfold onBed
  split <;> exact .of_runs rfl rfl

theorem accrueAll_clear : ClearKept s (accrueAll s) := .foldl (fun t b => onBed_clear t b _) _ s

theorem waterCredit_clear (b : Fin 24) (secs flow : Nat) : ClearKept s (waterCredit b secs flow s) :=
  (onBed_clear s b _).trans (onBed_clear _ b _)

theorem Run.applyPlan_held (r : Run) : r.applyPlan.state = r.state ∧ r.applyPlan.reasons = r.reasons := by
  unfold applyPlan
  split <;> exact ⟨rfl, rfl⟩

theorem endPulse_clear (b : Fin 24) (stop : Bool) : ClearKept s (endPulse b stop s) := by
  simp only [endPulse]
  split
  · exact .refl s
  next r h =>
    have put (q : Run) (hq : q.state = r.state ∧ q.reasons = r.reasons) : ClearKept s (putRun s q) :=
      putRun_clear s q fun _ hh => .inl ⟨r, (findRun_mem s h).1, hq.1.symm.trans hh, hq.2.symm⟩
    split
    · refine put _ ?_
      exact r.applyPlan_held
    · split
      · refine ((put _ ?_).trans (waterCredit_clear _ _ _ _)).trans (valveStop_clear _ _)
        exact r.applyPlan_held
      · refine (put _ ?_).trans (waterCredit_clear _ _ _ _)
        exact r.applyPlan_held

theorem takeOut_clear (b : Fin 24) (r : Run) : ClearKept s (takeOut b r s) := by
  have out : ClearKept s (setHoldEnd b (s.setRuns (s.runs.filter fun q => q.bed != b))) :=
    (setRuns_clear s _ fun _ q hq hh => .inl ⟨q, (List.mem_filter.1 hq).1, hh, rfl⟩).trans (onBed_clear _ b _)
  simp only [takeOut]
  split
  · exact out.trans (.of_runs rfl rfl)
  · exact out.trans (.of_runs rfl rfl)

theorem dropRun_clear (b : Fin 24) : ClearKept s (dropRun b s) := by
  unfold dropRun
  split
  · exact .refl s
  · exact (takeOut_clear s b _).trans (pass_clear _)

theorem removeRun_clear (b : Fin 24) : ClearKept s (removeRun b s) := by
  unfold removeRun
  split
  · exact .refl s
  · split
    · exact (endPulse_clear s b true).trans (dropRun_clear _ b)
    · exact dropRun_clear s b

theorem endEarly_clear (b : Fin 24) {x : HeldReasons} (hx : x.line = false) (stop : Bool) : ClearKept s (endEarly b x stop s) := by
  simp only [endEarly]
  have k := endPulse_clear s b stop
  split
  · exact k
  · split
    · exact k.trans (takeOut_clear _ b _)
    · exact (k.trans (putRun_clear _ _ fun _ _ => .inr hx)).trans (.of_runs rfl rfl)

theorem earlyEnd_clear (b : Fin 24) {x : HeldReasons} (hx : x.line = false) (stop : Bool) : ClearKept s (earlyEnd b x stop s) := by
  unfold earlyEnd
  split
  · exact (endEarly_clear s b hx stop).trans (pass_clear _)
  · exact .refl s

theorem startPulse_clear (b : Fin 24) : ClearKept s (startPulse b s) := by
  unfold startPulse
  split
  · exact .refl s
  next r h =>
    split
    next ho => exact putRun_clear s _ fun _ hh => .inl ⟨r, (findRun_mem s h).1, hh, rfl⟩
    · exact .refl s

theorem changeValve_clear (v : Fin 32) (l : ValveLive) : ClearKept s (changeValve v l s) := by
  have told (old new : ValveLive) (t : State) : ClearKept t (tellOwner (fun b => earlyEnd b .onlyValve false) old new t) := by
    unfold tellOwner
    split
    · exact .refl t
    · split
      · exact earlyEnd_clear t _ rfl _
      · split
        · exact startPulse_clear t _
        · exact .refl t
  simp only [changeValve]
  have k := writeValve_clear s v l
  split
  · exact (k.trans (told _ _ _)).trans (pass_clear _)
  · exact k

theorem demandCheck_clear (b : Fin 24) : ClearKept s (demandCheck b s) := by
  unfold demandCheck
  split
  · exact .refl s
  · refine (setRuns_clear s _ fun _ q hq hh => .inl ?_).trans (pass_clear _)
    simp only [insertRun, autoRun, newRun, List.mem_append, List.mem_singleton] at hq
    rcases hq with hq | rfl
    · exact ⟨q, hq, hh, rfl⟩
    · cases hh

theorem demandAll_clear : ClearKept s (demandAll s) :=
  inAnyOrder_keeps .refl .trans (fun _ _ => .of_runs rfl rfl) (fun b t => demandCheck_clear t b) _ _ s

/-! ## Valve Control -/

theorem latchFault_clear (v : Fin 32) : ClearKept s (latchFault v s) := .of_runs rfl rfl

theorem loseDecoder_clear (v : Fin 32) : ClearKept s (loseDecoder v s) := by
  have fault (l : ValveLive) : ClearKept s (changeValve v l (latchFault v (withdraw v s))) :=
    ((withdraw_clear s v).trans (latchFault_clear _ v)).trans (changeValve_clear _ v l)
  simp only [loseDecoder]
  split
  iterate 3 exact fault _
  · split
    · exact (withdraw_clear s v).trans (.of_runs rfl rfl)
    · exact .refl s
  all_goals exact .refl s

theorem valveSwapped_clear (v : Fin 32) (old new : ValveRec) : ClearKept s (valveSwapped v old new s) := by
  have noted (t : State) : ClearKept t (noteValveChange t) := .of_runs rfl rfl
  have changed {t : State} (k : ClearKept s t) (l : ValveLive) : ClearKept s (pass (changeValve v l (noteValveChange t))) :=
    ((k.trans (noted t)).trans (changeValve_clear _ v l)).trans (pass_clear _)
  simp only [valveSwapped]
  split
  · exact changed (withdraw_clear s v) _
  · exact changed (.refl s) _

/-! ## Locks, weather and nodes -/

theorem lockOnset_clear (m : LockMode) (i : LockTiming) : ClearKept s (lockOnset m i s) := by
  have drop (bs : List (Fin 24)) (t : State) : ClearKept t (bs.foldl (fun u b => dropRun b u) t) :=
    .foldl (fun u b => dropRun_clear u b) bs t
  have pulses : ClearKept s ((bedsOn s).foldl (fun u b => if m = .cancel then removeRun b u else earlyEnd b .onlyLock true u) s) :=
    .foldl (fun u b => by
      split
      · exact removeRun_clear u b
      · exact earlyEnd_clear u b rfl _) _ s
  have ended : ClearKept s (if i = .immediate then
      (bedsOn s).foldl (fun u b => if m = .cancel then removeRun b u else earlyEnd b .onlyLock true u) s else s) := by
    split
    · exact pulses
    · exact .refl s
  unfold lockOnset
  by_cases hm : m = .cancel
  · rw [if_pos hm]
    exact ended.trans (drop _ _)
  · rw [if_neg hm]
    exact ended

theorem lockLeaves_clear : ClearKept s (lockLeaves s) :=
  ((ClearKept.foldl (fun t b => releaseCheck_clear t b) _ s).trans (grantPass_clear _)).trans (demandAll_clear _)

theorem recomputeLock_clear : ClearKept s (recomputeLock s) := by
  have flagged (l : LockUnit) : ClearKept s (setFlag .lockChange (s.setLocks l)) := .of_runs rfl rfl
  simp only [recomputeLock]
  split
  · exact .refl s
  · split
    · exact (flagged _).trans (lockLeaves_clear _)
    · split
      · exact (flagged _).trans (lockOnset_clear _ _ _)
      · exact flagged _

theorem setCondition_clear (x : Source) (b : Bool) : ClearKept s (setCondition x b s) := by
  have set (l : LockUnit) : ClearKept s (s.setLocks l) := .of_runs rfl rfl
  unfold setCondition
  split
  · exact .refl s
  · exact (set _).trans (recomputeLock_clear _)

theorem setWeather_clear (w : WeatherUnit) : ClearKept s (setWeather w s) := by
  have set (t : State) : ClearKept t (t.setWeatherUnit w) := .of_runs rfl rfl
  simp only [setWeather]
  split
  · exact ((accrueAll_clear s).trans (set _)).trans (demandAll_clear _)
  · exact set s

theorem recomputeRate_clear : ClearKept s (recomputeRate s) := by
  unfold recomputeRate
  split
  · exact setWeather_clear s _
  · exact .refl s

theorem weatherNodeSwapped_clear (old new : NodeRec) : ClearKept s (weatherNodeSwapped old new s) := by
  unfold weatherNodeSwapped
  split
  · split
    · exact setWeather_clear s _
    · exact .of_runs rfl rfl
  · split
    · exact setWeather_clear s _
    · exact .refl s

theorem weatherRecSwapped_clear (old new : WeatherRec) : ClearKept s (weatherRecSwapped old new s) := by
  have dropped : ClearKept s (dropBaseline s) := .of_runs rfl rfl
  unfold weatherRecSwapped
  split
  · exact dropped.trans (recomputeRate_clear _)
  · exact recomputeRate_clear s

theorem probeSwapped_clear (n : Fin 48) (old new : NodeRec) : ClearKept s (probeSwapped n old new s) := by
  unfold probeSwapped
  split
  · split
    · exact .of_runs rfl rfl
    · unfold probeReturns
      split
      · exact .refl s
      · split
        · exact .of_runs rfl rfl
        · exact .refl s
  · exact .of_runs rfl rfl

theorem nodeLiveSwapped_clear (n : Fin 48) (old new : NodeRec) : ClearKept s (nodeLiveSwapped n old new s) := by
  simp only [nodeLiveSwapped]
  split
  · split <;> exact .of_runs rfl rfl
  · exact .of_runs rfl rfl

theorem nodeSwapped_clear (n : Fin 48) (old new : NodeRec) : ClearKept s (nodeSwapped n old new s) := by
  have decoder (t : State) : ClearKept t (decoderSwapped n old new t) := by
    unfold decoderSwapped
    split
    · exact .foldl (fun u v => loseDecoder_clear u v) _ t
    · exact .refl t
  exact (((nodeLiveSwapped_clear s n old new).trans (probeSwapped_clear _ n old new)).trans
    (weatherNodeSwapped_clear _ old new)).trans (decoder _)

/-! ## Swaps and the end of a step -/

theorem onSlot_clear (f : EntryOp) (x : Slot) : ClearKept s (onSlot f x s) := by
  cases x <;> exact .of_runs rfl rfl

theorem lineSwapped_clear : ClearKept s (lineSwapped s) := by
  simp only [lineSwapped]
  split <;> exact .of_runs rfl rfl

theorem bedSwapped_clear (b : Fin 24) (old new : BedRec) : ClearKept s (bedSwapped b old new s) := by
  have set (t : State) (l : Option BedLive) : ClearKept t (t.setBedLive b l) := .of_runs rfl rfl
  exact (((onBed_clear s b _).trans (onSlot_clear _ _ _)).trans (set _ _)).trans (demandCheck_clear _ b)

theorem swapEffects_clear (x : Slot) : ClearKept s (swapEffects x s) := by
  have h := onSlot_clear s ⟨Entry.swap⟩ x
  cases x with
  | node n => exact h.trans (nodeSwapped_clear _ n _ _)
  | poll _ => exact h
  | valve v => exact h.trans (valveSwapped_clear _ v _ _)
  | bed b => exact bedSwapped_clear s b _ _
  | supply =>
    have set (t : State) (m : SupplyMonitor) : ClearKept t (t.setMonitor m) := .of_runs rfl rfl
    exact h.trans (((set _ _).trans (setCondition_clear _ _ _)).trans (pass_clear _))
  | line => exact h.trans (lineSwapped_clear _)
  | weather => exact h.trans (weatherRecSwapped_clear _ _ _)
  | drying => exact h.trans (recomputeRate_clear _)
  | lock i =>
    have set (t : State) (l : LockUnit) : ClearKept t (t.setLocks l) := .of_runs rfl rfl
    exact h.trans ((set _ _).trans (recomputeLock_clear _))

theorem swapSlot_clear (x : Slot) : ClearKept s (swapSlot x s) := by
  simp only [swapSlot]
  split
  · exact (swapEffects_clear s x).trans (.of_runs rfl rfl)
  · exact swapEffects_clear s x

theorem settleTurns_clear (n : Nat) : ClearKept s (settleTurns n s) := by
  induction n generalizing s with
  | zero => exact .refl s
  | succ n ih =>
    have set (w : Work) : ClearKept s (s.setWork w) := .of_runs rfl rfl
    have passed (w : Work) : ClearKept s (pass (s.setWork w)) := (set w).trans (pass_clear _)
    have swept : ClearKept s (sweepTurn s) := by
      unfold sweepTurn
      split
      · exact swapSlot_clear s _
      · exact .of_runs rfl rfl
    have examined : ClearKept s (examineStop s) := by
      refine ⟨fun c => ?_⟩
      rw [examineStop_idle (by rw [c.1]; simp)]
      exact c
    unfold settleTurns
    split
    · exact examined.trans (ih _)
    · split
      · exact (passed _).trans (ih _)
      · split
        · exact swept.trans (ih _)
        · split
          · exact (passed _).trans (ih _)
          · exact .refl s

/-- The end of a step of a running sequencer holds no run for LINE. -/
theorem settle_clear : ClearKept s (settle s) := (settleTurns_clear s 1024).trans (.of_runs rfl rfl)

end

end Sys2Proof.Machine
end

section
/-! SUPPORT and PROOF. SEQ_RUN: the beds of the queue through a clearing and a grant pass, the release check of every run, and the
entry to RUNNING (02 R22, 06 R106). -/

namespace Sys2Proof.Machine

section
variable (s : State)

/-! ## The beds of the queue -/

/-- The beds with a run, in queue order. -/
def runBeds : List (Fin 24) := s.runs.map (·.bed)

theorem putRun_beds (r : Run) : runBeds (putRun s r) = runBeds s := by
  simp only [runBeds, putRun, State.setRuns_runs, List.map_map]
  refine List.map_congr_left fun q _ => ?_
  by_cases h : q.bed = r.bed <;> simp [h]

theorem runBeds_congr {s t : State} (h : t.runs = s.runs) : runBeds t = runBeds s := by rw [runBeds, h, runBeds]

theorem releaseCheck_beds (b : Fin 24) : runBeds (releaseCheck b s) = runBeds s := by
  rcases releaseCheck_cases s b with e | ⟨r, f, q, -, -, -, e⟩
  · rw [e]
  · rw [e, putRun_beds]

theorem writeValve_beds (v : Fin 32) (l : ValveLive) : runBeds (writeValve v l s) = runBeds s := by
  rcases writeValve_runs s v l with e | ⟨b, u, -, hu, e⟩
  · exact runBeds_congr e
  · rw [runBeds_congr e, releaseCheck_beds, runBeds_congr hu]

theorem grant_beds (r : Run) (v : Fin 32) : runBeds (grant r v s) = runBeds s :=
  (writeValve_beds _ v _).trans ((runBeds_congr (openRequest_runs _ v)).trans (putRun_beds s _))

theorem bumpSkips_beds (bs : List (Fin 24)) : runBeds (bumpSkips bs s) = runBeds s := by
  simp only [runBeds, bumpSkips, State.setRuns_runs, List.map_map]
  refine List.map_congr_left fun q _ => ?_
  simp only [Function.comp_apply]
  split <;> rfl

theorem grantScan_beds (bs passed bumped : List (Fin 24)) : runBeds (grantScan bs passed bumped s) = runBeds s := by
  induction bs generalizing passed bumped s with
  | nil => exact bumpSkips_beds s _
  | cons b bs ih =>
    unfold grantScan
    split
    · exact ih s _ _
    · exact ih s _ _
    · exact bumpSkips_beds s _
    next r v _ => exact (ih (grant r v s) _ _).trans (grant_beds s r v)

theorem grantPass_beds : runBeds (grantPass s) = runBeds s := by
  unfold grantPass
  split
  · exact grantScan_beds s _ _ _
  · rfl

/-- A grant pass neither makes a run nor removes one. -/
theorem pass_beds : runBeds (pass s) = runBeds s := by
  simp only [pass]
  split
  · split
    · rfl
    · exact grantPass_beds _
  · exact grantPass_beds s

/-- A move that gives no bed a run it did not have. -/
def BedsFrom (s t : State) : Prop := (runBeds t).Sublist (runBeds s)

namespace BedsFrom
variable {s t u : State}

theorem of_eq (h : runBeds t = runBeds s) : BedsFrom s t := by rw [BedsFrom, h]
theorem of_runs (h : t.runs = s.runs) : BedsFrom s t := of_eq (runBeds_congr h)
theorem trans (h : BedsFrom s t) (k : BedsFrom t u) : BedsFrom s u := List.Sublist.trans k h
theorem queueLaw (h : BedsFrom s t) (k : QueueLaw s) : QueueLaw t := List.Nodup.sublist h k

theorem foldl {α : Type} {f : State → α → State} (hf : ∀ s a, BedsFrom s (f s a)) (as : List α) (s : State) :
    BedsFrom s (as.foldl f s) := by
  induction as generalizing s with
  | nil => exact .of_runs rfl
  | cons a as ih => exact (hf s a).trans (ih (f s a))

end BedsFrom

theorem valveStop_beds (v : Fin 32) : runBeds (valveStop v s) = runBeds s := by
  have closed (l : ValveLive) : runBeds (writeValve v l (closeRequest v s)) = runBeds s :=
    (writeValve_beds _ v l).trans (runBeds_congr (closeRequest_runs s v))
  simp only [valveStop]
  split
  · split <;> exact closed _
  · exact closed _
  all_goals exact writeValve_beds s v _

theorem onBed_runs (b : Fin 24) (f : BedLive → BedLive) : (onBed b f s).runs = s.runs := by
  unfold onBed
  split <;> rfl

theorem waterCredit_runs (b : Fin 24) (secs flow : Nat) : (waterCredit b secs flow s).runs = s.runs :=
  (onBed_runs _ b _).trans (onBed_runs s b _)

theorem endPulse_beds (b : Fin 24) (stop : Bool) : runBeds (endPulse b stop s) = runBeds s := by
  simp only [endPulse]
  split
  · rfl
  · split
    · exact putRun_beds s _
    · split
      · exact (valveStop_beds _ _).trans ((runBeds_congr (waterCredit_runs _ _ _ _)).trans (putRun_beds s _))
      · exact (runBeds_congr (waterCredit_runs _ _ _ _)).trans (putRun_beds s _)

theorem takeOut_runs (b : Fin 24) (r : Run) : (takeOut b r s).runs = s.runs.filter fun q => q.bed != b := by
  simp only [takeOut]
  split <;> exact onBed_runs _ b _

theorem takeOut_beds (b : Fin 24) (r : Run) : BedsFrom s (takeOut b r s) := by
  rw [BedsFrom, runBeds, takeOut_runs]
  exact List.filter_sublist.map _

theorem endEarly_beds (b : Fin 24) (x : HeldReasons) (stop : Bool) : BedsFrom s (endEarly b x stop s) := by
  simp only [endEarly]
  have k : BedsFrom s (endPulse b stop s) := .of_eq (endPulse_beds s b stop)
  split
  · exact k
  · split
    · exact k.trans (takeOut_beds _ b _)
    · exact k.trans (.of_eq (putRun_beds _ _))

theorem earlyEnd_beds (b : Fin 24) (x : HeldReasons) (stop : Bool) : BedsFrom s (earlyEnd b x stop s) := by
  unfold earlyEnd
  split
  · exact (endEarly_beds s b x stop).trans (.of_eq (pass_beds _))
  · exact .of_runs rfl

theorem startPulse_beds (b : Fin 24) : runBeds (startPulse b s) = runBeds s := by
  unfold startPulse
  split
  · rfl
  · split
    · exact putRun_beds s _
    · rfl

theorem changeValve_beds (v : Fin 32) (l : ValveLive) : BedsFrom s (changeValve v l s) := by
  have told (old new : ValveLive) (t : State) : BedsFrom t (tellOwner (fun b => earlyEnd b .onlyValve false) old new t) := by
    unfold tellOwner
    split
    · exact .of_runs rfl
    · split
      · exact earlyEnd_beds t _ _ _
      · split
        · exact .of_eq (startPulse_beds t _)
        · exact .of_runs rfl
  simp only [changeValve]
  have k : BedsFrom s (writeValve v l s) := .of_eq (writeValve_beds s v l)
  split
  · exact (k.trans (told _ _ _)).trans (.of_eq (pass_beds _))
  · exact k

/-- Marks start moves no bed into the queue, the clearing owed included (log 13). -/
theorem marksStart_beds : BedsFrom s (marksStart s) := by
  have withdrawn (v : Fin 32) (sent : Bool) (t : State) : BedsFrom t (openWithdrawn v sent t) := by
    simp only [openWithdrawn]
    split
    · split
      · exact (BedsFrom.of_runs (closeRequest_runs t v)).trans (changeValve_beds _ v _)
      · exact changeValve_beds t v _
    · exact .of_runs rfl
  have cleared (leaves : FifoEntry → Bool) (t : State) : BedsFrom t (clearEntries leaves t) := by
    obtain ⟨order, n, -, h⟩ := clearEntries_eq leaves t
    rw [h]
    refine (BedsFrom.of_runs (leaveFifo_runs t leaves order n)).trans (.foldl (fun u v => ?_) _ _)
    split
    · exact withdrawn _ _ u
    · exact .of_runs rfl
  simp only [marksStart]
  split
  · exact cleared _ _
  · exact .of_runs rfl

/-! ## The release check of every run -/

/-- With one run for each bed, a release check leaves a HELD run the reasons that stand now (06 R106). -/
theorem releaseCheck_reasons (b : Fin 24) (hq : QueueLaw s) (r : Run) (hr : r ∈ (releaseCheck b s).runs) :
    r ∈ s.runs ∧ r.bed ≠ b ∨ r.bed = b ∧ (r.state = .held → r.reasons = failingReasons s b) := by
  by_cases hb : r.bed = b
  · refine .inr ⟨hb, fun hh => ?_⟩
    unfold releaseCheck at hr
    split at hr
    next hn => exact absurd hb (findRun_none s hn r hr)
    next q hf =>
      obtain ⟨hqm, hqb⟩ := findRun_mem s hf
      split at hr
      · rcases mem_putRun s hr with e | ⟨-, hne⟩
        · rw [e]
        · exact absurd (hb.trans hqb.symm) hne
      next hn =>
        have e : r = q := List.inj_on_of_nodup_map hq hr hqm (hb.trans hqb.symm)
        exact absurd (e ▸ hh) hn
  · refine .inl ⟨?_, hb⟩
    rcases releaseCheck_cases s b with e | ⟨q, f, x, hf, -, -, e⟩
    · rwa [e] at hr
    · rw [e] at hr
      rcases mem_putRun s hr with rfl | ⟨hm, -⟩
      · exact absurd (findRun_mem s hf).2 hb
      · exact hm

/-- After the release check of every run, a HELD one is held for LINE outside RUNNING alone, and for LOCK while a lock is in
force (06 R106). -/
theorem releaseAll_reasons (hq : QueueLaw s) (r : Run) (hr : r ∈ (releaseAll s).runs) (hh : r.state = .held) :
    r.reasons.line = (s.seq.state != .running) ∧ r.reasons.lock = s.locks.effective.isSome := by
  have all (bs : List (Fin 24)) : runBeds (bs.foldl (fun t b => releaseCheck b t) s) = runBeds s ∧
      ∀ q ∈ (bs.foldl (fun t b => releaseCheck b t) s).runs, q.bed ∈ bs → q.state = .held →
        q.reasons.line = (s.seq.state != .running) ∧ q.reasons.lock = s.locks.effective.isSome := by
    induction bs using List.reverseRecOn with
    | nil => exact ⟨rfl, fun q _ hm => absurd hm (by simp)⟩
    | append_singleton bs b ih =>
      obtain ⟨hbeds, hreasons⟩ := ih
      have frame : WaterFrame s (bs.foldl (fun t b => releaseCheck b t) s) := .foldl (fun t b => releaseCheck_frame t b) bs s
      rw [List.foldl_append, List.foldl_cons, List.foldl_nil]
      generalize bs.foldl (fun t b => releaseCheck b t) s = t at *
      refine ⟨(releaseCheck_beds t b).trans hbeds, fun q hm hb hs => ?_⟩
      have hqt : QueueLaw t := (BedsFrom.of_eq hbeds).queueLaw hq
      rcases releaseCheck_reasons t b hqt q hm with ⟨hm', hne⟩ | ⟨-, hf⟩
      · exact hreasons q hm' ((List.mem_append.1 hb).resolve_right (by simpa using hne)) hs
      · rw [hf hs, ← frame.field.march.state, ← frame.locks]
        exact ⟨rfl, rfl⟩
  obtain ⟨hbeds, hreasons⟩ := all (s.runs.map (·.bed))
  refine hreasons r hr ?_ hh
  have : r.bed ∈ runBeds (releaseAll s) := List.mem_map_of_mem hr
  rw [releaseAll] at this
  rwa [hbeds] at this

/-! ## SEQ_RUN -/

/-- RUNNING is entered with no run HELD for LINE (02 R22, 06 R106). -/
theorem enterRunning_clear (n : Nat) (hq : QueueLaw s) : LineClear (enterRunning n s) := by
  have hq' : QueueLaw (beginMarking .running n (marksStart s)) := (marksStart_beds s).queueLaw hq
  refine (pass_clear _).kept ⟨?_, fun r hr hh => ?_⟩
  · rw [(releaseAll_frame _).field.march.state]
    rfl
  · rw [(releaseAll_reasons _ hq' r hr hh).1]
    rfl

end

/-- Settles O16: from STOPPED and HALTED the entry to RUNNING and its end of step; elsewhere the ruling moves at most the
resume target. -/
theorem seqRunActsByState : Obligations.SeqRunActsByState := by
  intro s ht hr
  have hx : exec (.seqRun []) s = .next (takeRequest 0x05 noBody seqRunRule [] s) := rfl
  rw [hx]
  refine ⟨fun hs => ?_, fun hs => congrArg _ ?_, fun hs => congrArg _ ?_, fun hs => congrArg _ ?_⟩
  · obtain ⟨p, hp, he⟩ := takeRequest_ruled (rule := seqRunRule) ht (lengths := noBody) rfl
    have hrule : seqRunRule [] (s.setHub p) = accept (enterRunning 0 (s.setHub p)) := by
      rcases hs with hs | hs <;> simp only [seqRunRule, State.setHub_seq, hs]
    obtain ⟨h1, h2, h3, h4, h5, h6, h7, -, -⟩ := enterRunning_facts (s.setHub p) 0
    obtain ⟨k1, k2, k3, k4, k5, k6, k7⟩ := (settle_march (s := enterRunning 0 (s.setHub p)) (by rw [h1]; simp)).figures
    have hclear (hq : QueueLaw s) := (settle_clear _).kept (enterRunning_clear (s.setHub p) 0 hq)
    have hflags := (settle_settle (enterRunning 0 (s.setHub p))).flags
    obtain ⟨h, b, ha⟩ := answerRuling_eq 0x05 (accept (enterRunning 0 (s.setHub p)))
    refine ⟨_, rfl, ?_⟩
    rw [he, hrule]
    refine ⟨answerOf_answerRuling _ fun g => ?_, ?_⟩
    · show (enterRunning 0 (s.setHub p)).hub.htx ≠ _
      rw [(enterRunning_line (s.setHub p) 0).hub]
      exact hp g
    · rw [ha]
      exact ⟨k1.trans h1, k2.trans h2, k3.trans h3, k4.trans h4, k5.trans h5, k6.trans h6, k7.trans h7,
        fun hq => (hclear hq).2, fun f hf => hflags f ((enterRunning_line (s.setHub p) 0).flags f hf)⟩
  · refine takeRequest_accepted ht rfl hr ?_
    rcases hs with hs | hs | hs <;> simp only [seqRunRule, atHead_seq, hs]
  · refine takeRequest_sequencer ht rfl hr _ ?_
    simp only [seqRunRule, atHead_seq, hs]
  · refine takeRequest_refused 0x05 noBody seqRunRule [] s .refusedState ht rfl hr ?_
    simp only [seqRunRule, atHead_seq, hs]

end Sys2Proof.Machine
end

section
/-! SUPPORT. What a grant pass may do to a run, a valve, a balance and the Supply Monitor: a QUEUED run may go ON, a HELD one is
judged again, a valve may open, and nothing else (06 R98 to R100, R106, 09 R159). -/

namespace Sys2Proof.Machine

/-! ## The Supply Monitor through reports of valves -/

/-- The window with its change mark set. -/
def FlowWindow.marked (w : FlowWindow) : FlowWindow := { w with changed := true }

/-- The Supply Monitor may have been told of valve changes, and of nothing else (09 R159). -/
structure MonitorKept (s t : State) : Prop where
  partTime : t.partTime = s.partTime
  inputs : t.monitor.inputA = s.monitor.inputA ∧ t.monitor.inputB = s.monitor.inputB
  counts : t.monitor.highCount = s.monitor.highCount ∧ t.monitor.lowCount = s.monitor.lowCount ∧
    t.monitor.leakCount = s.monitor.leakCount
  result : t.monitor.result = s.monitor.result
  window : t.monitor.window.map FlowWindow.marked = s.monitor.window.map FlowWindow.marked
  recent : s.monitor.lastChange = s.partTime → t.monitor.lastChange = s.partTime
  changed : (∀ w, s.monitor.window = some w → w.changed = true) → ∀ w, t.monitor.window = some w → w.changed = true

namespace MonitorKept
variable {s t u : State}

theorem refl (s : State) : MonitorKept s s := ⟨rfl, ⟨rfl, rfl⟩, ⟨rfl, rfl, rfl⟩, rfl, rfl, id, id⟩

theorem trans (h : MonitorKept s t) (k : MonitorKept t u) : MonitorKept s u where
  partTime := k.partTime.trans h.partTime
  inputs := ⟨k.inputs.1.trans h.inputs.1, k.inputs.2.trans h.inputs.2⟩
  counts := ⟨k.counts.1.trans h.counts.1, k.counts.2.1.trans h.counts.2.1, k.counts.2.2.trans h.counts.2.2⟩
  result := k.result.trans h.result
  window := k.window.trans h.window
  recent r := by
    rw [← h.partTime]
    exact k.recent (by rw [h.partTime]; exact h.recent r)
  changed c := k.changed (h.changed c)

theorem of_monitor (partTime : t.partTime = s.partTime) (h : t.monitor = s.monitor) : MonitorKept s t :=
  ⟨partTime, by rw [h]; exact ⟨rfl, rfl⟩, by rw [h]; exact ⟨rfl, rfl, rfl⟩, by rw [h], by rw [h], fun r => by rw [h, r],
    fun c => by rw [h]; exact c⟩

theorem foldl {α : Type} {f : State → α → State} (hf : ∀ s a, MonitorKept s (f s a)) (as : List α) (s : State) :
    MonitorKept s (as.foldl f s) := by
  induction as generalizing s with
  | nil => exact refl s
  | cons a as ih => exact (hf s a).trans (ih (f s a))

theorem noted (s : State) : MonitorKept s (noteValveChange s) where
  partTime := rfl
  inputs := ⟨rfl, rfl⟩
  counts := ⟨rfl, rfl, rfl⟩
  result := rfl
  window := by
    show (s.monitor.window.map fun w => { w with changed := true }).map FlowWindow.marked = _
    rw [Option.map_map]
    rfl
  recent _ := rfl
  changed _ w hw := by
    obtain ⟨v, -, rfl⟩ := Option.map_eq_some_iff.1 (show s.monitor.window.map FlowWindow.marked = some w from hw)
    rfl

end MonitorKept

section
variable (s : State)

theorem releaseCheck_monitor (b : Fin 24) : (releaseCheck b s).monitor = s.monitor := by
  rcases releaseCheck_cases s b with e | ⟨r, f, q, -, -, -, e⟩ <;> rw [e]
  rfl

theorem writeValve_monitor (v : Fin 32) (l : ValveLive) : MonitorKept s (writeValve v l s) := by
  have set : MonitorKept s (s.setValveLive v l) := .of_monitor rfl rfl
  have noted (b : Bool) : MonitorKept s (oweReport (if b then noteValveChange (s.setValveLive v l) else s.setValveLive v l)) := by
    cases b
    · exact set.trans (.of_monitor rfl rfl)
    · exact (set.trans (.noted _)).trans (.of_monitor rfl rfl)
  simp only [writeValve]
  split
  · have hn := noted (decide (s.valveLive[v].state ≠ l.state))
    simp only [decide_eq_true_eq] at hn
    split
    · exact hn.trans (.of_monitor (releaseCheck_frame _ _).partTime (releaseCheck_monitor _ _))
    · exact hn
  · split
    · exact (set.trans (.noted _)).trans (.of_monitor rfl rfl)
    · exact set

theorem setFifo_monitor (f : List FifoEntry) : (setFifo f s).monitor = s.monitor := by
  simp only [setFifo]
  split <;> rfl

theorem dropOpen_monitor (v : Fin 32) : (dropOpen v s).monitor = s.monitor := setFifo_monitor s _

theorem detach_monitor (v : Fin 32) : (detach v s).monitor = s.monitor := by
  unfold detach
  split
  · split <;> rfl
  · rfl

theorem openRequest_monitor (v : Fin 32) : (openRequest v s).monitor = s.monitor := by
  have append (t : State) : (appendOpen v t).monitor = t.monitor := setFifo_monitor t _
  simp only [openRequest]
  split
  · rfl
  · rfl
  · rw [append]
    split
    · show (if _ then _ else _ : State).monitor = _
      split <;> simp [detach_monitor]
    · split <;> simp [detach_monitor]

theorem closeRequest_monitor (v : Fin 32) : (closeRequest v s).monitor = s.monitor := by
  simp only [closeRequest]
  split
  · rfl
  · exact dropOpen_monitor s v
  · show (if _ then _ else _ : State).monitor = _
    split <;> split <;> simp [detach_monitor, dropOpen_monitor]

theorem withdraw_monitor (v : Fin 32) : (withdraw v s).monitor = s.monitor := by
  unfold withdraw
  split
  · rw [dropOpen_monitor]
    exact detach_monitor s v
  · rfl

end

/-! ## One run through a grant pass -/

/-- The run `r` has become `r'` by grants and release checks alone, `locked` saying whether a lock is in force: a QUEUED one may
be ON, a HELD one is held for what stands now. -/
structure RunGranted (locked : Bool) (r r' : Run) : Prop where
  same : r' = { r with state := r'.state, skips := r'.skips, reasons := r'.reasons }
  waiting : r.state ≠ .held → r'.reasons = r.reasons ∧ (r'.state = r.state ∨ r.state = .queued ∧ r'.state = .on)
  held : r'.state = .held → r.state = .held ∧ (r'.reasons = r.reasons ∨ r'.reasons.lock = locked)

namespace RunGranted
variable {locked : Bool} {p q r : Run}

theorem refl (locked : Bool) (r : Run) : RunGranted locked r r := ⟨rfl, fun _ => ⟨rfl, .inl rfl⟩, fun h => ⟨h, .inl rfl⟩⟩

theorem bed (h : RunGranted locked p q) : q.bed = p.bed := by rw [h.same]

theorem trans (h : RunGranted locked p q) (k : RunGranted locked q r) : RunGranted locked p r where
  same := by rw [k.same, h.same]
  waiting hp := by
    obtain ⟨hr, hs⟩ := h.waiting hp
    have hq : q.state ≠ .held := by
      rcases hs with e | ⟨-, e⟩
      · rwa [e]
      · rw [e]; simp
    obtain ⟨kr, ks⟩ := k.waiting hq
    refine ⟨kr.trans hr, ?_⟩
    rcases ks with e | ⟨e, e'⟩
    · rwa [e]
    · rcases hs with f | ⟨-, f⟩
      · exact .inr ⟨f.symm.trans e, e'⟩
      · rw [f] at e
        cases e
  held hh := by
    obtain ⟨kq, kr⟩ := k.held hh
    obtain ⟨hp, hr⟩ := h.held kq
    refine ⟨hp, ?_⟩
    rcases kr with e | e
    · rcases hr with f | f
      · exact .inl (e.trans f)
      · exact .inr (by rw [e]; exact f)
    · exact .inr e

end RunGranted

/-- Grants and release checks alone lead from `s` to `t`. -/
structure Granted (s t : State) : Prop where
  locks : t.locks = s.locks
  beds : runBeds t = runBeds s
  runs : ∀ r' ∈ t.runs, ∃ r ∈ s.runs, RunGranted s.locks.effective.isSome r r'
  found : ∀ b r, findRun s b = some r → ∃ r', findRun t b = some r' ∧ RunGranted s.locks.effective.isSome r r'
  bedLive : t.bedLive = s.bedLive
  modes : ModesKept s t
  faults : ∀ v : Fin 32, t.valveLive[v].state = .fault ↔ s.valveLive[v].state = .fault
  monitor : MonitorKept s t

namespace Granted
variable {s t u : State}

theorem trans (h : Granted s t) (k : Granted t u) : Granted s u where
  locks := k.locks.trans h.locks
  beds := k.beds.trans h.beds
  runs r hr := by
    obtain ⟨q, hq, hqr⟩ := k.runs r hr
    obtain ⟨p, hp, hpq⟩ := h.runs q hq
    rw [h.locks] at hqr
    exact ⟨p, hp, hpq.trans hqr⟩
  found b p hp := by
    obtain ⟨q, hq, hpq⟩ := h.found b p hp
    obtain ⟨r, hr, hqr⟩ := k.found b q hq
    rw [h.locks] at hqr
    exact ⟨r, hr, hpq.trans hqr⟩
  bedLive := k.bedLive.trans h.bedLive
  modes := h.modes.trans k.modes
  faults v := (k.faults v).trans (h.faults v)
  monitor := h.monitor.trans k.monitor

/-- Runs, balances, valves and locks stand as they were. -/
theorem of_eq (locks : t.locks = s.locks) (runs : t.runs = s.runs) (bedLive : t.bedLive = s.bedLive)
    (live : t.valveLive = s.valveLive) (monitor : MonitorKept s t) : Granted s t where
  locks := locks
  beds := runBeds_congr runs
  runs r hr := ⟨r, runs ▸ hr, .refl _ r⟩
  found b r hr := ⟨r, by rwa [findRun_congr runs], .refl _ r⟩
  bedLive := bedLive
  modes := .of_live live
  faults v := by rw [live]
  monitor := monitor

theorem refl (s : State) : Granted s s := of_eq rfl rfl rfl rfl (.refl s)

/-- A run of some bed is put in place of the one found. -/
theorem putRun {r q : Run} (hr : findRun s q.bed = some r) (h : RunGranted s.locks.effective.isSome r q) :
    Granted s (putRun s q) where
  locks := rfl
  beds := putRun_beds s q
  runs p hp := by
    rcases mem_putRun s hp with rfl | ⟨hm, -⟩
    · exact ⟨r, (findRun_mem s hr).1, h⟩
    · exact ⟨p, hm, .refl _ p⟩
  found b p hp := by
    by_cases hb : q.bed = b
    · subst hb
      rw [hr] at hp
      cases hp
      exact ⟨q, findRun_putRun_self s hr, h⟩
    · exact ⟨p, by rwa [findRun_putRun_other s hb], .refl _ p⟩
  bedLive := rfl
  modes := .of_live rfl
  faults _ := Iff.rfl
  monitor := .of_monitor rfl rfl

theorem findRun_none (h : Granted s t) (b : Fin 24) : findRun t b = none ↔ findRun s b = none := by
  have key (u : State) : findRun u b = none ↔ b ∉ runBeds u := by
    simp [findRun, runBeds]
  rw [key, key, h.beds]

end Granted

section
variable (s : State)

theorem releaseCheck_granted (b : Fin 24) : Granted s (releaseCheck b s) := by
  unfold releaseCheck
  split
  · exact .refl s
  next r h =>
    split
    next hh =>
      refine .putRun (r := r) ?_ ⟨rfl, fun k => absurd hh k, fun _ => ⟨hh, .inr rfl⟩⟩
      show findRun s r.bed = some r
      rw [(findRun_mem s h).2, h]
    · exact .refl s

/-- A valve that keeps its mode, and is in FAULT where it was, is written. -/
theorem writeValve_granted (v : Fin 32) (l : ValveLive) (hm : l.mode = s.valveLive[v].mode)
    (hf : l.state = .fault ↔ s.valveLive[v].state = .fault) : Granted s (writeValve v l s) := by
  have set : MonitorKept s (s.setValveLive v l) := .of_monitor rfl rfl
  have live : Granted s (s.setValveLive v l) := by
    refine ⟨rfl, rfl, fun r hr => ⟨r, hr, .refl _ r⟩, fun b r hr => ⟨r, hr, .refl _ r⟩, rfl, fun w => ?_, fun w => ?_, set⟩
    all_goals
      by_cases hw : w = v
      · subst hw
        simpa using by assumption
      · simp only [State.setValveLive_valveLive, getElem_set_other _ hw]
  have noted (t : State) : Granted t (noteValveChange t) := .of_eq rfl rfl rfl rfl (.noted t)
  have owed (t : State) : Granted t (oweReport t) := .of_eq rfl rfl rfl rfl (.of_monitor rfl rfl)
  have swept (t : State) : Granted t (oweSweep t) := .of_eq rfl rfl rfl rfl (.of_monitor rfl rfl)
  have reported (b : Bool) : Granted s (oweReport (if b then noteValveChange (s.setValveLive v l) else s.setValveLive v l)) := by
    cases b
    · exact live.trans (owed _)
    · exact (live.trans (noted _)).trans (owed _)
  simp only [writeValve]
  split
  · have hn := reported (decide (s.valveLive[v].state ≠ l.state))
    simp only [decide_eq_true_eq] at hn
    split
    · exact hn.trans (releaseCheck_granted _ _)
    · exact hn
  · split
    · exact (live.trans (noted _)).trans (swept _)
    · exact live

theorem openRequest_bedLive (v : Fin 32) : (openRequest v s).bedLive = s.bedLive := by
  have drop (t : State) : (dropOpen v t).bedLive = t.bedLive := by
    simp only [dropOpen, setFifo]
    split <;> rfl
  have append (t : State) : (appendOpen v t).bedLive = t.bedLive := by
    simp only [appendOpen, setFifo]
    split <;> rfl
  have det (t : State) : (detach v t).bedLive = t.bedLive := by
    unfold detach
    split
    · split <;> rfl
    · rfl
  simp only [openRequest]
  split
  · rfl
  · rfl
  · rw [append]
    split
    · show (if _ then _ else _ : State).bedLive = _
      split <;> simp [det]
    · split <;> simp [det]

theorem openRequest_granted (v : Fin 32) : Granted s (openRequest v s) :=
  .of_eq (openRequest_frame s v).locks (openRequest_runs s v) (openRequest_bedLive s v) (openRequest_valveLive s v)
    (.of_monitor (openRequest_frame s v).partTime (openRequest_monitor s v))

/-- A QUEUED run of a CLOSED valve is granted (06 R99). -/
theorem grant_granted {r : Run} {v : Fin 32} (hr : findRun s r.bed = some r) (hq : r.state = .queued)
    (hv : s.valveLive[v].state = .closed) : Granted s (grant r v s) := by
  have put : Granted s (putRun s { r with state := .on, skips := 0 }) :=
    .putRun (q := { r with state := .on, skips := 0 }) hr ⟨rfl, fun _ => ⟨rfl, .inr ⟨hq, rfl⟩⟩, fun h => by cases h⟩
  have opened := put.trans (openRequest_granted _ v)
  have live : (openRequest v (putRun s { r with state := .on, skips := 0 })).valveLive = s.valveLive := openRequest_valveLive _ v
  refine opened.trans (writeValve_granted _ v _ rfl ?_)
  rw [live, hv]
  simp

theorem bumpSkips_granted (bs : List (Fin 24)) : Granted s (bumpSkips bs s) := by
  have bumped (r : Run) : RunGranted s.locks.effective.isSome r
      (if bs.contains r.bed then { r with skips := r.skips + 1 } else r) := by
    split
    · exact ⟨rfl, fun _ => ⟨rfl, .inl rfl⟩, fun h => ⟨h, .inl rfl⟩⟩
    · exact .refl _ r
  refine ⟨rfl, bumpSkips_beds s bs, fun r hr => ?_, fun b r hr => ⟨_, ?_, bumped r⟩, rfl, .of_live rfl, fun _ => Iff.rfl,
    .of_monitor rfl rfl⟩
  · obtain ⟨q, hq, rfl⟩ := List.mem_map.1 hr
    exact ⟨q, hq, bumped q⟩
  · have hcomp : ((fun q : Run => q.bed == b) ∘ fun q => if bs.contains q.bed then { q with skips := q.skips + 1 } else q) =
        fun q => q.bed == b := by
      funext q
      simp only [Function.comp_apply]
      split <;> rfl
    simp only [findRun, bumpSkips, State.setRuns_runs, List.find?_map, hcomp]
    unfold findRun at hr
    rw [hr]
    rfl

theorem grantScan_granted (bs passed bumped : List (Fin 24)) : Granted s (grantScan bs passed bumped s) := by
  induction bs generalizing passed bumped s with
  | nil => exact bumpSkips_granted s _
  | cons b bs ih =>
    unfold grantScan
    split
    · exact ih s _ _
    · exact ih s _ _
    · exact bumpSkips_granted s _
    next r v h =>
      obtain ⟨hr, -, hq, hc, -, -⟩ := scanStep_granted s h
      exact (grant_granted s (by rw [(findRun_mem s hr).2, hr]) hq hc).trans (ih _ _ _)

theorem grantPass_granted : Granted s (grantPass s) := by
  unfold grantPass
  split
  · exact grantScan_granted s _ _ _
  · exact .refl s

theorem pass_granted : Granted s (pass s) := by
  have chosen : Granted s { s with choice := s.choice + 1 } := .of_eq rfl rfl rfl rfl (.of_monitor rfl rfl)
  have owed (t : State) : Granted t (owePass t) := .of_eq rfl rfl rfl rfl (.of_monitor rfl rfl)
  simp only [pass]
  split
  · split
    · exact chosen.trans (owed _)
    · exact chosen.trans (grantPass_granted _)
  · exact grantPass_granted s

variable {s}

/-- Outside STOPPING, with no entry SWAP_DUE, the end of a step is grants alone. -/
theorem settle_granted (hd : NoSwapDue s) (hs : s.seq.state ≠ .stopping) : Granted s (settle s) := by
  have work (t : State) (w : Work) : Granted t (t.setWork w) := .of_eq rfl rfl rfl rfl (.of_monitor rfl rfl)
  have h : Granted s (settleTurns 1024 s) ∧ (settleTurns 1024 s).seq.state = s.seq.state := by
    refine settleTurns_induction (P := fun t => Granted s t ∧ t.seq.state = s.seq.state) (fun t _ h => ?_) (fun t _ h => ?_)
      (fun t w h => ⟨h.1.trans (work t w), h.2⟩) 1024 hd ⟨.refl s, rfl⟩
    · rw [examineStop_idle (by rw [h.2]; exact hs)]
      exact ⟨h.1.trans (work t _), h.2⟩
    · exact ⟨h.1.trans (pass_granted t), (pass_frame t).field.march.state.trans h.2⟩
  exact h.1.trans (.of_eq rfl rfl rfl rfl (.of_monitor rfl rfl))

end

end Sys2Proof.Machine
end

section
/-! SUPPORT. Demand checks: when one asks for a run, the run it makes, and the checks of all used beds in any order (05 R81 to
R85, 06 R94). -/

namespace Sys2Proof.Machine

/-! ## When a demand check asks -/

theorem windowOpen_iff (r : BedRec) (m : Nat) : r.windowOpen m = true ↔ WindowOpen r m := by
  unfold BedRec.windowOpen WindowOpen
  split
  next h => simp [h]
  next h =>
    split
    next hl =>
      simp only [Bool.and_eq_true, decide_eq_true_eq]
      exact ⟨fun k => .inr (.inl ⟨hl, k⟩), fun k => k.elim (absurd · h) fun k => k.elim (·.2) fun k => absurd k.1 (by omega)⟩
    next hl =>
      simp only [Bool.or_eq_true, decide_eq_true_eq]
      exact ⟨fun k => .inr (.inr ⟨by omega, k⟩), fun k => k.elim (absurd · h) fun k => k.elim (absurd ·.1 hl) (·.2)⟩

theorem valveRef_eq_some {n : Nat} {v : Fin 32} : valveRef n = some v ↔ n = v.val := by
  unfold valveRef
  split
  next h => simp [Fin.ext_iff]
  next h => exact ⟨nofun, fun k => absurd (by rw [k]; exact v.isLt) h⟩

theorem cancelInForce_eq_false (s : State) : cancelInForce s = false ↔ ∀ i, s.locks.effective ≠ some (.cancel, i) := by
  unfold cancelInForce
  split
  next i h => simpa using ⟨i, h⟩
  next h => simpa using h

theorem findRun_eq_none (s : State) (b : Fin 24) : findRun s b = none ↔ ∀ r ∈ s.runs, r.bed ≠ b := by
  simp [findRun]

section
variable (s : State)

/-- A demand check asks exactly when the conditions of 05 R83 hold, by the bed's own valve. -/
theorem demandValve_eq_some (b : Fin 24) (v : Fin 32) :
    demandValve s b = some v ↔ valveOf s b = some v ∧ ∃ l, s.bedLive[b] = some l ∧ Asks s b l := by
  have auto : s.beds[b].active.isAuto = true ↔ s.beds[b].active.mode = 1 := by simp [BedRec.isAuto]
  unfold demandValve
  split
  next h => simp [h]
  next w h =>
    have hw : s.beds[b].active.valve = w.val := valveRef_eq_some.1 h
    constructor
    · intro k
      split at k
      next c =>
        obtain rfl : w = v := Option.some.inj k
        simp only [Bool.and_eq_true, beq_iff_eq, bne_iff_ne, Bool.not_eq_true', Option.isNone_iff_eq_none,
          decide_eq_true_eq, windowNow, auto] at c
        obtain ⟨⟨⟨⟨⟨⟨⟨⟨hu, hm⟩, ha⟩, hf⟩, hc, hwin⟩, hk⟩, hr⟩, hl⟩, hd⟩ := c
        obtain ⟨l, hl⟩ := Option.isSome_iff_exists.1 hl
        refine ⟨h, l, hl, hu, hm, ⟨w, hw, ha, hf⟩, hc, (windowOpen_iff _ _).1 hwin, (cancelInForce_eq_false s).1 hk,
          (findRun_eq_none s b).1 hr, ?_⟩
        simpa [deficitOf, hl] using hd
      · cases k
    · rintro ⟨hv, l, hl, hu, hm, ⟨x, hx, ha, hf⟩, hc, hwin, hk, hr, hd⟩
      obtain rfl : w = v := Option.some.inj (h.symm.trans hv)
      obtain rfl : x = w := Fin.ext (hx.symm.trans hw)
      rw [if_pos]
      simp only [Bool.and_eq_true, beq_iff_eq, bne_iff_ne, Bool.not_eq_true', Option.isNone_iff_eq_none,
        decide_eq_true_eq, windowNow, auto]
      exact ⟨⟨⟨⟨⟨⟨⟨⟨hu, hm⟩, ha⟩, hf⟩, hc, (windowOpen_iff _ _).2 hwin⟩, (cancelInForce_eq_false s).2 hk⟩,
        (findRun_eq_none s b).2 hr⟩, by rw [hl]; rfl⟩, by simpa [deficitOf, hl] using hd⟩

/-- A bed that asks has a valve. -/
theorem Asks.valve {s : State} {b : Fin 24} {l : BedLive} (h : Asks s b l) : ∃ v, valveOf s b = some v := by
  obtain ⟨-, -, ⟨v, hv, -⟩, -⟩ := h
  exact ⟨v, valveRef_eq_some.2 hv⟩

theorem demandValve_isSome (b : Fin 24) : (demandValve s b).isSome = true ↔ ∃ l, s.bedLive[b] = some l ∧ Asks s b l := by
  rw [Option.isSome_iff_exists]
  constructor
  · rintro ⟨v, hv⟩
    exact ((demandValve_eq_some s b v).1 hv).2
  · rintro ⟨l, hl, ha⟩
    obtain ⟨v, hv⟩ := ha.valve
    exact ⟨v, (demandValve_eq_some s b v).2 ⟨hv, l, hl, ha⟩⟩

/-- The run asked for is sized by the deficit (05 R84). -/
theorem autoRun_asked {b : Fin 24} {v : Fin 32} {l : BedLive} (hv : valveOf s b = some v) (hl : s.bedLive[b] = some l) :
    AskedRun s b l (autoRun s b v) := by
  have hd : deficitOf s b = l.deficit := by simp [deficitOf, hl]
  refine ⟨.inl rfl, ⟨v, valveRef_eq_some.1 hv, ?_⟩, ?_⟩
  · simp [autoRun, newRun, sizedSeconds, sizedVolume, flowOf, hd]
  · simp [autoRun, newRun, sizedVolume, hd, HeldReasons.empty]

/-! ## What asking looks at -/

/-- The states agree in all that a demand check reads but the runs and the balances. -/
structure DemandView (s t : State) : Prop where
  beds : ∀ b : Fin 24, t.beds[b].active = s.beds[b].active
  flows : ∀ v : Fin 32, t.valves[v].active.flow = s.valves[v].active.flow
  modes : ModesKept s t
  faults : ∀ v : Fin 32, t.valveLive[v].state = .fault ↔ s.valveLive[v].state = .fault
  clock : t.clock = s.clock
  lock : t.locks.effective = s.locks.effective

namespace DemandView
variable {s t u : State}

theorem refl (s : State) : DemandView s s := ⟨fun _ => rfl, fun _ => rfl, .of_live rfl, fun _ => Iff.rfl, rfl, rfl⟩

/-- The bed and valve tables, the live valves, the clock and the lock are as they were. -/
theorem of_eq (beds : t.beds = s.beds) (valves : t.valves = s.valves) (live : t.valveLive = s.valveLive)
    (clock : t.clock = s.clock) (lock : t.locks.effective = s.locks.effective) : DemandView s t :=
  ⟨fun b => by rw [beds], fun v => by rw [valves], .of_live live, fun v => by rw [live], clock, lock⟩

theorem trans (h : DemandView s t) (k : DemandView t u) : DemandView s u :=
  ⟨fun b => (k.beds b).trans (h.beds b), fun v => (k.flows v).trans (h.flows v), h.modes.trans k.modes,
    fun v => (k.faults v).trans (h.faults v), k.clock.trans h.clock, k.lock.trans h.lock⟩

theorem of_granted (h : Granted s t) (w : WaterFrame s t) : DemandView s t :=
  ⟨fun b => by rw [w.beds], fun v => by rw [w.valves], h.modes, h.faults, w.clock, by rw [h.locks]⟩

/-- A bed that asks still asks while it has no run. -/
theorem asks (h : DemandView s t) {b : Fin 24} {l : BedLive} (hr : b ∉ runBeds t) (k : Asks s b l) : Asks t b l := by
  obtain ⟨hu, hm, ⟨v, hv, ha, hf⟩, hc, hw, hk, -, hd⟩ := k
  refine ⟨?_, ?_, ⟨v, ?_, ?_, ?_⟩, ?_, ?_, ?_, fun r hm hb => hr (List.mem_map.2 ⟨r, hm, hb⟩), ?_⟩
  · rwa [h.beds]
  · rwa [h.beds]
  · rwa [h.beds]
  · rw [h.modes, ha]
  · rwa [Ne, h.faults]
  · rwa [h.clock]
  · rwa [h.beds, h.clock]
  · rwa [h.lock]
  · rwa [h.beds]

theorem asked (h : DemandView s t) {b : Fin 24} {l : BedLive} {q : Run} (k : AskedRun t b l q) : AskedRun s b l q := by
  unfold AskedRun at *
  simpa only [h.beds, h.flows] using k

theorem symm (h : DemandView s t) : DemandView t s :=
  ⟨fun b => (h.beds b).symm, fun v => (h.flows v).symm, fun v => (h.modes v).symm, fun v => (h.faults v).symm, h.clock.symm,
    h.lock.symm⟩

/-- With the same beds in the queue the same beds ask. -/
theorem asks_iff (h : DemandView s t) (hr : ∀ b, b ∈ runBeds t ↔ b ∈ runBeds s) (b : Fin 24) (l : BedLive) :
    Asks t b l ↔ Asks s b l := by
  have out {u : State} (k : Asks u b l) : b ∉ runBeds u := by
    obtain ⟨-, -, -, -, -, -, hn, -⟩ := k
    intro hb
    obtain ⟨r, hm, e⟩ := List.mem_map.1 hb
    exact hn r hm e
  exact ⟨fun k => h.symm.asks (mt (hr b).2 (out k)) k, fun k => h.asks (mt (hr b).1 (out k)) k⟩

end DemandView

/-- The queue holds what demand checks make, seen from another state that looks the same to them. -/
theorem DemandsMade.view {asks asks' : Fin 24 → BedLive → Prop} {kept : List (Fin 24)} {s s' t : State}
    (h : DemandsMade asks kept s t) (asked : ∀ b l q, AskedRun s b l q → AskedRun s' b l q)
    (same : ∀ b l, asks b l ↔ asks' b l) : DemandsMade asks' kept s' t := by
  obtain ⟨added, hb, hn, hk⟩ := h
  refine ⟨added, hb, hn, fun b => ⟨(hk b).1.trans ⟨?_, ?_⟩, fun hm l hl => ?_⟩⟩
  · rintro ⟨l, hl, ha⟩
    exact ⟨l, hl, (same b l).1 ha⟩
  · rintro ⟨l, hl, ha⟩
    exact ⟨l, hl, (same b l).2 ha⟩
  · obtain ⟨q, hq, ha⟩ := (hk b).2 hm l hl
    exact ⟨q, hq, asked b l q ha⟩

/-- A run asked for stays so through grants. -/
theorem AskedRun.granted {s : State} {b : Fin 24} {l : BedLive} {q r : Run} {locked : Bool} (h : AskedRun s b l q)
    (k : RunGranted locked q r) : AskedRun s b l r := by
  obtain ⟨hst, ⟨v, hv, hp⟩, he⟩ := h
  have hheld : q.state ≠ .held := by rcases hst with e | e <;> rw [e] <;> simp
  obtain ⟨hr, hs⟩ := k.waiting hheld
  have same := k.same
  refine ⟨?_, ⟨v, hv, ?_⟩, ?_⟩
  · rcases hs with e | ⟨-, e⟩
    · rwa [e]
    · exact .inr e
  · rw [same]
    exact hp
  · rw [hr] at same
    generalize r.state = x at *
    generalize r.skips = n at *
    rw [same, he]

/-- Grants after demand checks leave what the checks made. -/
theorem DemandsMade.granted {asks : Fin 24 → BedLive → Prop} {kept : List (Fin 24)} {s t u : State}
    (h : DemandsMade asks kept s t) (k : Granted t u) : DemandsMade asks kept s u := by
  obtain ⟨added, hb, hn, hk⟩ := h
  refine ⟨added, k.beds.trans hb, hn, fun b => ?_⟩
  rw [k.bedLive]
  refine ⟨(hk b).1, fun hm l hl => ?_⟩
  obtain ⟨q, hq, ha⟩ := (hk b).2 hm l hl
  obtain ⟨r, hr, hg⟩ := k.found b q hq
  exact ⟨r, hr, ha.granted hg⟩

/-! ## The checks -/

/-- Demand checks have added runs for the beds `added`, each asked for in `s`. -/
structure Added (s : State) (added : List (Fin 24)) (t : State) : Prop where
  view : DemandView s t
  bedLive : t.bedLive = s.bedLive
  beds : runBeds t = runBeds s ++ added
  asked : ∀ b ∈ added, ∀ l, s.bedLive[b] = some l → ∃ q, findRun t b = some q ∧ AskedRun s b l q
  monitor : MonitorKept s t
  held : ∀ r' ∈ t.runs, r'.state = .held → ∃ r ∈ s.runs, r.state = .held ∧
    (r'.reasons = r.reasons ∨ r'.reasons.lock = s.locks.effective.isSome)

namespace Added
variable {s t u : State} {added : List (Fin 24)}

theorem refl (s : State) : Added s [] s :=
  ⟨.refl s, rfl, by simp, fun b h => absurd h (by simp), .refl s, fun r hr hh => ⟨r, hr, hh, .inl rfl⟩⟩

theorem granted (h : Added s added t) (k : Granted t u) (w : WaterFrame t u) : Added s added u where
  view := h.view.trans (.of_granted k w)
  bedLive := k.bedLive.trans h.bedLive
  beds := k.beds.trans h.beds
  asked b hb l hl := by
    obtain ⟨q, hq, ha⟩ := h.asked b hb l hl
    obtain ⟨r, hr, hg⟩ := k.found b q hq
    exact ⟨r, hr, ha.granted hg⟩
  monitor := h.monitor.trans k.monitor
  held r hr hh := by
    obtain ⟨q, hq, hg⟩ := k.runs r hr
    obtain ⟨hqh, he⟩ := hg.held hh
    obtain ⟨p, hp, hph, hpe⟩ := h.held q hq hqh
    refine ⟨p, hp, hph, ?_⟩
    rcases he with e | e
    · rw [e]
      exact hpe
    · rw [h.view.lock] at e
      exact .inr e

/-- One more bed asks, and its run joins the queue's tail. -/
theorem check (h : Added s added t) {b : Fin 24} (ha : ∃ l, s.bedLive[b] = some l ∧ Asks s b l) (hb : b ∉ added) :
    Added s (added ++ [b]) (demandCheck b t) := by
  obtain ⟨l, hl, hask⟩ := ha
  obtain ⟨v, hv⟩ := hask.valve
  have hrun : b ∉ runBeds t := by
    rw [h.beds, List.mem_append]
    rintro (k | k)
    · obtain ⟨r, hr, e⟩ := List.mem_map.1 k
      obtain ⟨-, -, -, -, -, -, hn, -⟩ := hask
      exact hn r hr e
    · exact hb k
  have hvt : valveOf t b = some v := by
    unfold valveOf at *
    rwa [h.view.beds]
  have hlt : t.bedLive[b] = some l := by rw [h.bedLive, hl]
  have hd : demandCheck b t = createRun (autoRun t b v) t := by
    rw [demandCheck, (demandValve_eq_some t b v).2 ⟨hvt, l, hlt, h.view.asks hrun hask⟩]
  have hnone : findRun t b = none := by
    rw [findRun_eq_none]
    exact fun r hr e => hrun (List.mem_map.2 ⟨r, hr, e⟩)
  rw [hd]
  have joined : Added s (added ++ [b]) (t.setRuns (insertRun (autoRun t b v) t.runs)) := by
    have hins : insertRun (autoRun t b v) t.runs = t.runs ++ [autoRun t b v] := rfl
    rw [hins]
    refine ⟨h.view.trans (.of_eq rfl rfl rfl rfl rfl), h.bedLive, ?_, fun c hc m hm => ?_, h.monitor.trans (.of_monitor rfl rfl), fun r hr hh => ?_⟩
    · show (t.runs ++ [autoRun t b v]).map (·.bed) = _
      rw [List.map_append, ← List.append_assoc, ← h.beds]
      rfl
    · rcases List.mem_append.1 hc with k | k
      · obtain ⟨q, hq, hasked⟩ := h.asked c k m hm
        refine ⟨q, ?_, hasked⟩
        unfold findRun at hq ⊢
        rw [State.setRuns_runs, List.find?_append, hq]
        rfl
      · obtain rfl : c = b := by simpa using k
        refine ⟨autoRun t c v, ?_, ?_⟩
        · unfold findRun at hnone ⊢
          rw [State.setRuns_runs, List.find?_append, hnone]
          simp [autoRun, newRun]
        · rw [hl] at hm
          cases hm
          exact h.view.asked (autoRun_asked t hvt hlt)
    · rcases List.mem_append.1 hr with k | k
      · exact h.held r k hh
      · obtain rfl := List.mem_singleton.1 k
        cases hh
  exact joined.granted (pass_granted _) (pass_frame _)

theorem demandsMade (h : Added s added t) (hn : added.Nodup) {asks : Fin 24 → BedLive → Prop}
    (ha : ∀ b, b ∈ added ↔ ∃ l, s.bedLive[b] = some l ∧ asks b l) : DemandsMade asks (runBeds s) s t := by
  refine ⟨added, h.beds, hn, fun b => ?_⟩
  rw [h.bedLive]
  exact ⟨ha b, h.asked b⟩

end Added

/-- The demand checks of all used beds add one run for each bed that asks (05 R81, R85). -/
theorem demandAll_added : ∃ added : List (Fin 24), Added s added (demandAll s) ∧ added.Nodup ∧
    ∀ b, b ∈ added ↔ ∃ l, s.bedLive[b] = some l ∧ Asks s b l := by
  have hnodup : ((usedBeds s).filter fun b => (demandValve s b).isSome).Nodup :=
    ((List.nodup_finRange 24).filter _).filter _
  have hmem (b : Fin 24) : b ∈ (usedBeds s).filter (fun b => (demandValve s b).isSome) ↔
      ∃ l, s.bedLive[b] = some l ∧ Asks s b l := by
    rw [List.mem_filter, demandValve_isSome]
    refine ⟨And.right, fun h => ⟨?_, h⟩⟩
    obtain ⟨l, -, hu, -⟩ := h
    exact List.mem_filter.2 ⟨List.mem_finRange b, hu⟩
  obtain ⟨order, hperm, hadded⟩ := inAnyOrder_induction (next := Config.nextBed) (f := demandCheck)
    (P := fun done t => done.Nodup → (∀ b ∈ done, ∃ l, s.bedLive[b] = some l ∧ Asks s b l) → Added s done t)
    (by
      intro done t n h hn ha
      have k := h hn ha
      exact ⟨k.view.trans ⟨fun _ => rfl, fun _ => rfl, .of_live rfl, fun _ => Iff.rfl, rfl, rfl⟩, k.bedLive, k.beds, k.asked,
        k.monitor.trans (.of_monitor rfl rfl), k.held⟩)
    (by
      intro done b t h hn ha
      obtain ⟨hd, -, hdis⟩ := List.nodup_append.1 hn
      exact (h hd fun c hc => ha c (List.mem_append_left _ hc)).check (ha b (by simp)) fun k => hdis b k b (by simp) rfl)
    ((usedBeds s).filter fun b => (demandValve s b).isSome).length ((usedBeds s).filter fun b => (demandValve s b).isSome) [] s
    (Nat.le_refl _) (fun _ _ => .refl s)
  refine ⟨order, hadded (hperm.nodup_iff.2 hnodup) fun b hb => (hmem b).1 (hperm.mem_iff.1 hb), hperm.nodup_iff.2 hnodup,
    fun b => hperm.mem_iff.trans (hmem b)⟩

/-- The demand check of one bed (05 R83). -/
theorem demandCheck_added (b : Fin 24) : ∃ added : List (Fin 24), Added s added (demandCheck b s) ∧ added.Nodup ∧
    ∀ c, c ∈ added ↔ ∃ l, s.bedLive[c] = some l ∧ (c = b ∧ Asks s b l) := by
  by_cases h : ∃ l, s.bedLive[b] = some l ∧ Asks s b l
  · refine ⟨[b], (Added.refl s).check h (by simp), by simp, fun c => ?_⟩
    rw [List.mem_singleton]
    constructor
    · rintro rfl
      obtain ⟨l, hl, ha⟩ := h
      exact ⟨l, hl, rfl, ha⟩
    · rintro ⟨-, -, e, -⟩
      exact e
  · have hd : demandCheck b s = s := by
      rw [demandCheck]
      split
      · rfl
      next v hv => exact absurd ((demandValve_eq_some s b v).1 hv).2 h
    rw [hd]
    refine ⟨[], .refl s, by simp, fun c => ⟨fun k => absurd k (by simp), ?_⟩⟩
    rintro ⟨l, hl, rfl, ha⟩
    exact absurd ⟨l, hl, ha⟩ h

end

end Sys2Proof.Machine
end

section
/-! SUPPORT. The effective lock recomputed: what an onset leaves of the runs, what the lock's end releases and asks for, and that
the end of the step keeps it so (08 R148 to R150). -/

namespace Sys2Proof.Machine

section
variable {s : State}

/-! ## No grant while a pass is closed -/

theorem pass_closed (h : passOpen s = false) : pass s = s := by
  have hg : grantPass s = s := by simp [grantPass, h]
  simp [pass, hg]

theorem passOpen_locked (h : s.locks.effective ≠ none) : passOpen s = false := by
  have : s.locks.effective.isNone = false := by rw [Option.isNone_eq_false_iff, Option.isSome_iff_ne_none]; exact h
  simp [passOpen, this]

/-- Where a pass is closed, the end of a step with no entry SWAP_DUE drops what is owed and judges MV. -/
theorem settle_closed (hd : NoSwapDue s) (hs : s.seq.state ≠ .stopping) (hp : passOpen s = false) :
    settle s = judgeMv (s.setWork { pass := false, free := false, sweep := false, stop := false, mark := false }) := by
  have h : ∃ w, settleTurns 1024 s = s.setWork w := by
    refine settleTurns_induction (P := fun t => ∃ w, t = s.setWork w) ?_ ?_ ?_ 1024 hd ⟨s.work, rfl⟩
    · rintro _ - ⟨w, rfl⟩
      exact ⟨_, examineStop_idle hs⟩
    · rintro _ - ⟨w, rfl⟩
      exact ⟨w, pass_closed hp⟩
    · rintro _ w ⟨_, rfl⟩
      exact ⟨w, rfl⟩
  obtain ⟨w, hw⟩ := h
  simp only [settle, hw]
  rfl

/-- What follows the Lock Unit's work in a step: grants, and none while a lock is in force. -/
structure LockLater (s t : State) : Prop where
  granted : Granted s t
  locked : s.locks.effective ≠ none → t.runs = s.runs
  lockRecs : t.lockRecs = s.lockRecs
  flags : ∀ f, s.notice.isSet f = true → t.notice.isSet f = true

theorem LockLater.trans {t u : State} (h : LockLater s t) (k : LockLater t u) : LockLater s u :=
  ⟨h.granted.trans k.granted, fun e => (k.locked (by rw [h.granted.locks]; exact e)).trans (h.locked e),
    k.lockRecs.trans h.lockRecs, fun f hf => k.flags f (h.flags f hf)⟩

variable (s)

theorem pass_later : LockLater s (pass s) :=
  ⟨pass_granted s, fun h => by rw [pass_closed (passOpen_locked h)], (pass_frame s).lockRecs, (pass_frame s).flags⟩

theorem setFlag_later (f : Flag) : LockLater s (setFlag f s) :=
  ⟨.of_eq rfl rfl rfl rfl (.of_monitor rfl rfl), fun _ => rfl, rfl, (setFlag_frame s f).flags⟩

variable {s} in
theorem settle_later (hd : NoSwapDue s) (hs : s.seq.state ≠ .stopping) : LockLater s (settle s) := by
  refine ⟨settle_granted hd hs, fun h => ?_, ?_, (settle_settle s).flags⟩
  · rw [settle_closed hd hs (passOpen_locked h)]
    rfl
  · obtain ⟨t, ht, e⟩ := settle_water hd hs
    rw [e]
    exact ht.lockRecs

/-! ## Runs while a lock is in force -/

/-- While a lock is in force no run is added and none goes ON. -/
structure LockShut (s t : State) : Prop where
  locks : t.locks = s.locks
  on : s.locks.effective ≠ none → OnFrom s t

namespace LockShut
variable {s t u : State}

theorem trans (h : LockShut s t) (k : LockShut t u) : LockShut s u :=
  ⟨k.locks.trans h.locks, fun e => (h.on e).trans (k.on (by rw [h.locks]; exact e))⟩

theorem of_runs (locks : t.locks = s.locks) (runs : t.runs = s.runs) : LockShut s t := ⟨locks, fun _ => .of_runs runs⟩

theorem refl (s : State) : LockShut s s := of_runs rfl rfl

theorem foldl {α : Type} {f : State → α → State} (hf : ∀ s a, LockShut s (f s a)) (as : List α) (s : State) :
    LockShut s (as.foldl f s) := by
  induction as generalizing s with
  | nil => exact refl s
  | cons a as ih => exact (hf s a).trans (ih (f s a))

theorem of_water (h : WaterFrame s t) (runs : t.runs = s.runs) : LockShut s t := of_runs h.locks runs

end LockShut

/-- A record put in place of one found, in its state or not ON. -/
theorem putRun_shut {r q : Run} (hr : findRun s q.bed = some r) (h : q.state = .on → r.state = .on) :
    LockShut s (putRun s q) := by
  refine ⟨rfl, fun _ p hp ho => ?_⟩
  rcases mem_putRun s hp with rfl | ⟨hm, -⟩
  · exact ⟨r, (findRun_mem s hr).1, (findRun_mem s hr).2, h ho⟩
  · exact ⟨p, hm, rfl, ho⟩

/-- A release check takes no run ON. -/
theorem releaseCheck_on (b : Fin 24) : OnFrom s (releaseCheck b s) := by
  rcases releaseCheck_cases s b with e | ⟨r, f, q, hr, -, hq, e⟩
  · rw [e]
    exact .refl s
  · rw [e]
    intro p hp ho
    rcases mem_putRun s hp with rfl | ⟨hm, -⟩
    · rcases hq with rfl | rfl <;> cases ho
    · exact ⟨p, hm, rfl, ho⟩

theorem writeValve_shut (v : Fin 32) (l : ValveLive) : LockShut s (writeValve v l s) := by
  refine ⟨(writeValve_frame s v l).locks, fun _ => ?_⟩
  rcases writeValve_runs s v l with e | ⟨b, u, -, hu, e⟩
  · exact .of_runs e
  · exact (OnFrom.of_runs hu).trans ((releaseCheck_on u b).trans (.of_runs e))

theorem valveStop_shut (v : Fin 32) : LockShut s (valveStop v s) := by
  have closed (l : ValveLive) : LockShut s (writeValve v l (closeRequest v s)) :=
    (LockShut.of_water (closeRequest_frame s v) (closeRequest_runs s v)).trans (writeValve_shut _ v l)
  simp only [valveStop]
  split
  · split <;> exact closed _
  · exact closed _
  all_goals exact writeValve_shut s v _

theorem pass_shut : LockShut s (pass s) :=
  ⟨(pass_frame s).locks, fun h => by rw [pass_closed (passOpen_locked h)]; exact .refl s⟩

theorem waterCredit_shut (b : Fin 24) (secs flow : Nat) : LockShut s (waterCredit b secs flow s) :=
  .of_water (waterCredit_frame s b secs flow) (waterCredit_runs s b secs flow)

theorem endPulse_shut (b : Fin 24) (stop : Bool) : LockShut s (endPulse b stop s) := by
  simp only [endPulse]
  split
  · exact .refl s
  next r h =>
    have put (q : Run) (hq : q.bed = r.bed ∧ q.state = r.state) : LockShut s (putRun s q) :=
      putRun_shut s (r := r) (by rw [hq.1, (findRun_mem s h).2, h]) fun ho => hq.2.symm.trans ho
    split
    · refine put _ ?_
      exact ⟨r.applyPlan_bed, r.applyPlan_held.1⟩
    · split
      · refine ((put _ ?_).trans (waterCredit_shut _ _ _ _)).trans (valveStop_shut _ _)
        exact ⟨r.applyPlan_bed, r.applyPlan_held.1⟩
      · refine (put _ ?_).trans (waterCredit_shut _ _ _ _)
        exact ⟨r.applyPlan_bed, r.applyPlan_held.1⟩

theorem takeOut_shut (b : Fin 24) (r : Run) : LockShut s (takeOut b r s) := by
  refine ⟨(takeOut_frame s b r).locks, fun _ p hp ho => ?_⟩
  rw [takeOut_runs] at hp
  exact ⟨p, (List.mem_filter.1 hp).1, rfl, ho⟩

theorem dropRun_shut (b : Fin 24) : LockShut s (dropRun b s) := by
  unfold dropRun
  split
  · exact .refl s
  · exact (takeOut_shut s b _).trans (pass_shut _)

theorem removeRun_shut (b : Fin 24) : LockShut s (removeRun b s) := by
  unfold removeRun
  split
  · exact .refl s
  · split
    · exact (endPulse_shut s b true).trans (dropRun_shut _ b)
    · exact dropRun_shut s b

theorem earlyEnd_shut (b : Fin 24) (x : HeldReasons) (stop : Bool) : LockShut s (earlyEnd b x stop s) := by
  have ended : LockShut s (endEarly b x stop s) := by
    simp only [endEarly]
    split
    · exact endPulse_shut s b stop
    next r h =>
      split
      · exact (endPulse_shut s b stop).trans (takeOut_shut _ b r)
      · refine (endPulse_shut s b stop).trans ((putRun_shut _ (r := r) (q := { r with state := .held, reasons := x }) ?_
          nofun).trans (.of_runs rfl rfl))
        show findRun _ r.bed = some r
        rw [(findRun_mem _ h).2, h]
  unfold earlyEnd
  split
  · exact ended.trans (pass_shut _)
  · exact .refl s

/-! ## An onset -/

variable {s}

/-- A dropped run leaves, and no other does, while a lock is in force. -/
theorem dropRun_runs (b : Fin 24) (he : s.locks.effective ≠ none) : (dropRun b s).runs = s.runs.filter fun q => q.bed != b := by
  unfold dropRun
  split
  next h =>
    refine (List.filter_eq_self.2 fun q hq => ?_).symm
    simpa using findRun_none s h q hq
  next r h =>
    have hl : (takeOut b r s).locks.effective ≠ none := by rw [(takeOut_frame s b r).locks]; exact he
    rw [pass_closed (passOpen_locked hl), takeOut_runs]

/-- After its removal a bed has no run. -/
theorem removeRun_gone (b : Fin 24) (he : s.locks.effective ≠ none) (q : Run) (hq : q ∈ (removeRun b s).runs) : q.bed ≠ b := by
  have dropped {t : State} (ht : t.locks.effective ≠ none) (h : q ∈ (dropRun b t).runs) : q.bed ≠ b := by
    rw [dropRun_runs b ht, List.mem_filter] at h
    simpa using h.2
  unfold removeRun at hq
  split at hq
  next h => exact findRun_none s h q hq
  · split at hq
    · exact dropped (by rw [(endPulse_frame s b true).locks]; exact he) hq
    · exact dropped he hq

/-- Early ends over beds leave none of them ON while a lock is in force. -/
theorem foldl_off {f : Fin 24 → State → State} (shut : ∀ b t, LockShut t (f b t))
    (off : ∀ b t, t.locks.effective ≠ none → ∀ q ∈ (f b t).runs, q.state = .on → q.bed ≠ b) (bs : List (Fin 24))
    (he : s.locks.effective ≠ none) : ∀ q ∈ (bs.foldl (fun t b => f b t) s).runs, q.state = .on → q.bed ∉ bs := by
  induction bs generalizing s with
  | nil => intros; simp
  | cons b bs ih =>
    intro q hq ho
    have hl : (f b s).locks.effective ≠ none := by rw [(shut b s).locks]; exact he
    have rest : LockShut (f b s) (bs.foldl (fun t b => f b t) (f b s)) := .foldl (fun t b => shut b t) bs _
    obtain ⟨r, hr, hb, hro⟩ := rest.on hl q hq ho
    exact List.not_mem_cons_of_ne_of_not_mem (by rw [← hb]; exact off b s he r hr hro) (ih hl q hq ho)

/-- Drops over beds leave the runs of the others, while a lock is in force. -/
theorem foldl_dropped (bs : List (Fin 24)) (he : s.locks.effective ≠ none) (q : Run)
    (hq : q ∈ (bs.foldl (fun t b => dropRun b t) s).runs) : q ∈ s.runs ∧ q.bed ∉ bs := by
  induction bs generalizing s with
  | nil => exact ⟨hq, by simp⟩
  | cons b bs ih =>
    obtain ⟨h1, h2⟩ := ih (by rw [(dropRun_frame s b).locks]; exact he) hq
    rw [dropRun_runs b he, List.mem_filter] at h1
    exact ⟨h1.1, List.not_mem_cons_of_ne_of_not_mem (by simpa using h1.2) h2⟩

/-- How an onset of IMMEDIATE ends the pulse of a bed (08 R149). -/
def onsetEnds (m : LockMode) (b : Fin 24) (s : State) : State :=
  if m = .cancel then removeRun b s else earlyEnd b .onlyLock true s

theorem onsetEnds_shut (m : LockMode) (b : Fin 24) (t : State) : LockShut t (onsetEnds m b t) := by
  unfold onsetEnds
  split
  · exact removeRun_shut t b
  · exact earlyEnd_shut t b _ _

theorem onsetEnds_off (m : LockMode) (b : Fin 24) (t : State) (ht : t.locks.effective ≠ none) (q : Run)
    (hq : q ∈ (onsetEnds m b t).runs) (ho : q.state = .on) : q.bed ≠ b := by
  unfold onsetEnds at hq
  split at hq
  · exact removeRun_gone b ht q hq
  · exact fun hb => (earlyEnd_off t b _ _ q hq hb).1 ho

/-- An onset of IMMEDIATE leaves no run ON, one of CANCEL none but ON runs (08 R149). -/
theorem lockOnset_runs {m : LockMode} {i : LockTiming} (he : s.locks.effective ≠ none) :
    (i = .immediate → ∀ q ∈ (lockOnset m i s).runs, q.state ≠ .on) ∧
    (m = .cancel → ∀ q ∈ (lockOnset m i s).runs, q.state = .on) := by
  have ended (hi : i = .immediate) : ∀ q ∈ ((bedsOn s).foldl (fun t b => onsetEnds m b t) s).runs, q.state ≠ .on := by
    intro q hq ho
    have shutAll : LockShut s ((bedsOn s).foldl (fun t b => onsetEnds m b t) s) := .foldl (fun t b => onsetEnds_shut m b t) _ s
    obtain ⟨r, hr, hb, hro⟩ := shutAll.on he q hq ho
    refine foldl_off (onsetEnds_shut m) (onsetEnds_off m) (bedsOn s) he q hq ho ?_
    rw [← hb]
    exact List.mem_map_of_mem (List.mem_filter.2 ⟨hr, by simp [hro]⟩)
  have waiting (u : State) (hu : u.locks.effective ≠ none) (q : Run)
      (hq : q ∈ ((bedsWaiting u).foldl (fun t b => dropRun b t) u).runs) : q ∈ u.runs ∧ q.state = .on := by
    obtain ⟨h1, h2⟩ := foldl_dropped _ hu q hq
    refine ⟨h1, ?_⟩
    by_contra hn
    exact h2 (List.mem_map_of_mem (List.mem_filter.2 ⟨h1, by simpa using hn⟩))
  have locked (bs : List (Fin 24)) : (bs.foldl (fun t b => onsetEnds m b t) s).locks.effective ≠ none := by
    have : LockShut s (bs.foldl (fun t b => onsetEnds m b t) s) := .foldl (fun t b => onsetEnds_shut m b t) bs s
    rw [this.locks]
    exact he
  by_cases hi : i = .immediate <;> by_cases hm : m = .cancel
  · have e : lockOnset m i s = (bedsWaiting ((bedsOn s).foldl (fun t b => onsetEnds m b t) s)).foldl (fun u b => dropRun b u)
        ((bedsOn s).foldl (fun t b => onsetEnds m b t) s) := by
      simp only [lockOnset, if_pos hi, if_pos hm, onsetEnds]
    rw [e]
    exact ⟨fun _ q hq => ended hi q (waiting _ (locked _) q hq).1, fun _ q hq => (waiting _ (locked _) q hq).2⟩
  · have e : lockOnset m i s = (bedsOn s).foldl (fun t b => onsetEnds m b t) s := by
      simp only [lockOnset, if_pos hi, if_neg hm, onsetEnds]
    rw [e]
    exact ⟨fun _ => ended hi, fun h => absurd h hm⟩
  · have e : lockOnset m i s = (bedsWaiting s).foldl (fun u b => dropRun b u) s := by
      simp only [lockOnset, if_neg hi, if_pos hm]
    rw [e]
    exact ⟨fun h => absurd h hi, fun _ q hq => (waiting s he q hq).2⟩
  · exact ⟨fun h => absurd h hi, fun h => absurd h hm⟩

/-! ## The lock leaves force -/

theorem releaseAll_granted (s : State) : Granted s (releaseAll s) := by
  have all (bs : List (Fin 24)) (t : State) : Granted t (bs.foldl (fun u b => releaseCheck b u) t) := by
    induction bs generalizing t with
    | nil => exact .refl t
    | cons b bs ih => exact (releaseCheck_granted t b).trans (ih _)
  exact all _ s

/-- With no lock left no run stays HELD for LOCK, and every used bed's demand is met (08 R150). -/
theorem lockLeaves_facts (hq : QueueLaw s) (he : s.locks.effective = none) :
    (∀ r ∈ (lockLeaves s).runs, r.state = .held → r.reasons.lock = false) ∧
    DemandsMade (Asks s) (runBeds s) s (lockLeaves s) := by
  have granted := (releaseAll_granted s).trans (grantPass_granted _)
  have frame := (releaseAll_frame s).trans (grantPass_frame _)
  have before := releaseAll_reasons s hq
  obtain ⟨added, hadd, hn, hmem⟩ := demandAll_added (grantPass (releaseAll s))
  have made := hadd.demandsMade hn hmem
  have view : DemandView s (grantPass (releaseAll s)) := .of_granted granted frame
  rw [granted.beds] at made
  refine ⟨fun r hr hh => ?_, made.view (fun _ _ _ => view.asked) fun b l => view.asks_iff (fun c => by rw [granted.beds]) b l⟩
  have none_locked (t : State) (ht : t.locks = s.locks) : t.locks.effective.isSome = false := by rw [ht, he]; rfl
  obtain ⟨q, hqm, hqh, hqr⟩ := hadd.held r hr hh
  rcases hqr with e | e
  · rw [e]
    obtain ⟨p, hp, hg⟩ := (grantPass_granted (releaseAll s)).runs q hqm
    obtain ⟨hph, hpr⟩ := hg.held hqh
    rcases hpr with f | f
    · rw [f, (before p hp hph).2, he]
      rfl
    · rw [f, none_locked _ (releaseAll_frame s).locks]
  · rw [e, none_locked _ granted.locks]

/-! ## The effective lock recomputed -/

theorem lockRises_self (e : Option (LockMode × LockTiming)) : lockRises e e = false := by
  rcases e with - | ⟨m, i⟩
  · rfl
  · cases m <;> cases i <;> rfl

theorem termsInForce_congr {s t : State} (cond : t.locks.cond = s.locks.cond) (recs : t.lockRecs = s.lockRecs) :
    termsInForce t = termsInForce s := by
  have hx (x : Source) : sourceTerms t x = sourceTerms s x := by cases x <;> simp only [sourceTerms, recs]
  simp only [termsInForce, cond, hx]

/-- The new effective lock handed on, its flag set (08 R148). -/
def relocked (s : State) : State :=
  setFlag .lockChange (s.setLocks { s.locks with effective := composeLock (termsInForce s) })

theorem recomputeLock_same (h : composeLock (termsInForce s) = s.locks.effective) : recomputeLock s = s := if_pos h

theorem recomputeLock_left (h : composeLock (termsInForce s) ≠ s.locks.effective) (hn : composeLock (termsInForce s) = none) :
    recomputeLock s = lockLeaves (relocked s) := by
  rw [hn] at h
  simp only [recomputeLock, if_neg h, relocked, hn]

theorem recomputeLock_risen (h : composeLock (termsInForce s) ≠ s.locks.effective) {m : LockMode} {i : LockTiming}
    (hs : composeLock (termsInForce s) = some (m, i)) (hr : lockRises s.locks.effective (some (m, i)) = true) :
    recomputeLock s = lockOnset m i (relocked s) := by
  rw [hs] at h
  simp only [recomputeLock, if_neg h, relocked, hs, if_pos hr]

theorem recomputeLock_eased (h : composeLock (termsInForce s) ≠ s.locks.effective) {m : LockMode} {i : LockTiming}
    (hs : composeLock (termsInForce s) = some (m, i)) (hr : lockRises s.locks.effective (some (m, i)) = false) :
    recomputeLock s = relocked s := by
  rw [hs] at h
  simp only [recomputeLock, if_neg h, relocked, hs, hr, if_neg Bool.false_ne_true]

theorem lockLeaves_frame_relocked (s : State) : WaterFrame s (lockLeaves s) :=
  ((releaseAll_frame s).trans (grantPass_frame _)).trans (demandAll_frame _)

/-- The effective lock stands as composed, and nothing else of the Lock Unit moves; a change has set LOCK_CHANGE. -/
theorem recomputeLock_locks (s : State) :
    (recomputeLock s).locks = { s.locks with effective := composeLock (termsInForce s) } ∧
    (composeLock (termsInForce s) ≠ s.locks.effective → (recomputeLock s).notice.isSet .lockChange = true) := by
  by_cases h : composeLock (termsInForce s) = s.locks.effective
  · rw [recomputeLock_same h, h]
    exact ⟨rfl, fun k => absurd rfl k⟩
  · have hflag : (relocked s).notice.isSet .lockChange = true := by simp [relocked, setFlag, NoticeUnit.isSet_raise]
    have of_water {t : State} (k : WaterFrame (relocked s) t) :
        t.locks = { s.locks with effective := composeLock (termsInForce s) } ∧
        (composeLock (termsInForce s) ≠ s.locks.effective → t.notice.isSet .lockChange = true) :=
      ⟨k.locks, fun _ => k.flags _ hflag⟩
    cases hn : composeLock (termsInForce s) with
    | none =>
      rw [recomputeLock_left h hn, ← hn]
      exact of_water (lockLeaves_frame_relocked _)
    | some e =>
      obtain ⟨m, i⟩ := e
      rw [← hn]
      cases hr : lockRises s.locks.effective (some (m, i)) with
      | true =>
        rw [recomputeLock_risen h hn hr]
        exact of_water (lockOnset_frame _ _ _)
      | false =>
        rw [recomputeLock_eased h hn hr]
        exact of_water (.refl _)

/-- The Lock Unit's work on a recomputed lock, and what follows in the step (08 R148 to R150). -/
theorem recomputeLock_moved (hq : QueueLaw s) {t : State} (later : LockLater (recomputeLock s) t) : LockMoved s t := by
  obtain ⟨hlocks, hflag⟩ := recomputeLock_locks s
  have hl : t.locks = { s.locks with effective := composeLock (termsInForce s) } := later.granted.locks.trans hlocks
  have heff : t.locks.effective = composeLock (termsInForce s) := by rw [hl]
  have hcompose : composeLock (termsInForce t) = composeLock (termsInForce s) := by
    rw [termsInForce_congr (by rw [hl]) (later.lockRecs.trans (recomputeLock_field s).lockRecs)]
  refine ⟨heff.trans hcompose.symm, fun h => later.flags _ (hflag (by rwa [← heff])), fun m i hs hr => ?_, fun h hn hr => ?_,
    fun h hn => ?_⟩
  all_goals rw [heff] at *
  · have hne : composeLock (termsInForce s) ≠ s.locks.effective := by
      intro e
      rw [← hs, e, lockRises_self] at hr
      cases hr
    have hon : (relocked s).locks.effective ≠ none := by
      show composeLock (termsInForce s) ≠ none
      rw [hs]
      simp
    obtain ⟨himm, hcan⟩ := lockOnset_runs (m := m) (i := i) hon
    have hruns : t.runs = (lockOnset m i (relocked s)).runs := by
      rw [later.locked (by rw [hlocks]; exact hon), recomputeLock_risen hne hs hr]
    rw [bedsOn_eq_nil_iff, hruns]
    exact ⟨himm, hcan⟩
  · obtain ⟨⟨m, i⟩, hs⟩ := Option.ne_none_iff_exists'.1 hn
    rw [hs] at hr
    rw [later.locked (by rw [hlocks]; exact hn), recomputeLock_eased h hs hr]
    rfl
  · have hne : composeLock (termsInForce s) ≠ s.locks.effective := fun e => h (by rw [← e, hn])
    obtain ⟨hheld, hmade⟩ := lockLeaves_facts (s := relocked s) hq hn
    have granted := later.granted
    rw [recomputeLock_left hne hn] at granted
    refine ⟨fun r hr hh => ?_, ?_⟩
    · obtain ⟨p, hp, hg⟩ := granted.runs r hr
      obtain ⟨hph, hpr⟩ := hg.held hh
      rcases hpr with f | f
      · rw [f]
        exact hheld p hp hph
      · rw [f, (lockLeaves_frame_relocked _).locks]
        show (composeLock (termsInForce s)).isSome = false
        rw [hn]
        rfl
    · rw [hl]
      exact (hmade.granted granted).view (fun _ _ _ k => k) fun _ _ => Iff.rfl

/-- The lock's move seen from a state that differs in what the lock does not read. -/
theorem LockMoved.view {a t : State} (h : LockMoved a t) (lock : a.locks.effective = s.locks.effective) (runs : a.runs = s.runs)
    (beds : a.beds = s.beds) (valves : a.valves = s.valves) (live : a.valveLive = s.valveLive) (clock : a.clock = s.clock) :
    LockMoved s t := by
  have view : DemandView { s with locks := t.locks } { a with locks := t.locks } := .of_eq beds valves live clock rfl
  obtain ⟨h1, h2, h3, h4, h5⟩ := h
  rw [lock] at h2 h3 h4 h5
  rw [runs] at h4
  have beds : s.runs.map (·.bed) = a.runs.map (·.bed) := by rw [runs]
  refine ⟨h1, h2, h3, h4, fun hs ht => ⟨(h5 hs ht).1, ?_⟩⟩
  rw [beds]
  exact (h5 hs ht).2.view (fun _ _ _ k => view.asked (s := { s with locks := t.locks }) k)
    fun b l => view.asks_iff (fun c => by simp only [runBeds, runs]) b l

end

end Sys2Proof.Machine
end

section
/-! SUPPORT. UPDATE of one pending entry whose condition holds: it swaps in the first sweep, and nothing stays SWAP_DUE (10 R169,
R173, R175, R176). -/

namespace Sys2Proof.Machine

/-- The state in which an accepted UPDATE of the one entry `x` begins its first sweep. -/
def swapBase (x : Slot) (s : State) : State := oweSweep (markDue x s)

section
variable (x : Slot) (s : State)

/-- The marker does not show in the swap. -/
theorem activate_markDue : activate x (markDue x s) = activate x s := by
  cases x <;> simp [activate, markDue, onSlot, Entry.swap, Entry.mark]

/-- Becoming SWAP_DUE moves the entry's marker alone: another entry stands through either swap. -/
theorem markDue_slot (z : Slot) : slotDue (markDue x s) z = (decide (z = x) || slotDue s z) ∧
    pendingBytes (markDue x s) z = pendingBytes s z ∧ activeBytes (markDue x s) z = activeBytes s z := by
  by_cases h : z = x
  · subst h
    cases z <;> simp [slotDue, pendingBytes, activeBytes, markDue, onSlot, Entry.mark]
  · have marked := activate_other (markDue x s) h
    rw [activate_markDue] at marked
    have plain := activate_other s h
    simp only [h, decide_false, Bool.false_or]
    exact ⟨marked.due.symm.trans plain.due, marked.pending.symm.trans plain.pending, marked.active.symm.trans plain.active⟩

variable {x s}

theorem swapBase_due (h : NoSwapDue s) (z : Slot) : slotDue (swapBase x s) z = decide (z = x) := by
  show slotDue (markDue x s) z = _
  rw [(markDue_slot x s z).1, h z, Bool.or_false]

/-- The entry that UPDATE took is the head. -/
theorem swapBase_head (h : NoSwapDue s) : headDue (swapBase x s) = some x := by
  cases hf : headDue (swapBase x s) with
  | none =>
    have := List.find?_eq_none.1 hf x (mem_allSlots x)
    rw [swapBase_due h] at this
    simp at this
  | some y =>
    have := List.find?_some hf
    rw [swapBase_due h] at this
    rw [of_decide_eq_true this]

theorem swapBase_ready (hr : slotReady s x = true) : slotReady (swapBase x s) x = true := by
  rw [← hr]
  cases x <;> simp [slotReady, swapBase, oweSweep, markDue, onSlot, findRun, someValveMoving]

/-- Once the entry has swapped, nothing is SWAP_DUE. -/
theorem swapped_noSwapDue (h : NoSwapDue s) : NoSwapDue (swapSlot x (swapBase x s)) := by
  intro z
  by_cases hz : z = x
  · rw [hz]
    exact (swapSlot_self _ x).due
  · rw [(swapSlot_other _ hz).due, swapBase_due h]
    exact decide_eq_false hz

/-- The swap is its effects and UPDATE_DONE (10 R176). -/
theorem swapSlot_swapBase (h : NoSwapDue s) :
    swapSlot x (swapBase x s) = setFlag .updateDone (swapEffects x (swapBase x s)) := by
  have hd : NoSwapDue (swapEffects x (swapBase x s)) := by
    intro z
    rw [← swapped_noSwapDue (x := x) h z]
    simp only [swapSlot]
    split
    · cases z <;> rfl
    · rfl
  simp only [swapSlot, headDue_none hd, Option.isNone_none, if_true]

theorem firstSweep_swapBase (h : NoSwapDue s) (hr : slotReady s x = true) :
    firstSweep 145 (swapBase x s) = swapSlot x (swapBase x s) := by
  have hx : readyHead (swapBase x s) = some x := by
    simp only [readyHead, swapBase_head h, swapBase_ready hr, if_true]
  rw [firstSweep, hx]
  show firstSweep 144 _ = _
  rw [firstSweep, readyHead_none (swapped_noSwapDue h)]

end

/-- The request that swaps one entry, and what it is answered with. -/
theorem update_swaps {code : Byte} {xs : List Slot} {x : Slot} {s : State} (ht : Takes 0x03 [code] s) (hd : NoSwapDue s)
    (hn : namedSlots code.toNat = some xs) (hf : xs.filter (slotPending s) = [x]) (hc : firstFailure [x] s = none)
    (hr : slotReady s x = true) : ∃ p : HubPort, (∀ g, p.htx ≠ .answer g) ∧
      exec (.update [code]) s = .next (answerRuling 0x03
        { state := swapSlot x (swapBase x (s.setHub p)), result := .ok, body := fun _ => [1, 0] }) := by
  obtain ⟨p, hp, he⟩ := takeRequest_ruled (lengths := fun n => n == 1) (rule := updateRule) ht rfl
  refine ⟨p, hp, congrArg _ (he.trans (congrArg _ ?_))⟩
  have hd' : NoSwapDue (s.setHub p) := hd
  have hf' : xs.filter (slotPending (s.setHub p)) = [x] := by
    have : slotPending (s.setHub p) = slotPending s := by funext z; cases z <;> rfl
    rw [this, hf]
  have hc' : firstFailure [x] (s.setHub p) = none := by
    have hx : activate x (s.setHub p) = (activate x s).setHub p := by cases x <;> rfl
    have hk : crossChecks (activate x (s.setHub p)) = crossChecks (activate x s) := by rw [hx]; rfl
    simp only [firstFailure, hk] at hc ⊢
    exact hc
  have hr' : slotReady (s.setHub p) x = true := by rw [← hr]; cases x <;> rfl
  have hcount : dueCount (swapSlot x (swapBase x (s.setHub p))) = 0 := by
    have hd'' := swapped_noSwapDue (x := x) hd'
    simp only [dueCount, List.length_eq_zero_iff, List.filter_eq_nil_iff]
    intro z _
    rw [hd'' z]
    simp
  simp only [updateRule, get1_cons_zero, hn, headDue_none hd', Option.isSome_none, Bool.false_eq_true, if_false, hf', hc',
    List.isEmpty_cons]
  have hsweep : firstSweep 145 (oweSweep (markAll [x] (s.setHub p))) = swapSlot x (swapBase x (s.setHub p)) :=
    firstSweep_swapBase hd' hr'
  rw [hsweep, hcount]
  rfl

end Sys2Proof.Machine
end

section
/-! SUPPORT. The step of an UPDATE that swaps one entry: what the end of the step does after the swap, and what every table's swap
has in common (10 R173 to R176). -/

namespace Sys2Proof.Machine

/-- The step's end leads from the state `e` after a swap to `t`: UPDATE_DONE, what is owed, MV and the answer. -/
structure SwapEnd (e t : State) : Prop where
  later : LockLater e t
  water : WaterFrame { e with mv := t.mv, hub := t.hub } t
  done : t.notice.isSet .updateDone = true
  still : e.seq.state ≠ .running ∨ (e.work.pass = false ∧ e.work.free = false ∧ e.work.stop = false) →
    t = { e with mv := mvWanted e, hub := t.hub, notice := t.notice
                 work := { pass := false, free := false, sweep := false, stop := false, mark := false } }

section
variable {s : State}

/-- With neither the examination of STOPPING nor a pass owed, the end of a step drops what is owed and judges MV. -/
theorem settle_unowed (hd : NoSwapDue s) (hp : s.work.pass = false) (hf : s.work.free = false) (hs : s.work.stop = false) :
    settle s = judgeMv (s.setWork { pass := false, free := false, sweep := false, stop := false, mark := false }) := by
  have h (n : Nat) (t : State) (ht : NoSwapDue t) (hp : t.work.pass = false) (hf : t.work.free = false)
      (hs : t.work.stop = false) : ∃ w, settleTurns n t = t.setWork w := by
    induction n generalizing t with
    | zero => exact ⟨t.work, rfl⟩
    | succ n ih =>
      simp only [settleTurns, hp, hf, hs, Bool.false_eq_true, if_false]
      split
      · have hsweep : sweepTurn t = t.setWork { t.work with sweep := false } := by simp only [sweepTurn, readyHead_none ht]
        obtain ⟨w, hw⟩ := ih (t.setWork { t.work with sweep := false }) ht hp hf hs
        exact ⟨w, by rw [hsweep, hw]; rfl⟩
      · exact ⟨t.work, rfl⟩
  obtain ⟨w, hw⟩ := h 1024 s hd hp hf hs
  simp only [settle, hw]
  rfl

/-- The step's end after a swap. -/
theorem swapEnd {e : State} (hd : NoSwapDue (setFlag .updateDone e)) (hs : e.seq.state ≠ .stopping) (kind : Byte) (r : Result)
    (body : State → List Byte) :
    SwapEnd e (answerRuling kind { state := setFlag .updateDone e, result := r, body := body }) := by
  obtain ⟨h, b, he⟩ := answerRuling_eq kind { state := setFlag .updateDone e, result := r, body := body }
  rw [he]
  have settled := (setFlag_later e .updateDone).trans (settle_later hd hs)
  obtain ⟨u, hu, hv⟩ := settle_water hd hs
  have water := (setFlag_frame e .updateDone).trans hu
  refine ⟨⟨settled.granted.trans (.of_eq rfl rfl rfl rfl (.of_monitor rfl rfl)), settled.locked, settled.lockRecs,
    settled.flags⟩, ?_, (settle_settle _).flags _ ?_, fun hq => ?_⟩
  · simp only [hv]
    exact { water with mv := rfl, hub := rfl }
  · simp [setFlag, NoticeUnit.isSet_raise]
  · have : settle (setFlag .updateDone e) = judgeMv ((setFlag .updateDone e).setWork
        { pass := false, free := false, sweep := false, stop := false, mark := false }) := by
      rcases hq with hq | ⟨hp, hf, hst⟩
      · exact settle_still hd hq hs
      · exact settle_unowed hd hp hf hst
    simp only [this]
    rfl

end

/-- The entry swapped, with a sweep owed. -/
def swapped (x : Slot) (s : State) : State := oweSweep (activate x s)

section
variable (x : Slot) (s : State)

theorem activate_swapBase : activate x (swapBase x s) = swapped x s := by
  have swept : activate x (swapBase x s) = oweSweep (activate x (markDue x s)) := by cases x <;> rfl
  rw [swept, activate_markDue, swapped]

end

end Sys2Proof.Machine
end

section
/-! SUPPORT. What the swap of any one entry does to the tables, the sequencer and the answer (10 R164, R175, R176). -/

namespace Sys2Proof.Machine

section
variable {x : Slot} {s e t : State}

theorem swapEffects_self (x : Slot) (s : State) : Swapped x s (swapEffects x s) := by
  obtain ⟨u, h1, h2⟩ := swapEffects_line s x
  exact .of_same (h1.slot x) ((activate_self u x).same (h2.slot x))

theorem swapEffects_other {z : Slot} (h : z ≠ x) (s : State) : SlotSame z s (swapEffects x s) := by
  obtain ⟨u, h1, h2⟩ := swapEffects_line s x
  exact (h1.slot z).trans ((activate_other u h).trans (h2.slot z))

theorem swapEffects_hub (x : Slot) (s : State) : (swapEffects x s).hub.htx = s.hub.htx := by
  obtain ⟨u, h1, h2⟩ := swapEffects_line s x
  have hu : (activate x u).hub = u.hub := by cases x <;> rfl
  rw [h2.hub, hu, h1.hub]

/-- The step's end moves no table. -/
theorem SwapEnd.slot (h : SwapEnd e t) (z : Slot) : SlotSame z e t := by
  have unread : SlotSame z e { e with mv := t.mv, hub := t.hub } := by cases z <;> exact ⟨rfl, rfl, rfl⟩
  exact unread.trans (h.water.field.line.slot z)

theorem slotPending_iff (z : Slot) : slotPending s z = true ↔ (pendingBytes s z).isSome = true := by
  cases z <;> simp [slotPending, pendingBytes]

theorem SwapEnd.tables (h : SwapEnd (swapEffects x (swapBase x s)) t) (hd : NoSwapDue s) (hp : slotPending s x = true) :
    NoSwapDue t ∧ pendingBytes t x = none ∧ pendingBytes s x = some (activeBytes t x) ∧
    ∀ y, y ≠ x → activeBytes t y = activeBytes s y ∧ pendingBytes t y = pendingBytes s y := by
  have self := (swapEffects_self x (swapBase x s)).same (h.slot x)
  have other (y : Slot) (hy : y ≠ x) := (swapEffects_other hy (swapBase x s)).trans (h.slot y)
  obtain ⟨bs, hbs⟩ := Option.isSome_iff_exists.1 ((slotPending_iff x).1 hp)
  refine ⟨fun y => ?_, self.pending, ?_, fun y hy => ⟨?_, ?_⟩⟩
  · by_cases hy : y = x
    · rw [hy, self.due]
    · rw [(other y hy).due, swapBase_due hd]
      exact decide_eq_false hy
  · rw [hbs, self.active bs ((markDue_slot x s x).2.1.trans hbs)]
  · exact (other y hy).active.trans (markDue_slot x s y).2.2
  · exact (other y hy).pending.trans (markDue_slot x s y).2.1

theorem SwapEnd.seq (h : SwapEnd (swapEffects x (swapBase x s)) t) : t.seq = { s.seq with tx := t.seq.tx } := by
  have hb : (swapBase x s).seq = s.seq := by cases x <;> rfl
  have he := (swapEffects_march (swapBase x s) x).seq
  rw [hb] at he
  have ht : t.seq = { (swapEffects x (swapBase x s)).seq with tx := t.seq.tx } := h.water.seq
  rw [ht, he]

/-- The request that swaps one entry is answered OK with the counts 1 and 0. -/
theorem update_swapEnd {code : Byte} {xs : List Slot} (ht : Takes 0x03 [code] s) (hd : NoSwapDue s)
    (hn : namedSlots code.toNat = some xs) (hf : xs.filter (slotPending s) = [x]) (hc : firstFailure [x] s = none)
    (hr : slotReady s x = true) (hs : s.seq.state ≠ .stopping) : ∃ (p : HubPort) (t : State), exec (.update [code]) s = .next t ∧
      answerOf t = some { kind := 0x83, body := [0, 1, 0] } ∧ SwapEnd (swapEffects x (swapBase x (s.setHub p))) t := by
  obtain ⟨p, hp, he⟩ := update_swaps ht hd hn hf hc hr
  have hd' : NoSwapDue (s.setHub p) := hd
  have hslot := swapSlot_swapBase (x := x) hd'
  have hb : (swapBase x (s.setHub p)).hub = p ∧ (swapBase x (s.setHub p)).seq = s.seq := by cases x <;> exact ⟨rfl, rfl⟩
  refine ⟨p, _, he, ?_, ?_⟩
  · rw [hslot]
    refine answerOf_answerRuling (kind := 0x03) _ fun g => ?_
    show (swapEffects x (swapBase x (s.setHub p))).hub.htx ≠ _
    rw [swapEffects_hub, hb.1]
    exact hp g
  · rw [hslot]
    refine swapEnd (by rw [← hslot]; exact swapped_noSwapDue hd') ?_ _ _ _
    rw [(swapEffects_march _ x).state, hb.2]
    exact hs

end

end Sys2Proof.Machine
end

section
/-! SUPPORT. The swaps of a poll list entry and of the line settings: tables alone, and the overcurrent measure judged again (10
R171, R175, 02 R29, R174). -/

namespace Sys2Proof.Machine

section
variable {s e t : State}

/-- With no mark in this step, an entry that waits for one swaps only where none are sent (10 R171). -/
theorem not_running_of_ready (hr : Rested s) (h : (!s.seq.state.marking || s.work.mark) = true) : s.seq.state ≠ .running := by
  have hw : s.work.mark = false := by rw [hr.1]
  intro hs
  rw [hs, hw] at h
  cases h

/-- Outside RUNNING the step's end adds nothing to a swap that reads or moves no valve. -/
theorem SwapEnd.alone (h : SwapEnd e t) (hr : Rested s) (hq : e.seq.state ≠ .running) (hm : mvWanted e = mvWanted s) :
    t = { e with mv := s.mv, work := s.work, hub := t.hub, notice := t.notice } := by
  have ht := h.still (.inl hq)
  rw [hm, ← hr.2, ← hr.1] at ht
  exact ht

/-- A poll list swap changes the table alone. -/
theorem SwapEnd.polled {i : Fin 32} (h : SwapEnd (swapEffects (.poll i) (swapBase (.poll i) s)) t) (hr : Rested s)
    (hq : slotReady s (.poll i) = true) : OnlyTablesChange { s with hub := t.hub, notice := t.notice } t := by
  have hs := not_running_of_ready hr hq
  have ht := h.alone hr hs rfl
  rw [ht]
  rfl

theorem swapEffects_line_swapBase : swapEffects .line (swapBase .line s) = lineSwapped (swapped .line s) := by
  simp only [swapEffects, activate_swapBase]

/-- The measure by the new trip level: it runs above it, and one that ends is remembered for this moment (02 R29, log 37). -/
theorem lineSwapped_eq : lineSwapped s = { s with mon :=
    if s.lpwr = true ∧ 50 * s.lineRec.active.trip < s.mon.sensed then
      { s.mon with measureSince := some (s.mon.measureSince.getD s.partTime) }
    else if s.mon.measureSince = none then s.mon
    else { s.mon with measureSince := none, swapEnded := some (s.partTime * 1000000 + s.micros.val) } } := by
  have hi : (s.lpwr && overTrip s) = decide (s.lpwr = true ∧ 50 * s.lineRec.active.trip < s.mon.sensed) := by
    simp [overTrip]
  simp only [lineSwapped, judgeMeasure, hi, decide_eq_true_eq]
  split
  · simp [State.setMon]
  · cases hm : s.mon.measureSince with
    | none =>
      have : s.mon = { s.mon with measureSince := none } := by rw [← hm]
      simp [State.setMon, ← this]
    | some n => simp [State.setMon, State.now, momentOf]

/-- A line settings swap changes the table and the measure alone. -/
theorem SwapEnd.lined (h : SwapEnd (swapEffects .line (swapBase .line s)) t) (hr : Rested s)
    (hq : slotReady s .line = true) : OnlyTablesChange { s with hub := t.hub, notice := t.notice, mon := t.mon } t ∧
    t.mon = if s.lpwr = true ∧ 50 * t.lineRec.active.trip < s.mon.sensed then
      { s.mon with measureSince := some (s.mon.measureSince.getD s.partTime) }
    else if s.mon.measureSince = none then s.mon
    else { s.mon with measureSince := none, swapEnded := some (s.partTime * 1000000 + s.micros.val) } := by
  rw [swapEffects_line_swapBase, lineSwapped_eq] at h
  have hs := not_running_of_ready hr hq
  have ht := h.alone hr hs rfl
  constructor
  · rw [ht]
    rfl
  · rw [ht]
    rfl

end

end Sys2Proof.Machine
end

section
/-! SUPPORT. Whatever the Dispatcher, Valve Control and the Lock Unit do, the Supply Monitor hears of valve changes alone (09
R159). -/

namespace Sys2Proof.Machine

section
variable (s : State)

theorem onBed_monitor (b : Fin 24) (f : BedLive → BedLive) : (onBed b f s).monitor = s.monitor := by
  unfold onBed
  split <;> rfl

theorem accrue_monitor (b : Fin 24) : (accrue b s).monitor = s.monitor := onBed_monitor s b _

theorem pass_monitor : MonitorKept s (pass s) := (pass_granted s).monitor

theorem valveStop_monitor (v : Fin 32) : MonitorKept s (valveStop v s) := by
  have closed (l : ValveLive) : MonitorKept s (writeValve v l (closeRequest v s)) :=
    (MonitorKept.of_monitor (closeRequest_frame s v).partTime (closeRequest_monitor s v)).trans (writeValve_monitor _ v l)
  simp only [valveStop]
  split
  · split <;> exact closed _
  · exact closed _
  all_goals exact writeValve_monitor s v _

theorem endPulse_monitor (b : Fin 24) (stop : Bool) : MonitorKept s (endPulse b stop s) := by
  have credit (t : State) (n f : Nat) : MonitorKept t (waterCredit b n f t) :=
    .of_monitor (waterCredit_frame t b n f).partTime ((onBed_monitor _ b _).trans (accrue_monitor t b))
  have put (q : Run) : MonitorKept s (putRun s q) := .of_monitor rfl rfl
  simp only [endPulse]
  split
  · exact .refl s
  · split
    · exact put _
    · split
      · exact ((put _).trans (credit _ _ _)).trans (valveStop_monitor _ _)
      · exact (put _).trans (credit _ _ _)

theorem takeOut_monitor (b : Fin 24) (r : Run) : MonitorKept s (takeOut b r s) := by
  refine .of_monitor (takeOut_frame s b r).partTime ?_
  have hold (t : State) : (setHoldEnd b t).monitor = t.monitor := onBed_monitor t b _
  simp only [takeOut]
  split <;> exact hold _

theorem dropRun_monitor (b : Fin 24) : MonitorKept s (dropRun b s) := by
  unfold dropRun
  split
  · exact .refl s
  · exact (takeOut_monitor s b _).trans (pass_monitor _)

theorem removeRun_monitor (b : Fin 24) : MonitorKept s (removeRun b s) := by
  unfold removeRun
  split
  · exact .refl s
  · split
    · exact (endPulse_monitor s b true).trans (dropRun_monitor _ b)
    · exact dropRun_monitor s b

theorem earlyEnd_monitor (b : Fin 24) (x : HeldReasons) (stop : Bool) : MonitorKept s (earlyEnd b x stop s) := by
  have ended : MonitorKept s (endEarly b x stop s) := by
    simp only [endEarly]
    split
    · exact endPulse_monitor s b stop
    · split
      · exact (endPulse_monitor s b stop).trans (takeOut_monitor _ b _)
      · exact (endPulse_monitor s b stop).trans (.of_monitor rfl rfl)
  unfold earlyEnd
  split
  · exact ended.trans (pass_monitor _)
  · exact .refl s

theorem startPulse_monitor (b : Fin 24) : MonitorKept s (startPulse b s) := by
  unfold startPulse
  split
  · exact .refl s
  · split
    · exact .of_monitor rfl rfl
    · exact .refl s

theorem changeValve_monitor (v : Fin 32) (l : ValveLive) : MonitorKept s (changeValve v l s) := by
  have told (old new : ValveLive) (t : State) :
      MonitorKept t (tellOwner (fun b => earlyEnd b .onlyValve false) old new t) := by
    unfold tellOwner
    split
    · exact .refl t
    · split
      · exact earlyEnd_monitor t _ _ _
      · split
        · exact startPulse_monitor t _
        · exact .refl t
  simp only [changeValve]
  split
  · exact ((writeValve_monitor s v l).trans (told _ _ _)).trans (pass_monitor _)
  · exact writeValve_monitor s v l

/-! ## The Lock Unit -/

theorem lockOnset_monitor (m : LockMode) (i : LockTiming) : MonitorKept s (lockOnset m i s) := by
  have removed (bs : List (Fin 24)) (t : State) : MonitorKept t (bs.foldl (fun u b => removeRun b u) t) :=
    .foldl (fun u b => removeRun_monitor u b) bs t
  have ended (bs : List (Fin 24)) (t : State) : MonitorKept t (bs.foldl (fun u b => earlyEnd b .onlyLock true u) t) :=
    .foldl (fun u b => earlyEnd_monitor u b _ _) bs t
  have dropped (bs : List (Fin 24)) (t : State) : MonitorKept t (bs.foldl (fun u b => dropRun b u) t) :=
    .foldl (fun u b => dropRun_monitor u b) bs t
  simp only [lockOnset]
  split <;> split
  · exact (removed _ s).trans (dropped _ _)
  · exact dropped _ _
  · exact ended _ s
  · exact .refl s

theorem lockLeaves_monitor : MonitorKept s (lockLeaves s) := by
  obtain ⟨added, h, -, -⟩ := demandAll_added (grantPass (releaseAll s))
  exact ((releaseAll_granted s).trans (grantPass_granted _)).monitor.trans h.monitor

theorem recomputeLock_monitor : MonitorKept s (recomputeLock s) := by
  have set (e : Option (LockMode × LockTiming)) :
      MonitorKept s (setFlag .lockChange (s.setLocks { s.locks with effective := e })) := .of_monitor rfl rfl
  simp only [recomputeLock]
  split
  · exact .refl s
  · split
    · exact (set _).trans (lockLeaves_monitor _)
    · split
      · exact (set _).trans (lockOnset_monitor _ _ _)
      · exact set _

end

end Sys2Proof.Machine
end

section
/-! SUPPORT. The swap of a valve entry: the change it reports to the Supply Monitor, and the live valve under its new wiring (07
R140, 09 R159). -/

namespace Sys2Proof.Machine

section
variable {v : Fin 32} {s t : State}

theorem swapEffects_valve_swapBase : swapEffects (.valve v) (swapBase (.valve v) s) =
    valveSwapped v s.valves[v].active (swapped (.valve v) s).valves[v].active (swapped (.valve v) s) := by
  simp only [swapEffects, activate_swapBase]
  simp [swapBase, oweSweep, markDue, onSlot, Entry.mark]

/-- The valve before its swap is reported: a close meant for the old output is withdrawn (10 R175). -/
def unwired (v : Fin 32) (old new : ValveRec) (s : State) : State :=
  if withdrawsAtSwap old new s.valveLive[v] then withdraw v s else s

theorem unwired_monitor (old new : ValveRec) (s : State) : MonitorKept s (unwired v old new s) := by
  unfold unwired
  split
  · exact .of_monitor (withdraw_frame s v).partTime (withdraw_monitor s v)
  · exact .refl s

theorem unwired_valveLive (old new : ValveRec) (s : State) : (unwired v old new s).valveLive = s.valveLive := by
  unfold unwired
  split <;> simp

theorem unwired_seq (old new : ValveRec) (s : State) : (unwired v old new s).seq.state = s.seq.state := by
  unfold unwired
  split
  · rw [(withdraw_frame s v).seq]
  · rfl

theorem valveSwapped_eq (old new : ValveRec) (s : State) : valveSwapped v old new s =
    pass (changeValve v (s.valveLive[v].afterSwap old new) (noteValveChange (unwired v old new s))) := by
  rw [← unwired_valveLive (v := v) old new s]
  rfl

/-- Every valve swap is a valve change at this moment (09 R159). -/
theorem SwapEnd.valveChange (h : SwapEnd (swapEffects (.valve v) (swapBase (.valve v) s)) t) :
    t.monitor.lastChange = s.partTime ∧ ∀ w, t.monitor.window = some w → w.changed = true := by
  rw [swapEffects_valve_swapBase, valveSwapped_eq] at h
  have before := unwired_monitor (v := v) s.valves[v].active (swapped (.valve v) s).valves[v].active (swapped (.valve v) s)
  have after := ((changeValve_monitor (noteValveChange (unwired v s.valves[v].active (swapped (.valve v) s).valves[v].active
    (swapped (.valve v) s))) v _).trans (pass_monitor _)).trans h.later.granted.monitor
  refine ⟨(after.recent rfl).trans before.partTime, after.changed fun w hw => ?_⟩
  obtain ⟨x, -, rfl⟩ := Option.map_eq_some_iff.1 hw
  rfl

/-- Outside RUNNING the swap sets its own live valve, and no other. -/
theorem valveSwapped_same (old new : ValveRec) {s : State} (hq : s.seq.state ≠ .running) (w : Fin 32) :
    SameValve w ((unwired v old new s).setValveLive v (s.valveLive[v].afterSwap old new)) (valveSwapped v old new s) := by
  have hq' : (unwired v old new s).seq.state ≠ .running := by rwa [unwired_seq]
  have moved := changeValve_after (noteValveChange (unwired v old new s)) v (s.valveLive[v].afterSwap old new)
  have same := moved.valves w (fun h => h) fun h => hq' h.1
  rw [valveSwapped_eq, pass_idle (by rw [moved.seqState]; exact hq')]
  exact ⟨same.live, same.close, same.opens⟩

/-- So the live valves stand in `t`, and a FAULT that the swap leaves behind has no command waiting. -/
theorem SwapEnd.valved (h : SwapEnd (swapEffects (.valve v) (swapBase (.valve v) s)) t) (hq : s.seq.state ≠ .running) :
    t.valveLive[v] = s.valveLive[v].afterSwap s.valves[v].active t.valves[v].active ∧
    (∀ w : Fin 32, w ≠ v → t.valveLive[w] = s.valveLive[w]) ∧
    (withdrawsAtSwap s.valves[v].active t.valves[v].active s.valveLive[v] = true → commandWaits t v = false) := by
  rw [swapEffects_valve_swapBase] at h
  have hv : t.valves = (swapped (.valve v) s).valves := h.water.valves.trans (valveSwapped_frame _ v _ _).valves
  rw [hv]
  have hq' : (swapped (.valve v) s).seq.state ≠ .running := hq
  have same := valveSwapped_same (v := v) s.valves[v].active (swapped (.valve v) s).valves[v].active hq'
  have hseq := (valveSwapped_frame (swapped (.valve v) s) v s.valves[v].active (swapped (.valve v) s).valves[v].active).seq
  have ht := h.still (.inl (by rw [hseq]; exact hq'))
  have live (w : Fin 32) : t.valveLive[w] = (s.valveLive.set v (s.valveLive[v].afterSwap s.valves[v].active
      (swapped (.valve v) s).valves[v].active))[w] := by
    rw [ht, (same w).live, State.setValveLive_valveLive, unwired_valveLive]
    rfl
  refine ⟨by rw [live]; simp, fun w hw => by rw [live, getElem_set_other _ hw], fun hw => ?_⟩
  have hlcq : t.lcq = (valveSwapped v s.valves[v].active (swapped (.valve v) s).valves[v].active (swapped (.valve v) s)).lcq := by
    rw [ht]
  have hu : unwired v s.valves[v].active (swapped (.valve v) s).valves[v].active (swapped (.valve v) s) =
      withdraw v (swapped (.valve v) s) := if_pos hw
  obtain ⟨hc, ho⟩ := withdraw_waits (swapped (.valve v) s) v
  have hclose := (same v).close
  have hopens := (same v).opens
  rw [hu] at hclose hopens
  simp only [commandWaits, hlcq, hclose, hopens, State.setValveLive_lcq, hc, ho, Option.isSome_none, Bool.or_self]

end

end Sys2Proof.Machine
end

section
/-! SUPPORT. The swap of a bed entry: its probe set, its live balance and its demand check (05 R87 to R89, 10 R170). -/

namespace Sys2Proof.Machine

/-! ## The probe set -/

/-- Two pairs without a value twice hold the same values exactly when they are the same pair in some order. -/
theorem pair_eq_iff {α : Type} {a b c d : Option α} (hab : a = b → a = none) (hcd : c = d → c = none) :
    (a = c ∧ b = d ∨ a = d ∧ b = c) ↔ ∀ n, (a = some n ∨ b = some n) ↔ (c = some n ∨ d = some n) := by
  constructor
  · rintro (⟨rfl, rfl⟩ | ⟨rfl, rfl⟩) n
    · rfl
    · exact or_comm
  · intro h
    have key (o : Option α) (ho : o ≠ none) : (a = o ∨ b = o) ↔ (c = o ∨ d = o) := by
      obtain ⟨n, rfl⟩ := Option.ne_none_iff_exists'.1 ho
      exact h n
    clear h
    have ka := key a
    have kb := key b
    have kc := key c
    have kd := key d
    grind

theorem nodeRef_eq_some {i : Nat} {n : Fin 48} : nodeRef i = some n ↔ i = n.val := by
  unfold nodeRef
  split
  next h => simp [Fin.ext_iff]
  next h => exact ⟨nofun, fun k => absurd (by rw [k]; exact n.isLt) h⟩

theorem names_iff (r : BedRec) (n : Fin 48) : r.names n = true ↔ nodeRef r.probeA = some n ∨ nodeRef r.probeB = some n := by
  simp [BedRec.names, nodeRef_eq_some]

/-- A bed that names no probe twice. -/
def BedRec.SingleProbes (r : BedRec) : Prop := nodeRef r.probeA = nodeRef r.probeB → nodeRef r.probeA = none

theorem sameProbes_iff {old new : BedRec} (ho : old.SingleProbes) (hn : new.SingleProbes) :
    old.sameProbes new = true ↔ ∀ n : Fin 48, old.names n = new.names n := by
  have names (n : Fin 48) : old.names n = new.names n ↔ (old.names n = true ↔ new.names n = true) := by
    rw [Bool.eq_iff_iff]
  simp only [names, names_iff, ← pair_eq_iff ho hn, BedRec.sameProbes, Bool.or_eq_true, Bool.and_eq_true, beq_iff_eq]

theorem distinct_nodup {ns : List Nat} (h : distinct ns = true) : ns.Nodup := by
  induction ns with
  | nil => exact List.nodup_nil
  | cons n ns ih =>
    obtain ⟨hn, hs⟩ := (Bool.and_eq_true _ _).mp h
    exact List.nodup_cons.2 ⟨by simpa using hn, ih hs⟩

/-- A used bed of consistent tables names no probe twice (10 R170). -/
theorem TableLaw.singleProbes {s : State} (h : TableLaw s) {b : Fin 24} (hu : s.beds[b].active.used = true) :
    s.beds[b].active.SingleProbes := by
  have hp : bedProbesConsistent s = true := by
    simp only [TableLaw, crossChecks, Bool.and_eq_true] at h
    exact h.1.1.2
  intro he
  simp only [bedProbesConsistent, Bool.and_eq_true] at hp
  have hnodup := (List.Nodup.of_map _ (distinct_nodup hp.2))
  have hmem : s.beds[b].active ∈ usedBedRecs s := by
    refine List.mem_filter.2 ⟨List.mem_map.2 ⟨s.beds[b], ?_, rfl⟩, hu⟩
    simp
  have hpair := (List.nodup_flatMap.1 hnodup).1 _ hmem
  cases ha : nodeRef s.beds[b].active.probeA with
  | none => rfl
  | some n =>
    rw [List.filterMap_cons_some ha, List.filterMap_cons_some (he.symm.trans ha)] at hpair
    simp at hpair

/-! ## The balance -/

theorem onBed_eq (b : Fin 24) (f : BedLive → BedLive) (s : State) : onBed b f s = s.setBedLive b (s.bedLive[b].map f) := by
  unfold onBed
  cases h : s.bedLive[b] with
  | none =>
    simp only [State.setBedLive, Option.map_none]
    rw [← h]
    simp
  | some l => rfl

section
variable {b : Fin 24} {s e t : State}

/-- The bed entry swapped, its balance accrued by the old entry and taken to the new one (05 R87 to R89). -/
def rebedded (b : Fin 24) (s : State) : State :=
  (swapped (.bed b) s).setBedLive b (BedLive.afterSwap s.beds[b].active (swapped (.bed b) s).beds[b].active s.partTime
    (s.bedLive[b].map (BedLive.accrue (effectiveRate s b) s.beds[b].active.dryingExposure s.partTime)))

theorem swapEffects_bed_swapBase : swapEffects (.bed b) (swapBase (.bed b) s) = demandCheck b (rebedded b s) := by
  have hold : (swapBase (.bed b) s).beds[b].active = s.beds[b].active := by
    simp [swapBase, oweSweep, markDue, onSlot, Entry.mark]
  have hrate : effectiveRate (swapBase (.bed b) s) b = effectiveRate s b := by
    unfold effectiveRate
    rw [hold]
    rfl
  have haccrue : accrue b (swapBase (.bed b) s) = (swapBase (.bed b) s).setBedLive b
      (s.bedLive[b].map (BedLive.accrue (effectiveRate s b) s.beds[b].active.dryingExposure s.partTime)) := by
    rw [accrue, hrate, hold, onBed_eq]
    rfl
  have hactivate (l : Option BedLive) : activate (.bed b) ((swapBase (.bed b) s).setBedLive b l) =
      (swapped (.bed b) s).setBedLive b l := by
    rw [← activate_swapBase]
    rfl
  simp only [swapEffects, bedSwapped, activate_swapBase, haccrue, hactivate, hold, rebedded]
  simp [State.setBedLive]
  rfl

/-- The balance that a swap leaves a bed used before and after: its estimate stands while its probes do, its water residue while
its area does. -/
theorem afterSwap_kept {old new : BedRec} (ho : old.used = true) (hn : new.used = true) (n : Nat) (l : BedLive) :
    BedLive.afterSwap old new n (some l) =
      some { l with estimateValid := l.estimateValid && old.sameProbes new, probeStale := l.probeStale && old.sameProbes new
                    waterResidue := if old.area = new.area then l.waterResidue else 0 } := by
  simp [BedLive.afterSwap, ho, hn]

/-- A bed swap: the tables, the balance of the one bed, and its demand check by the new entry. -/
theorem SwapEnd.bedded (h : SwapEnd (swapEffects (.bed b) (swapBase (.bed b) s)) t) :
    t.beds = (swapped (.bed b) s).beds ∧
    t.bedLive = s.bedLive.set b (BedLive.afterSwap s.beds[b].active t.beds[b].active s.partTime
      (s.bedLive[b].map (BedLive.accrue (effectiveRate s b) s.beds[b].active.dryingExposure s.partTime))) ∧
    DemandsMade (fun c l => c = b ∧ Asks { s with beds := t.beds } b l) (runBeds s) { s with beds := t.beds } t := by
  rw [swapEffects_bed_swapBase] at h
  obtain ⟨added, hadd, hn, hmem⟩ := demandCheck_added (rebedded b s) b
  have hbeds : t.beds = (swapped (.bed b) s).beds := h.water.beds.trans (demandCheck_frame _ b).beds
  refine ⟨hbeds, ?_, ?_⟩
  · rw [h.later.granted.bedLive, hadd.bedLive, hbeds]
    rfl
  · have view : DemandView { s with beds := t.beds } (rebedded b s) :=
      ⟨fun c => by rw [show (rebedded b s).beds = t.beds from hbeds.symm], fun _ => rfl, .of_live rfl, fun _ => Iff.rfl, rfl, rfl⟩
    have asks (l : BedLive) : Asks (rebedded b s) b l ↔ Asks { s with beds := t.beds } b l :=
      view.asks_iff (fun _ => Iff.rfl) b l
    exact ((hadd.demandsMade hn hmem).granted h.later.granted).view (fun _ _ _ k => view.asked k)
      fun c l => and_congr_right fun _ => asks l

end

end Sys2Proof.Machine
end

section
/-! SUPPORT. The swap of the supply record: the inputs whose action changed, the flow window, the counts and RAIN_CONTACT (08
R143, 09 R163). -/

namespace Sys2Proof.Machine

section
variable {s t : State}

/-! ## A condition set -/

theorem Conditions.put_get (c : Conditions) (x : Source) : c.put x (c.get x) = c := by
  cases x <;> rfl

/-- A condition set is the effective lock recomputed, also where nothing changes (08 R148). -/
theorem setCondition_eq (hl : LockLaw s) (x : Source) (b : Bool) :
    setCondition x b s = recomputeLock (s.setLocks { s.locks with cond := s.locks.cond.put x b }) := by
  unfold setCondition
  split
  next h =>
    have hsame : s.setLocks { s.locks with cond := s.locks.cond.put x b } = s := by
      rw [← h, Conditions.put_get]
      rfl
    rw [hsame, recomputeLock_same hl.symm]
  · rfl

/-! ## The record's swap -/

/-- The supply record swapped, and the Supply Monitor set up by it (09 R163). -/
def resupplied (s : State) : State :=
  (swapped .supply s).setMonitor (monitorSwapped s.supplyRec.active (swapped .supply s).supplyRec.active s.partTime s.micros
    s.monitor)

/-- What RAIN_CONTACT is derived to be, before the lock is recomputed (08 R143). -/
def rainJudged (s : State) : State :=
  s.setLocks { s.locks with cond := { s.locks.cond with rainContact := contactActive s } }

theorem swapEffects_supply_swapBase (hl : LockLaw s) :
    swapEffects .supply (swapBase .supply s) = pass (recomputeLock (rainJudged (resupplied s))) := by
  have hl' : LockLaw (resupplied s) := hl
  have hc : judgeContact (resupplied s) = recomputeLock (rainJudged (resupplied s)) := setCondition_eq hl' _ _
  rw [← hc]
  simp only [swapEffects, supplySwapped, activate_swapBase]
  rfl

theorem contactActive_iff (s : State) : contactActive s = true ↔
    ∃ i, s.supplyRec.active.action i = .rainContact ∧ (s.monitor.input i).stable = some .low := by
  simp only [contactActive, Bool.or_eq_true, Bool.and_eq_true, beq_iff_eq]
  constructor
  · rintro (h | h)
    · exact ⟨.a, h⟩
    · exact ⟨.b, h⟩
  · rintro ⟨i, h⟩
    cases i
    · exact .inl h
    · exact .inr h

/-- The lock as recomputed in the step of a supply swap, and the Supply Monitor told of valve changes at most. -/
theorem SwapEnd.supplied (h : SwapEnd (swapEffects .supply (swapBase .supply s)) t) (hl : LockLaw s) :
    LockLater (recomputeLock (rainJudged (resupplied s))) t ∧ MonitorKept (resupplied s) t ∧
    t.supplyRec = (swapped .supply s).supplyRec := by
  rw [swapEffects_supply_swapBase hl] at h
  have later := (pass_later _).trans h.later
  have judged : MonitorKept (resupplied s) (rainJudged (resupplied s)) := .of_monitor rfl rfl
  exact ⟨later, (judged.trans (recomputeLock_monitor _)).trans later.granted.monitor,
    h.water.supplyRec.trans ((pass_frame _).supplyRec.trans (recomputeLock_field _).supplyRec)⟩

/-- Each input as the swap sets it up, and the counts afresh (09 R163). -/
theorem SwapEnd.inputs (h : SwapEnd (swapEffects .supply (swapBase .supply s)) t) (hl : LockLaw s) :
    (∀ i : InputId, t.monitor.input i =
      if s.supplyRec.active.action i = t.supplyRec.active.action i then s.monitor.input i
      else InputLive.fresh (s.monitor.input i).level s.partTime s.micros) ∧
    t.monitor.highCount = 0 ∧ t.monitor.lowCount = 0 ∧ t.monitor.leakCount = 0 := by
  obtain ⟨-, kept, hrec⟩ := h.supplied hl
  rw [hrec]
  refine ⟨fun i => ?_, kept.counts⟩
  cases i
  · exact kept.inputs.1
  · exact kept.inputs.2

/-- A new flow window where an input is configured FLOW, and otherwise neither window nor result (09 R163). -/
theorem SwapEnd.flowWindow (h : SwapEnd (swapEffects .supply (swapBase .supply s)) t) (hl : LockLaw s) :
    (t.supplyRec.active.hasFlow = true → t.monitor.result = s.monitor.result ∧
      ∃ w, t.monitor.window = some w ∧ w.start = s.partTime ∧ w.count = 0) ∧
    (t.supplyRec.active.hasFlow = false → t.monitor.result = none ∧ t.monitor.window = none) := by
  obtain ⟨-, kept, hrec⟩ := h.supplied hl
  rw [hrec]
  have window := kept.window
  have result := kept.result
  simp only [resupplied, monitorSwapped, State.setMonitor_monitor] at window result
  constructor
  · intro hf
    rw [if_pos hf] at window result
    obtain ⟨w, hw, hm⟩ := Option.map_eq_some_iff.1 window
    exact ⟨result, w, hw, congrArg FlowWindow.start hm, congrArg FlowWindow.count hm⟩
  · intro hf
    rw [hf] at window result
    exact ⟨result, Option.map_eq_none_iff.1 window⟩

/-- RAIN_CONTACT is derived from the inputs so configured (08 R143). -/
theorem SwapEnd.rainContact (h : SwapEnd (swapEffects .supply (swapBase .supply s)) t) (hl : LockLaw s) :
    t.locks.cond.rainContact = true ↔
      ∃ i, t.supplyRec.active.action i = .rainContact ∧ (t.monitor.input i).stable = some .low := by
  obtain ⟨later, kept, hrec⟩ := h.supplied hl
  have input (i : InputId) : t.monitor.input i = (resupplied s).monitor.input i := by
    cases i
    · exact kept.inputs.1
    · exact kept.inputs.2
  have hcond : t.locks.cond.rainContact = contactActive (resupplied s) := by
    rw [later.granted.locks, (recomputeLock_locks _).1]
    rfl
  rw [hcond, hrec]
  simp only [input]
  exact contactActive_iff _

/-- The effective lock follows (08 R148). -/
theorem SwapEnd.suppliedLock (h : SwapEnd (swapEffects .supply (swapBase .supply s)) t) (hl : LockLaw s) (hq : QueueLaw s) :
    LockMoved s t := by
  obtain ⟨later, -, -⟩ := h.supplied hl
  have same : rainJudged (resupplied s) = { s with
      supplyRec := (resupplied s).supplyRec, monitor := (resupplied s).monitor, work := (resupplied s).work
      locks := { s.locks with cond := { s.locks.cond with rainContact := contactActive (resupplied s) } } } := by
    simp only [rainJudged, resupplied, swapped, oweSweep, activate, onSlot, State.setLocks, State.setMonitor, State.setWork]
  have hq' : QueueLaw (rainJudged (resupplied s)) := by
    rw [same]
    exact hq
  have moved := recomputeLock_moved hq' later
  rw [same] at moved
  exact moved.view rfl rfl rfl rfl rfl rfl

end

end Sys2Proof.Machine
end

section
/-! SUPPORT. The swap of a lock record: FREEZE and WIND judged again from the last figures handed, and the effective lock
recomputed (08 R142, R145, R148). -/

namespace Sys2Proof.Machine

theorem freezeNext_iff (r : LockRec) (temp : Int) (active : Bool) : freezeNext r temp active = true ↔
    temp ≤ r.freezeThreshold ∨ active = true ∧ r.second ≠ 0 ∧ temp < r.freezeThreshold + r.second := by
  unfold freezeNext
  split
  next ha =>
    split
    next hs => simp [hs]
    next hs =>
      simp only [decide_eq_true_eq, ha, ne_eq, hs, not_false_eq_true, true_and]
      omega
  next ha => simp [ha]

theorem windNext_iff (r : LockRec) (wind : Nat) (active : Bool) : windNext r wind active = true ↔
    r.first ≤ wind ∨ active = true ∧ r.second ≠ 0 ∧ r.first < wind + r.second := by
  unfold windNext
  split
  next ha =>
    split
    next hs => simp [hs]
    next hs =>
      simp only [decide_eq_true_eq, ha, ne_eq, hs, not_false_eq_true, true_and]
      omega
  next ha => simp [ha]

section
variable {i : Fin 5} {s t : State}

/-- The conditions judged at the swap of lock record `i` (08 R142). -/
def condSwapped (i : Fin 5) (s : State) : Conditions :=
  match s.locks.handed with
  | none => s.locks.cond
  | some (temp, wind) =>
    if i = 2 then { s.locks.cond with freeze := freezeNext s.lockRecs[2].active temp s.locks.cond.freeze }
    else if i = 3 then { s.locks.cond with wind := windNext s.lockRecs[3].active wind s.locks.cond.wind }
    else s.locks.cond

theorem condSwapped_same (i : Fin 5) (s : State) :
    condSwapped i s = { s.locks.cond with freeze := (condSwapped i s).freeze, wind := (condSwapped i s).wind } ∧
    (s.locks.handed = none ∨ i ≠ 2 → (condSwapped i s).freeze = s.locks.cond.freeze) ∧
    (s.locks.handed = none ∨ i ≠ 3 → (condSwapped i s).wind = s.locks.cond.wind) := by
  cases hh : s.locks.handed with
  | none => simp [condSwapped, hh]
  | some p =>
    obtain ⟨temp, wind⟩ := p
    by_cases h2 : i = 2
    · simp [condSwapped, hh, h2]
    · by_cases h3 : i = 3
      · simp [condSwapped, hh, h3]
      · simp [condSwapped, hh, h2, h3]

theorem condSwapped_freeze {temp : Int} {wind : Nat} (h : s.locks.handed = some (temp, wind)) :
    (condSwapped 2 s).freeze = freezeNext s.lockRecs[2].active temp s.locks.cond.freeze := by
  simp [condSwapped, h]

theorem condSwapped_wind {temp : Int} {wind : Nat} (h : s.locks.handed = some (temp, wind)) :
    (condSwapped 3 s).wind = windNext s.lockRecs[3].active wind s.locks.cond.wind := by
  simp [condSwapped, h]

/-- The lock record swapped and its condition judged, before the lock is recomputed. -/
def lockJudged (i : Fin 5) (s : State) : State :=
  (swapped (.lock i) s).setLocks { s.locks with cond := condSwapped i (swapped (.lock i) s) }

theorem swapEffects_lock_swapBase : swapEffects (.lock i) (swapBase (.lock i) s) = recomputeLock (lockJudged i s) := by
  simp only [swapEffects, activate_swapBase]
  rfl

/-- What the swap of a lock record leaves of the Lock Unit. -/
theorem SwapEnd.relocked (h : SwapEnd (swapEffects (.lock i) (swapBase (.lock i) s)) t) :
    t.locks = { s.locks with cond := condSwapped i (swapped (.lock i) s), effective := t.locks.effective } ∧
    t.lockRecs = (swapped (.lock i) s).lockRecs := by
  rw [swapEffects_lock_swapBase] at h
  refine ⟨?_, h.later.lockRecs.trans (recomputeLock_field _).lockRecs⟩
  rw [h.later.granted.locks, (recomputeLock_locks _).1]
  rfl

/-- The effective lock follows (08 R148). -/
theorem SwapEnd.lockMoved (h : SwapEnd (swapEffects (.lock i) (swapBase (.lock i) s)) t) (hq : QueueLaw s) : LockMoved s t := by
  rw [swapEffects_lock_swapBase] at h
  have same : lockJudged i s = { s with
      lockRecs := (swapped (.lock i) s).lockRecs, work := (swapped (.lock i) s).work
      locks := { s.locks with cond := condSwapped i (swapped (.lock i) s) } } := by
    simp only [lockJudged, swapped, oweSweep, activate, onSlot, State.setLocks, State.setWork]
  have hq' : QueueLaw (lockJudged i s) := by
    rw [same]
    exact hq
  have moved := recomputeLock_moved hq' h.later
  rw [same] at moved
  exact moved.view rfl rfl rfl rfl rfl rfl

end

end Sys2Proof.Machine
end

section
/-! SUPPORT. The drying rate and its changes: what the rate is, and what a change does to the balances and the demand of every
used bed (04 R59, R60, 05 R77). -/

namespace Sys2Proof.Machine

/-! ## The rate -/

theorem baseRate_of_split {bands pre post : List (Int × Nat)} {b : Int × Nat} {temp : Int} (h : bands = pre ++ b :: post)
    (below : ∀ x ∈ pre, x.1 < temp) (hb : temp ≤ b.1 ∨ post = []) : baseRate bands temp = b.2 := by
  subst h
  induction pre with
  | nil =>
    cases post with
    | nil => rfl
    | cons c post =>
      have hle : temp ≤ b.1 := hb.resolve_right (by simp)
      simp [baseRate, hle]
  | cons x pre ih =>
    have hx : ¬ temp ≤ x.1 := by
      have := below x (by simp)
      omega
    have hrest := ih fun y hy => below y (List.mem_cons_of_mem x hy)
    cases hp : pre ++ b :: post with
    | nil => simp at hp
    | cons y ys =>
      rw [hp] at hrest
      rw [List.cons_append, hp, baseRate, if_neg hx, hrest]
      simp

/-- The drying rate is the one of 04 R59. -/
theorem dryingRate_is (table : DryingRec) (factor : Nat) (temp : Int) (wind : Nat) :
    RateIs table.bands factor temp wind (dryingRate table factor temp wind) := by
  refine ⟨fun pre b post h below hb => ?_, fun pre b h below => ?_⟩
  · rw [dryingRate, baseRate_of_split h below (.inl hb)]
  · rw [dryingRate, baseRate_of_split h below (.inr rfl)]

/-! ## Every used bed accrued -/

section
variable (s : State)

theorem accrue_eq (b : Fin 24) : accrue b s =
    s.setBedLive b (s.bedLive[b].map (BedLive.accrue (effectiveRate s b) s.beds[b].active.dryingExposure s.partTime)) :=
  onBed_eq b _ s

/-- Accrual of beds takes each one once, at the rate in force before. -/
theorem foldl_accrue (bs : List (Fin 24)) (hn : bs.Nodup) (b : Fin 24) :
    (bs.foldl (fun t c => accrue c t) s).bedLive[b] = if b ∈ bs then
      s.bedLive[b].map (BedLive.accrue (effectiveRate s b) s.beds[b].active.dryingExposure s.partTime) else s.bedLive[b] := by
  induction bs generalizing s with
  | nil => simp
  | cons c bs ih =>
    obtain ⟨hc, hbs⟩ := List.nodup_cons.1 hn
    have hrate : effectiveRate (accrue c s) b = effectiveRate s b := by rw [accrue_eq]; rfl
    have hbeds : (accrue c s).beds = s.beds := by rw [accrue_eq]; rfl
    have htime : (accrue c s).partTime = s.partTime := by rw [accrue_eq]; rfl
    rw [List.foldl_cons, ih _ hbs, hrate, hbeds, htime]
    by_cases hbc : b = c
    · subst hbc
      rw [if_neg hc, if_pos (List.mem_cons_self), accrue_eq]
      simp
    · have : (accrue c s).bedLive[b] = s.bedLive[b] := by
        rw [accrue_eq, State.setBedLive_bedLive, getElem_set_other _ hbc]
      rw [this]
      simp [hbc]

theorem accrueAll_bedLive (b : Fin 24) : (accrueAll s).bedLive[b] = if s.beds[b].active.used = true then
    s.bedLive[b].map (BedLive.accrue (effectiveRate s b) s.beds[b].active.dryingExposure s.partTime) else s.bedLive[b] := by
  have hmem : b ∈ usedBeds s ↔ s.beds[b].active.used = true := by simp [usedBeds]
  have hn : (usedBeds s).Nodup := (List.nodup_finRange 24).filter _
  rw [accrueAll, foldl_accrue s _ hn, if_congr hmem rfl rfl]

/-- Accrual touches balances alone. -/
theorem accrueAll_eq : accrueAll s = { s with bedLive := (accrueAll s).bedLive } := by
  have h (bs : List (Fin 24)) (t : State) :
      bs.foldl (fun u b => accrue b u) t = { t with bedLive := (bs.foldl (fun u b => accrue b u) t).bedLive } := by
    induction bs generalizing t with
    | nil => rfl
    | cons b bs ih =>
      rw [List.foldl_cons, ih, accrue_eq]
      rfl
  exact h _ s

/-! ## A change of the effective rate -/

/-- The rate that every bed reads differs after `w` (04 R60, 05 R77). -/
def RateMoves (s : State) (w : WeatherUnit) : Prop :=
  (s.weather.status = .fresh ∧ w.status ≠ .fresh) ∨ (w.status = .fresh ∧ s.weather.status ≠ .fresh) ∨
    (w.status = .fresh ∧ s.weather.rate ≠ w.rate)

variable {s}

theorem setWeather_moves {w : WeatherUnit} (h : RateMoves s w) :
    setWeather w s = demandAll ((accrueAll s).setWeatherUnit w) := if_pos h

theorem setWeather_stays {w : WeatherUnit} (h : ¬ RateMoves s w) : setWeather w s = s.setWeatherUnit w := if_neg h

/-- A change of the rate accrues every used bed at the old one and takes the demand checks of all (05 R77, R81). -/
theorem setWeather_added {w : WeatherUnit} (h : RateMoves s w) :
    DemandsMade (Asks s) (runBeds s) s (setWeather w s) ∧ (setWeather w s).bedLive = (accrueAll s).bedLive := by
  have view : DemandView s ((accrueAll s).setWeatherUnit w) := by
    rw [accrueAll_eq]
    exact .of_eq rfl rfl rfl rfl rfl
  have runs : ((accrueAll s).setWeatherUnit w).runs = s.runs := by rw [accrueAll_eq]; rfl
  obtain ⟨added, hadd, hn, hmem⟩ := demandAll_added ((accrueAll s).setWeatherUnit w)
  have made := hadd.demandsMade hn hmem
  rw [runBeds_congr runs] at made
  rw [setWeather_moves h]
  refine ⟨made.view (fun _ _ _ k => view.asked k) fun b l => view.asks_iff (fun c => by rw [runBeds_congr runs]) b l, ?_⟩
  rw [hadd.bedLive]
  rfl

theorem setWeather_weather (w : WeatherUnit) (s : State) : (setWeather w s).weather = w := by
  by_cases h : RateMoves s w
  · rw [setWeather_moves h, (demandAll_frame _).weather]
    rfl
  · rw [setWeather_stays h]
    rfl

end

end Sys2Proof.Machine
end

section
/-! SUPPORT. The swap of the weather record or of the drying table: R computed again, and what its change does (04 R63,
05 R77). -/

namespace Sys2Proof.Machine

/-- The entry is the weather record or the drying table. -/
def Slot.setsRate (x : Slot) : Prop := x = .weather ∨ x = .drying

section
variable {x : Slot} {s t : State}

/-- R computed again stands as it was, or it moves at a FRESH figure (04 R63). -/
theorem recomputeRate_cases (s : State) :
    (recomputeRate s = s ∧ (s.weather.status = .fresh →
      s.weather.rate = dryingRate s.drying.active s.weatherRec.active.windFactor s.weather.temperature s.weather.wind)) ∨
    (s.weather.status = .fresh ∧ ∃ rate, rate ≠ s.weather.rate ∧ recomputeRate s = setWeather { s.weather with rate := rate } s ∧
      RateMoves s { s.weather with rate := rate } ∧
      rate = dryingRate s.drying.active s.weatherRec.active.windFactor s.weather.temperature s.weather.wind) := by
  by_cases hf : s.weather.status = .fresh
  · have he : recomputeRate s = setWeather { s.weather with
        rate := dryingRate s.drying.active s.weatherRec.active.windFactor s.weather.temperature s.weather.wind } s := if_pos hf
    rw [he]
    generalize dryingRate s.drying.active s.weatherRec.active.windFactor s.weather.temperature s.weather.wind = rate
    by_cases hr : rate = s.weather.rate
    · refine .inl ⟨?_, fun _ => hr.symm⟩
      rw [hr, setWeather_stays (by simp [RateMoves, hf])]
      rfl
    · exact .inr ⟨hf, rate, hr, rfl, .inr (.inr ⟨hf, fun k => hr k.symm⟩), rfl⟩
  · exact .inl ⟨if_neg hf, fun k => absurd k hf⟩

/-- The table swapped, and the rain baseline dropped with another source (04 R64). -/
def rerated (x : Slot) (s : State) : State :=
  (swapped x s).setWeatherUnit { s.weather with
    baseline := if s.weatherRec.active.source = (swapped x s).weatherRec.active.source then s.weather.baseline else none }

theorem swapEffects_rate_swapBase (hx : x.setsRate) : swapEffects x (swapBase x s) = recomputeRate (rerated x s) := by
  rcases hx with rfl | rfl
  · simp only [swapEffects, activate_swapBase, weatherRecSwapped]
    have hold : (swapBase .weather s).weatherRec.active = s.weatherRec.active := rfl
    rw [hold]
    by_cases h : s.weatherRec.active.source = (swapped .weather s).weatherRec.active.source
    · rw [if_neg (not_not_intro h), rerated, if_pos h]
      rfl
    · rw [if_pos h, rerated, if_neg h]
      rfl
  · simp only [swapEffects, activate_swapBase]
    have hsame : s.weatherRec.active.source = (swapped .drying s).weatherRec.active.source := rfl
    rw [rerated, if_pos hsame]
    rfl

theorem rerated_view (hx : x.setsRate) : DemandView s (rerated x s) ∧ (rerated x s).runs = s.runs ∧
    (rerated x s).bedLive = s.bedLive ∧ (rerated x s).work = { s.work with sweep := true } ∧
    (rerated x s).partTime = s.partTime := by
  rcases hx with rfl | rfl <;> exact ⟨.of_eq rfl rfl rfl rfl rfl, rfl, rfl, rfl, rfl⟩

/-- The Weather Unit after the swap: its rate by the tables of now while FRESH, its baseline by the source (04 R63). -/
theorem SwapEnd.rate (h : SwapEnd (swapEffects x (swapBase x s)) t) (hx : x.setsRate) :
    t.weather = { s.weather with
      rate := t.weather.rate
      baseline := if s.weatherRec.active.source = t.weatherRec.active.source then s.weather.baseline else none } ∧
    (s.weather.status ≠ .fresh → t.weather.rate = s.weather.rate) ∧
    (s.weather.status = .fresh → t.weather.rate =
      dryingRate t.drying.active t.weatherRec.active.windFactor s.weather.temperature s.weather.wind) := by
  rw [swapEffects_rate_swapBase hx] at h
  have weather : t.weather = (recomputeRate (rerated x s)).weather := h.water.weather
  have drying : t.drying = (rerated x s).drying := h.water.drying.trans (recomputeRate_field _).drying
  have record : t.weatherRec = (rerated x s).weatherRec := h.water.weatherRec.trans (recomputeRate_field _).weatherRec
  rw [weather, drying, record]
  rcases recomputeRate_cases (rerated x s) with ⟨he, hr⟩ | ⟨hf, rate, -, he, -, hr⟩
  · rw [he]
    exact ⟨rfl, fun _ => rfl, hr⟩
  · rw [he, setWeather_weather]
    exact ⟨rfl, fun hn => absurd hf hn, fun _ => hr⟩

/-- A rate that stands leaves the beds and the queue; one that moves accrues every used bed at the old rate and takes their demand
checks (05 R77). -/
theorem SwapEnd.rateMoved (h : SwapEnd (swapEffects x (swapBase x s)) t) (hx : x.setsRate) (hr : Rested s) :
    (t.weather.rate = s.weather.rate → t.bedLive = s.bedLive ∧ t.runs = s.runs) ∧
    (t.weather.rate ≠ s.weather.rate → DemandsMade (Asks s) (runBeds s) s t ∧
      ∀ b : Fin 24, s.beds[b].active.used = true → ∀ l, s.bedLive[b] = some l →
        t.bedLive[b] = some (BedLive.accrue s.weather.rate s.beds[b].active.dryingExposure s.partTime l)) := by
  rw [swapEffects_rate_swapBase hx] at h
  obtain ⟨view, runs, bedLive, work, time⟩ := rerated_view (s := s) hx
  have weather : t.weather = (recomputeRate (rerated x s)).weather := h.water.weather
  rcases recomputeRate_cases (rerated x s) with ⟨he, -⟩ | ⟨hf, rate, hne, he, moves, -⟩
  · rw [he] at weather h
    refine ⟨fun _ => ?_, fun hn => absurd (congrArg WeatherUnit.rate weather) hn⟩
    have ht := h.still (.inr (by rw [work, hr.1]; exact ⟨rfl, rfl, rfl⟩))
    rw [ht]
    exact ⟨bedLive, runs⟩
  · rw [he, setWeather_weather] at weather
    obtain ⟨made, accrued⟩ := setWeather_added moves
    rw [he] at h
    refine ⟨fun hs => absurd ((congrArg WeatherUnit.rate weather).symm.trans hs) hne, fun _ => ⟨?_, fun b hu l hl => ?_⟩⟩
    · rw [runBeds_congr runs] at made
      exact (made.granted h.later.granted).view (fun _ _ _ k => view.asked k)
        fun b l => view.asks_iff (fun c => by rw [runBeds_congr runs]) b l
    · have hrate : effectiveRate (rerated x s) b = s.weather.rate := if_pos hf
      rw [h.later.granted.bedLive, accrued, accrueAll_bedLive, hrate, view.beds, if_pos hu, bedLive, hl, time]
      rfl

end

end Sys2Proof.Machine
end

section
/-! SUPPORT. A valve that loses its decoder outside RUNNING: what becomes of it, and what the other valves see of that (07 R129,
R131). -/

namespace Sys2Proof.Machine

section
variable (s : State)

/-! ## The transaction in progress -/

theorem onBed_seq (b : Fin 24) (f : BedLive → BedLive) : (onBed b f s).seq = s.seq := by rw [onBed_eq]; rfl

theorem releaseCheck_seq (b : Fin 24) : (releaseCheck b s).seq = s.seq := by
  rcases releaseCheck_cases s b with e | ⟨r, f, q, -, -, -, e⟩ <;> rw [e]
  rfl

theorem writeValve_seq (v : Fin 32) (l : ValveLive) : (writeValve v l s).seq = s.seq := by
  have noted (c : Prop) [Decidable c] (t : State) : (if c then noteValveChange t else t).seq = t.seq := by split <;> rfl
  simp only [writeValve]
  split
  · split
    · rw [releaseCheck_seq]
      exact noted _ _
    · exact noted _ _
  · split <;> rfl

/-- A pulse end without a stop leaves the sequencer alone. -/
theorem endPulse_seq (b : Fin 24) : (endPulse b false s).seq = s.seq := by
  have credit (n f : Nat) (t : State) : (waterCredit b n f t).seq = t.seq := by rw [waterCredit, onBed_seq, accrue, onBed_seq]
  simp only [endPulse]
  split
  · rfl
  · split
    · rfl
    · rw [if_neg Bool.false_ne_true, credit]
      rfl

theorem takeOut_seq (b : Fin 24) (r : Run) : (takeOut b r s).seq = s.seq := by
  have hold (t : State) : (setHoldEnd b t).seq = t.seq := onBed_seq t b _
  simp only [takeOut]
  split <;> exact hold _

variable {s}

theorem earlyEnd_seq (hq : s.seq.state ≠ .running) (b : Fin 24) (x : HeldReasons) : (earlyEnd b x false s).seq = s.seq := by
  have ended : (endEarly b x false s).seq = s.seq := by
    simp only [endEarly]
    split
    · exact endPulse_seq s b
    · split
      · rw [takeOut_seq, endPulse_seq]
      · exact endPulse_seq s b
  unfold earlyEnd
  split
  · rw [pass_idle (by rw [ended]; exact hq), ended]
  · rfl

theorem changeValve_seq (hq : s.seq.state ≠ .running) (v : Fin 32) (l : ValveLive) : (changeValve v l s).seq = s.seq := by
  have written := writeValve_seq s v l
  have told (old : ValveLive) : (tellOwner (fun b => earlyEnd b .onlyValve false) old l (writeValve v l s)).seq = s.seq := by
    unfold tellOwner
    split
    · exact written
    · split
      · rw [earlyEnd_seq (by rw [written]; exact hq), written]
      · split
        · rw [← written]
          unfold startPulse
          split
          · rfl
          · split <;> rfl
        · exact written
  simp only [changeValve]
  split
  · rw [pass_idle (by rw [told]; exact hq), told]
  · exact written

theorem detach_flying {v w : Fin 32} (h : v ≠ w) (k : CommandKind) : flying (detach w s) v k = flying s v k := by
  unfold detach
  split
  next u j a o d ht =>
    split
    next hu =>
      subst hu
      simp [flying, ht, Ne.symm h]
    · rfl
  · rfl

theorem withdraw_flying {v w : Fin 32} (h : v ≠ w) (k : CommandKind) : flying (withdraw w s) v k = flying s v k := by
  unfold withdraw
  split
  · refine Eq.trans ?_ (detach_flying h k)
    simp [flying]
  · rfl

/-! ## The loss -/

/-- A valve that loses its decoder while it moves: its command withdrawn, its fault latched (07 R129). -/
def lostMoving (v : Fin 32) (assumed : Bool) (s : State) : State :=
  changeValve v { s.valveLive[v] with state := .fault, assumedOpen := assumed, attempts := 0, owner := none, latched := true }
    (latchFault v (withdraw v s))

theorem loseDecoder_moving {v : Fin 32} (h : s.valveLive[v].state.moving = true) : loseDecoder v s =
    lostMoving v (if s.valveLive[v].state = .opening then openLeft s v else true) s := by
  simp only [loseDecoder, lostMoving, latchFault_live, withdraw_valveLive]
  cases hs : s.valveLive[v].state with
  | opening => rfl
  | opened => rfl
  | closing => rfl
  | closed => exact absurd h (by rw [hs]; exact Bool.false_ne_true)
  | fault => exact absurd h (by rw [hs]; exact Bool.false_ne_true)
  | detached => exact absurd h (by rw [hs]; exact Bool.false_ne_true)

theorem loseDecoder_still {v : Fin 32} (h : s.valveLive[v].state = .closed ∨ s.valveLive[v].state = .detached) :
    loseDecoder v s = s := by
  rcases h with h | h <;> simp only [loseDecoder, h]

theorem loseDecoder_fault {v : Fin 32} (h : s.valveLive[v].state = .fault) : loseDecoder v s =
    if commandWaits s v then (withdraw v s).setValveLive v { s.valveLive[v] with attempts := 0 } else s := by
  simp only [loseDecoder, h]

/-- The other valves' transactions are not concerned. -/
theorem loseDecoder_flying (hq : s.seq.state ≠ .running) {v w : Fin 32} (h : v ≠ w) (k : CommandKind) :
    flying (loseDecoder w s) v k = flying s v k := by
  have same {t u : State} (e : t.seq = u.seq) : flying t v k = flying u v k := by simp only [flying, e]
  cases hs : s.valveLive[w].state with
  | closed => rw [loseDecoder_still (.inl hs)]
  | detached => rw [loseDecoder_still (.inr hs)]
  | fault =>
    rw [loseDecoder_fault hs]
    split
    · exact withdraw_flying h k
    · rfl
  | _ =>
    rw [loseDecoder_moving (by rw [hs]; rfl), lostMoving]
    have hq' : (latchFault w (withdraw w s)).seq.state ≠ .running := by
      rw [show (latchFault w (withdraw w s)).seq = (withdraw w s).seq from rfl, (withdraw_frame s w).seq]
      exact hq
    exact (same (changeValve_seq hq' w _)).trans (withdraw_flying h k)

/-- A moving valve that lost its decoder: FAULT without owner, latched, nothing waiting, its run not ON. -/
theorem lostMoving_facts {v : Fin 32} (hm : s.valveLive[v].state.moving = true) (assumed : Bool) :
    (lostMoving v assumed s).valveLive[v] =
      { s.valveLive[v] with state := .fault, assumedOpen := assumed, attempts := 0, owner := none, latched := true } ∧
    commandWaits (lostMoving v assumed s) v = false ∧ (lostMoving v assumed s).notice.isSet .valveFault = true ∧
    ∀ b, s.valveLive[v].owner = some b → ∀ r ∈ (lostMoving v assumed s).runs, r.bed = b → r.state ≠ .on := by
  have live : (latchFault v (withdraw v s)).valveLive[v] = { s.valveLive[v] with latched := true } := by
    rw [latchFault_live, withdraw_valveLive]
  have hnf : s.valveLive[v].state ≠ .fault := by
    intro h
    rw [h] at hm
    cases hm
  have flag : (latchFault v (withdraw v s)).notice.isSet .valveFault = true := by
    simp [latchFault, setFlag, NoticeUnit.isSet_raise]
  have lcq : (latchFault v (withdraw v s)).lcq = (withdraw v s).lcq := by simp [latchFault]
  obtain ⟨hc, ho⟩ := withdraw_waits s v
  have same := changeValve_same (latchFault v (withdraw v s)) v
    { s.valveLive[v] with state := .fault, assumedOpen := assumed, attempts := 0, owner := none, latched := true }
    (.inr (.inl (by simp)))
  unfold lostMoving
  refine ⟨?_, ?_, (changeValve_frame _ v _).flags _ flag, fun b hb r hr hrb => ?_⟩
  · rw [same.live]
    simp
  · rw [commandWaits, same.close, same.opens, State.setValveLive_lcq, lcq, hc, ho]
    rfl
  · have owner : (latchFault v (withdraw v s)).valveLive[v].owner = some b := by rw [live]; exact hb
    have state : (latchFault v (withdraw v s)).valveLive[v].state ≠ .fault := by rw [live]; exact hnf
    have off : BedOff b (changeValve v
        { s.valveLive[v] with state := .fault, assumedOpen := assumed, attempts := 0, owner := none, latched := true }
        (latchFault v (withdraw v s))) := by
      rw [changeValve_reported (reported_of_state state), tellOwner_fault _ owner rfl state]
      exact pass_off _ (earlyEnd_off _ b _ _)
    exact (off r hr hrb).1

end

end Sys2Proof.Machine
end

section
/-! SUPPORT. Every valve on a decoder that is swapped away has lost it (07 R131). -/

namespace Sys2Proof.Machine

section
variable {s t u w : State} {v : Fin 32} {n : Fin 48}

theorem SameValve.waits (h : SameValve v s t) : commandWaits t v = commandWaits s v := by
  simp only [commandWaits, h.close, h.opens]

/-- What a valve's loss comes to is judged by that valve alone. -/
theorem DecoderLost.view (h : DecoderLost v u w) (before : SameValve v s u)
    (fly : flying u v .openValve = flying s v .openValve) (after : SameValve v w t)
    (flags : ∀ f, w.notice.isSet f = true → t.notice.isSet f = true) (on : OnFrom w t) : DecoderLost v s t := by
  unfold DecoderLost at *
  rw [before.live, before.opens, fly, before.waits] at h
  rw [after.live, after.waits]
  obtain ⟨opening, moved, fault, still⟩ := h
  have none_on (b : Fin 24) (hw : ∀ r ∈ w.runs, r.bed = b → r.state ≠ .on) (r : Run) (hr : r ∈ t.runs) (hb : r.bed = b) :
      r.state ≠ .on := by
    intro ho
    obtain ⟨p, hp, hpb, hpo⟩ := on r hr ho
    exact hw p hp (hpb.trans hb) hpo
  refine ⟨fun k => ?_, fun k => ?_, fault, still⟩
  · obtain ⟨live, waits, flag, owner⟩ := opening k
    exact ⟨live, waits, flags _ flag, fun b hb => none_on b (owner b hb)⟩
  · obtain ⟨live, waits, flag, owner⟩ := moved k
    exact ⟨live, waits, flags _ flag, fun b hb => none_on b (owner b hb)⟩

/-- One valve loses its decoder (07 R129). -/
theorem loseDecoder_lost (v : Fin 32) (s : State) : DecoderLost v s (loseDecoder v s) := by
  unfold DecoderLost
  have moving (hm : s.valveLive[v].state.moving = true) := loseDecoder_moving hm
  refine ⟨fun h => ?_, fun h => ?_, fun h => ?_, fun h => by rw [loseDecoder_still h]⟩
  · have hm : s.valveLive[v].state.moving = true := by rw [h]; rfl
    rw [moving hm, if_pos h]
    exact lostMoving_facts hm _
  · have hm : s.valveLive[v].state.moving = true := by rcases h with h | h <;> rw [h] <;> rfl
    have hno : s.valveLive[v].state ≠ .opening := by rcases h with h | h <;> rw [h] <;> simp
    rw [moving hm, if_neg hno]
    exact lostMoving_facts hm _
  · rw [loseDecoder_fault h]
    cases hw : commandWaits s v with
    | false => exact ⟨hw, rfl⟩
    | true =>
      obtain ⟨hc, ho⟩ := withdraw_waits s v
      refine ⟨?_, by simp⟩
      rw [if_pos rfl, commandWaits, State.setValveLive_lcq, hc, ho]
      rfl

/-- Valves that lose their decoder leave another one as it is, take back no flag and turn no run ON. -/
theorem foldl_loseDecoder_beside (vs : List (Fin 32)) (hv : v ∉ vs) (hq : s.seq.state ≠ .running) :
    SameValve v s (vs.foldl (fun t w => loseDecoder w t) s) ∧
    flying (vs.foldl (fun t w => loseDecoder w t) s) v .openValve = flying s v .openValve ∧
    (∀ f, s.notice.isSet f = true → (vs.foldl (fun t w => loseDecoder w t) s).notice.isSet f = true) ∧
    OnFrom s (vs.foldl (fun t w => loseDecoder w t) s) ∧
    (vs.foldl (fun t w => loseDecoder w t) s).seq.state = s.seq.state := by
  induction vs generalizing s with
  | nil => exact ⟨.refl v s, rfl, fun _ h => h, .refl s, rfl⟩
  | cons w vs ih =>
    obtain ⟨hw, hvs⟩ := List.ne_and_not_mem_of_not_mem_cons hv
    have move : Move (.only w) s (loseDecoder w s) := loseDecoder_move s w (.inl rfl)
    obtain ⟨same, fly, flags, on, state⟩ := ih hvs (s := loseDecoder w s) (by rw [move.seqState]; exact hq)
    exact ⟨(move.other hw hq).trans same, fly.trans (loseDecoder_flying hq hw _),
      fun f h => flags f ((loseDecoder_frame s w).flags f h), (move.on hq).trans on, state.trans move.seqState⟩

/-- The valves on the decoder lose it one after another, each once. -/
theorem decoderLost_lost (hq : s.seq.state ≠ .running) (hv : v ∈ valvesOn s n) : DecoderLost v s (decoderLost n s) := by
  obtain ⟨pre, post, hsplit⟩ := List.append_of_mem hv
  have hn : (pre ++ v :: post).Nodup := hsplit ▸ (List.nodup_finRange 32).filter _
  obtain ⟨-, hvp, hdis⟩ := List.nodup_append.1 hn
  obtain ⟨before, fly, -, -, state⟩ := foldl_loseDecoder_beside pre (fun h => hdis v h v (by simp) rfl) hq
  rw [decoderLost, hsplit, List.foldl_append, List.foldl_cons]
  generalize pre.foldl (fun t w => loseDecoder w t) s = u at *
  have hq' : (loseDecoder v u).seq.state ≠ .running := by
    rw [(loseDecoder_move u v (c := .only v) (.inl rfl)).seqState, state]
    exact hq
  obtain ⟨after, -, flags, on, -⟩ := foldl_loseDecoder_beside post (List.nodup_cons.1 hvp).1 hq'
  exact (loseDecoder_lost v u).view before fly after flags on

end

end Sys2Proof.Machine
end

section
/-! SUPPORT. The swap of a node entry, block by block: the Node Table, the Reading Translator, the Weather Unit and Valve Control
(03 R47, 04 R50, R54, R63, 07 R131). -/

namespace Sys2Proof.Machine

section
variable (n : Fin 48) (old new : NodeRec) (s : State)

theorem moved_iff : old.moved new = true ↔ old.address ≠ new.address ∨ old.kind ≠ new.kind := by
  simp [NodeRec.moved]

/-! ## The Node Table -/

/-- Live node state after its swap (03 R47). -/
def NodeLive.afterSwap (moved : Bool) (l : NodeLive) : NodeLive :=
  if moved then { presence := .absent, misses := 0, forwarded := none, changed := l.changed || l.presence != .absent }
  else { l with forwarded := none }

theorem nodeLiveSwapped_eq : nodeLiveSwapped n old new s = { s with
    nodeLive := s.nodeLive.set n (s.nodeLive[n].afterSwap (old.moved new))
    notice := (nodeLiveSwapped n old new s).notice } := by
  simp only [nodeLiveSwapped, NodeLive.afterSwap]
  split
  · split
    next h =>
      have hp : (s.nodeLive[n].presence != .absent) = false := by rw [h]; rfl
      rw [hp, Bool.or_false]
      rfl
    next h =>
      have hp : (s.nodeLive[n].presence != .absent) = true := bne_iff_ne.2 h
      rw [hp, Bool.or_true]
      rfl
  · rfl

theorem nodeLiveSwapped_flag (hm : old.moved new = true) (hp : s.nodeLive[n].presence ≠ .absent) :
    (nodeLiveSwapped n old new s).notice.isSet .nodeChange = true := by
  simp only [nodeLiveSwapped, if_pos hm, if_neg hp]
  simp [presenceChanged, setFlag, NoticeUnit.isSet_raise]

/-! ## The Reading Translator -/

/-- The probe entry is another one, or has other figures (04 R50). -/
def NodeRec.recalibrated (old new : NodeRec) : Bool := old.moved new || old.dry != new.dry || old.wet != new.wet

theorem recalibrated_iff : old.recalibrated new = true ↔
    (old.address ≠ new.address ∨ old.kind ≠ new.kind) ∨ old.dry ≠ new.dry ∨ old.wet ≠ new.wet := by
  simp [NodeRec.recalibrated, moved_iff, or_assoc]

/-- A probe that is heard again leaves FAULTED (04 R54). -/
def ProbeLive.returned (p : ProbeLive) : ProbeLive := if p.state = .faulted then { p with state := .ok, rejects := 0 } else p

theorem probeReturns_eq : probeReturns n s = s.setProbe n (s.probes[n].map ProbeLive.returned) := by
  unfold probeReturns
  split
  next hp =>
    rw [hp]
    have same : s.probes.set n none = s.probes := by
      rw [← hp]
      simp
    simp [State.setProbe, same]
  next p hp =>
    rw [hp]
    by_cases hf : p.state = .faulted
    · simp [hf, ProbeLive.returned]
    · have same : s.probes.set n (some p) = s.probes := by
        rw [← hp]
        simp
      simp [hf, ProbeLive.returned, State.setProbe, same]

/-- The probe of an entry after its swap (04 R50, R54). -/
def probeAfter (n : Fin 48) (old new : NodeRec) (s : State) : Option ProbeLive :=
  if new.kind = .soilProbe then
    if old.recalibrated new then some (.fresh s.partTime) else s.probes[n].map ProbeLive.returned
  else none

theorem probeSwapped_eq : probeSwapped n old new s = s.setProbe n (probeAfter n old new s) := by
  unfold probeSwapped probeAfter
  split
  next hk =>
    have hc : (old.kind ≠ .soilProbe ∨ old.address ≠ new.address ∨ old.dry ≠ new.dry ∨ old.wet ≠ new.wet) ↔
        old.recalibrated new = true := by
      rw [recalibrated_iff, hk]
      tauto
    simp only [hc]
    split
    · rfl
    · exact probeReturns_eq n s
  · rfl

/-! ## The Weather Unit -/

theorem weatherNodeSwapped_weather : (weatherNodeSwapped old new s).weather =
    if new.kind = .weather then
      if old.moved new then { s.weather with status := .waiting, reference := some s.partTime, baseline := none }
      else { s.weather with baseline := none }
    else if old.kind = .weather then { s.weather with status := .noNode, reference := none, baseline := none }
    else s.weather := by
  unfold weatherNodeSwapped
  split
  next hk =>
    have hc : (old.kind ≠ .weather ∨ old.address ≠ new.address) ↔ old.moved new = true := by
      rw [moved_iff, hk]
      tauto
    simp only [hc]
    split
    · exact setWeather_weather _ s
    · rfl
  · split
    · exact setWeather_weather _ s
    · rfl

/-- The Weather Unit's part moves its own unit, and else what demand checks may. -/
theorem weatherNodeSwapped_water :
    WaterFrame (s.setWeatherUnit (weatherNodeSwapped old new s).weather) (weatherNodeSwapped old new s) := by
  have accrued (w : WeatherUnit) : WaterFrame (s.setWeatherUnit w) ((accrueAll s).setWeatherUnit w) := by
    rw [accrueAll_eq]
    exact { WaterFrame.refl (s.setWeatherUnit w) with }
  have set (w : WeatherUnit) : WaterFrame (s.setWeatherUnit (setWeather w s).weather) (setWeather w s) := by
    rw [setWeather_weather]
    by_cases h : RateMoves s w
    · rw [setWeather_moves h]
      exact (accrued w).trans (demandAll_frame _)
    · rw [setWeather_stays h]
      exact .refl _
  unfold weatherNodeSwapped
  split
  · split
    · exact set _
    · exact .refl _
  · split
    · exact set _
    · exact .refl _

variable {s}

/-- Outside RUNNING demand checks queue runs, and no more. -/
theorem demandAll_idle (hq : s.seq.state ≠ .running) :
    (demandAll s).valveLive = s.valveLive ∧ (demandAll s).lcq = s.lcq ∧ (demandAll s).seq = s.seq := by
  have checked (b : Fin 24) (t : State) (h : t.valveLive = s.valveLive ∧ t.lcq = s.lcq ∧ t.seq = s.seq) :
      (demandCheck b t).valveLive = s.valveLive ∧ (demandCheck b t).lcq = s.lcq ∧ (demandCheck b t).seq = s.seq := by
    unfold demandCheck
    split
    · exact h
    next v _ =>
      obtain ⟨live, lcq, seq⟩ := h
      have hq' : (t.setRuns (insertRun (autoRun t b v) t.runs)).seq.state ≠ .running := by
        rw [State.setRuns_seq, seq]
        exact hq
      rw [createRun, pass_idle hq']
      exact ⟨live, lcq, seq⟩
  obtain ⟨_, _, h⟩ := inAnyOrder_induction (next := Config.nextBed) (f := demandCheck)
    (P := fun _ t => t.valveLive = s.valveLive ∧ t.lcq = s.lcq ∧ t.seq = s.seq) (fun _ _ _ h => h) (fun _ b t => checked b t)
    ((usedBeds s).filter fun b => (demandValve s b).isSome).length ((usedBeds s).filter fun b => (demandValve s b).isSome) [] s
    (Nat.le_refl _) ⟨rfl, rfl, rfl⟩
  exact h

/-- Outside RUNNING the Weather Unit's part of a node swap moves no valve. -/
theorem weatherNodeSwapped_idle (hq : s.seq.state ≠ .running) : (weatherNodeSwapped old new s).valveLive = s.valveLive ∧
    (weatherNodeSwapped old new s).lcq = s.lcq ∧ (weatherNodeSwapped old new s).seq = s.seq := by
  have set (w : WeatherUnit) : (setWeather w s).valveLive = s.valveLive ∧ (setWeather w s).lcq = s.lcq ∧
      (setWeather w s).seq = s.seq := by
    by_cases hm : RateMoves s w
    · rw [setWeather_moves hm]
      have hs : ((accrueAll s).setWeatherUnit w).valveLive = s.valveLive ∧ ((accrueAll s).setWeatherUnit w).lcq = s.lcq ∧
          ((accrueAll s).setWeatherUnit w).seq = s.seq := by
        rw [accrueAll_eq]
        exact ⟨rfl, rfl, rfl⟩
      obtain ⟨live, lcq, seq⟩ := hs
      obtain ⟨live', lcq', seq'⟩ := demandAll_idle (s := (accrueAll s).setWeatherUnit w) (by rw [seq]; exact hq)
      exact ⟨live'.trans live, lcq'.trans lcq, seq'.trans seq⟩
    · rw [setWeather_stays hm]
      exact ⟨rfl, rfl, rfl⟩
  unfold weatherNodeSwapped
  split
  · split
    · exact set _
    · exact ⟨rfl, rfl, rfl⟩
  · split
    · exact set _
    · exact ⟨rfl, rfl, rfl⟩

end

end Sys2Proof.Machine
end

section
/-! SUPPORT. The swap of a node entry in its step: presence, probe, weather, demand and the valves of a lost decoder (10
R175, 03 R47, 04 R50, R54, R63, 05 R77, 07 R131). -/

namespace Sys2Proof.Machine

section
variable {n : Fin 48} {s t : State}

/-- The node entry that the swap brings. -/
def newNode (n : Fin 48) (s : State) : NodeRec := (swapped (.node n) s).nodes[n].active

/-- After the Node Table and the Reading Translator have taken the swap. -/
def reprobed (n : Fin 48) (s : State) : State :=
  probeSwapped n s.nodes[n].active (newNode n s) (nodeLiveSwapped n s.nodes[n].active (newNode n s) (swapped (.node n) s))

/-- After the Weather Unit has taken it too. -/
def reweathered (n : Fin 48) (s : State) : State := weatherNodeSwapped s.nodes[n].active (newNode n s) (reprobed n s)

theorem swapEffects_node_swapBase : swapEffects (.node n) (swapBase (.node n) s) =
    decoderSwapped n s.nodes[n].active (newNode n s) (reweathered n s) := by
  have hold : (swapBase (.node n) s).nodes[n].active = s.nodes[n].active := by
    simp [swapBase, oweSweep, markDue, onSlot, Entry.mark]
  simp only [swapEffects, activate_swapBase, hold]
  rfl

theorem reprobed_eq : reprobed n s = { s with
    nodes := (swapped (.node n) s).nodes, work := (swapped (.node n) s).work, notice := (reprobed n s).notice
    nodeLive := s.nodeLive.set n (s.nodeLive[n].afterSwap (s.nodes[n].active.moved (newNode n s)))
    probes := s.probes.set n (probeAfter n s.nodes[n].active (newNode n s) s) } := by
  have hp : probeAfter n s.nodes[n].active (newNode n s)
      (nodeLiveSwapped n s.nodes[n].active (newNode n s) (swapped (.node n) s)) =
      probeAfter n s.nodes[n].active (newNode n s) s := by
    rw [nodeLiveSwapped_eq]
    rfl
  rw [reprobed, probeSwapped_eq, hp, nodeLiveSwapped_eq]
  rfl

theorem SwapEnd.nodeBrought (h : SwapEnd (swapEffects (.node n) (swapBase (.node n) s)) t) :
    t.nodes[n].active = newNode n s := by
  rw [swapEffects_node_swapBase] at h
  have nodes : t.nodes = (reprobed n s).nodes :=
    h.water.nodes.trans ((decoderSwapped_field _ n _ _).nodes.trans (weatherNodeSwapped_field _ _ _).nodes)
  rw [nodes, reprobed_eq]
  rfl

/-- The swapped entry's live state and probe, and the Weather Unit. -/
theorem SwapEnd.noded (h : SwapEnd (swapEffects (.node n) (swapBase (.node n) s)) t) :
    t.nodeLive = s.nodeLive.set n (s.nodeLive[n].afterSwap (s.nodes[n].active.moved t.nodes[n].active)) ∧
    t.probes = s.probes.set n (probeAfter n s.nodes[n].active t.nodes[n].active s) ∧
    t.weather = if t.nodes[n].active.kind = .weather then
        if s.nodes[n].active.moved t.nodes[n].active then
          { s.weather with status := .waiting, reference := some s.partTime, baseline := none }
        else { s.weather with baseline := none }
      else if s.nodes[n].active.kind = .weather then { s.weather with status := .noNode, reference := none, baseline := none }
      else s.weather := by
  rw [h.nodeBrought]
  rw [swapEffects_node_swapBase] at h
  have water := h.water
  have lost : WaterFrame (reweathered n s) (decoderSwapped n s.nodes[n].active (newNode n s) (reweathered n s)) := by
    unfold decoderSwapped
    split
    · exact decoderLost_frame _ n
    · exact .refl _
  have weathered := weatherNodeSwapped_water s.nodes[n].active (newNode n s) (reprobed n s)
  refine ⟨?_, ?_, ?_⟩
  · rw [water.nodeLive, lost.nodeLive, reweathered, weathered.nodeLive, reprobed_eq]
    rfl
  · rw [water.probes, lost.probes, reweathered, weathered.probes, reprobed_eq]
    rfl
  · rw [water.weather, lost.weather, reweathered, weatherNodeSwapped_weather, reprobed_eq]

/-- A present node that moves is told of (03 R40, R47). -/
theorem SwapEnd.nodeChange (h : SwapEnd (swapEffects (.node n) (swapBase (.node n) s)) t)
    (hm : s.nodes[n].active.moved t.nodes[n].active = true) (hp : s.nodeLive[n].presence ≠ .absent) :
    t.notice.isSet .nodeChange = true := by
  rw [h.nodeBrought] at hm
  rw [swapEffects_node_swapBase] at h
  have set : (nodeLiveSwapped n s.nodes[n].active (newNode n s) (swapped (.node n) s)).notice.isSet .nodeChange = true :=
    nodeLiveSwapped_flag n _ _ _ hm hp
  have probed := (probeSwapped_field (nodeLiveSwapped n s.nodes[n].active (newNode n s) (swapped (.node n) s)) n
    s.nodes[n].active (newNode n s)).flags _ set
  exact h.water.flags _ ((decoderSwapped_field _ n _ _).flags _ ((weatherNodeSwapped_field _ _ _).flags _ probed))

/-- A WEATHER entry whose swap ends a FRESH figure changes the rate of every bed (04 R63, 05 R77). -/
theorem SwapEnd.unweathered (h : SwapEnd (swapEffects (.node n) (swapBase (.node n) s)) t)
    (hk : s.nodes[n].active.kind = .weather) (hf : s.weather.status = .fresh) (ht : t.weather.status ≠ .fresh) :
    DemandsMade (Asks s) (runBeds s) s t ∧
    ∀ b : Fin 24, s.beds[b].active.used = true → ∀ l, s.bedLive[b] = some l →
      t.bedLive[b] = some (BedLive.accrue s.weather.rate s.beds[b].active.dryingExposure s.partTime l) := by
  obtain ⟨-, -, hw⟩ := h.noded
  rw [h.nodeBrought] at hw
  have view : DemandView s (reprobed n s) := by
    rw [reprobed_eq]
    exact .of_eq rfl rfl rfl rfl rfl
  have runs : (reprobed n s).runs = s.runs := by rw [reprobed_eq]
  have weather : (reprobed n s).weather = s.weather := by rw [reprobed_eq]
  have set : ∃ w, RateMoves (reprobed n s) w ∧ reweathered n s = setWeather w (reprobed n s) := by
    unfold reweathered weatherNodeSwapped
    by_cases hn : (newNode n s).kind = .weather
    · rw [if_pos hn] at hw ⊢
      by_cases hm : s.nodes[n].active.moved (newNode n s) = true
      · have ha : s.nodes[n].active.address ≠ (newNode n s).address := by
          rw [moved_iff, hk, hn] at hm
          exact hm.resolve_right (not_not_intro rfl)
        rw [if_pos (.inr ha)]
        exact ⟨_, .inl ⟨by rw [weather]; exact hf, by simp⟩, rfl⟩
      · rw [if_neg hm] at hw
        rw [hw] at ht
        exact absurd hf ht
    · rw [if_neg hn, if_pos hk]
      exact ⟨_, .inl ⟨by rw [weather]; exact hf, by simp⟩, rfl⟩
  obtain ⟨w, moves, hset⟩ := set
  rw [swapEffects_node_swapBase, hset] at h
  have nolost : decoderSwapped n s.nodes[n].active (newNode n s) (setWeather w (reprobed n s)) =
      setWeather w (reprobed n s) := if_neg fun k => by rw [hk] at k; cases k.1
  rw [nolost] at h
  obtain ⟨made, accrued⟩ := setWeather_added moves
  rw [runBeds_congr runs] at made
  refine ⟨(made.granted h.later.granted).view (fun _ _ _ k => view.asked k)
    fun b l => view.asks_iff (fun c => by rw [runBeds_congr runs]) b l, fun b hu l hl => ?_⟩
  have hrate : effectiveRate (reprobed n s) b = s.weather.rate := by
    unfold effectiveRate
    rw [weather, if_pos hf]
  have hl' : (reprobed n s).bedLive[b] = some l := by
    rw [reprobed_eq]
    exact hl
  have htime : (reprobed n s).partTime = s.partTime := by rw [reprobed_eq]
  rw [h.later.granted.bedLive, accrued, accrueAll_bedLive, hrate, view.beds, if_pos hu, hl', htime]
  rfl

/-- The valves of a decoder swapped away lose it, and no other swap moves a valve (07 R131). -/
theorem SwapEnd.decoderValves (h : SwapEnd (swapEffects (.node n) (swapBase (.node n) s)) t) (hq : s.seq.state ≠ .running) :
    (∀ v : Fin 32, s.valves[v].active.used = true → s.valves[v].active.decoder = n.val →
      s.nodes[n].active.kind = .valveDecoder → s.nodes[n].active.moved t.nodes[n].active = true → DecoderLost v s t) ∧
    (s.nodes[n].active.kind ≠ .valveDecoder ∨ s.nodes[n].active.moved t.nodes[n].active = false →
      t.valveLive = s.valveLive) := by
  rw [h.nodeBrought]
  rw [swapEffects_node_swapBase] at h
  have hr : (reprobed n s).valveLive = s.valveLive ∧ (reprobed n s).lcq = s.lcq ∧ (reprobed n s).seq = s.seq := by
    rw [reprobed_eq]
    exact ⟨rfl, rfl, rfl⟩
  obtain ⟨live, lcq, seq⟩ := hr
  have idle := weatherNodeSwapped_idle s.nodes[n].active (newNode n s) (s := reprobed n s) (by rw [seq]; exact hq)
  rw [live, lcq, seq] at idle
  obtain ⟨live, lcq, seq⟩ := idle
  have valves : (reweathered n s).valves = s.valves := by
    rw [reweathered, (weatherNodeSwapped_field _ _ _).valves, reprobed_eq]
  have hq' : (reweathered n s).seq.state ≠ .running := by
    rw [reweathered, seq]
    exact hq
  have still := h.still (.inl (by rw [(decoderSwapped_field _ n _ _).march.state]; exact hq'))
  refine ⟨fun v hu hd hk hm => ?_, fun hn => ?_⟩
  · have lost : decoderSwapped n s.nodes[n].active (newNode n s) (reweathered n s) = decoderLost n (reweathered n s) :=
      if_pos ⟨hk, hm⟩
    rw [lost] at h still
    have hv : v ∈ valvesOn (reweathered n s) n := by
      refine List.mem_filter.2 ⟨List.mem_finRange v, ?_⟩
      rw [valves]
      rw [hu, hd]
      simp
    have fly : flying (reweathered n s) v .openValve = flying s v .openValve := by
      simp only [flying, reweathered, seq]
    refine (decoderLost_lost hq' hv).view (.of_eq live lcq) fly ?_ h.later.flags ?_
    · rw [still]
      exact .of_eq rfl rfl
    · rw [still]
      exact .of_runs rfl
  · have kept : decoderSwapped n s.nodes[n].active (newNode n s) (reweathered n s) = reweathered n s :=
      if_neg fun k => hn.elim (absurd k.1) fun hm => by rw [k.2] at hm; cases hm
    rw [kept] at still
    rw [still]
    exact live

end

end Sys2Proof.Machine
end

section
/-! SUPPORT. What the statement on swaps says of a node, a valve and a bed, clause by clause (10 R175). -/

namespace Sys2Proof.Machine

section
variable {s t : State}

/-- Presence of the swapped node, and of the others (03 R47). -/
theorem SwapEnd.nodePresence {n : Fin 48} (h : SwapEnd (swapEffects (.node n) (swapBase (.node n) s)) t) :
    let old := s.nodes[n].active
    let new := t.nodes[n].active
    let l := s.nodeLive[n]
    let moved := old.address ≠ new.address ∨ old.kind ≠ new.kind
    (moved → t.nodeLive[n] = { presence := .absent, misses := 0, forwarded := none
                               changed := l.changed || l.presence != .absent }) ∧
    (moved → l.presence ≠ .absent → t.notice.isSet .nodeChange = true) ∧
    (¬ moved → t.nodeLive[n] = { l with forwarded := none }) ∧
    ∀ m : Fin 48, m ≠ n → t.nodeLive[m] = s.nodeLive[m] := by
  intro old new l moved
  have hm : old.moved new = true ↔ moved := moved_iff old new
  obtain ⟨live, -, -⟩ := h.noded
  have self : t.nodeLive[n] = l.afterSwap (old.moved new) := by
    rw [live]
    simp [old, new, l]
  refine ⟨fun k => ?_, fun k => h.nodeChange (hm.2 k), fun k => ?_, fun m hne => ?_⟩
  · rw [self, hm.2 k]
    rfl
  · rw [self, Bool.eq_false_iff.2 (mt hm.1 k)]
    rfl
  · rw [live, getElem_set_other _ hne]

/-- The probe of the swapped node (04 R50, R54). -/
theorem SwapEnd.nodeProbe {n : Fin 48} (h : SwapEnd (swapEffects (.node n) (swapBase (.node n) s)) t) :
    let old := s.nodes[n].active
    let new := t.nodes[n].active
    let moved := old.address ≠ new.address ∨ old.kind ≠ new.kind
    (new.kind = .soilProbe → moved ∨ old.dry ≠ new.dry ∨ old.wet ≠ new.wet →
      t.probes[n] = some { state := .ok, rejects := 0, lastCount := none, reference := s.partTime }) ∧
    (new.kind = .soilProbe → ¬ (moved ∨ old.dry ≠ new.dry ∨ old.wet ≠ new.wet) → ∀ p, s.probes[n] = some p →
      t.probes[n] = some (if p.state = .faulted then { p with state := .ok, rejects := 0 } else p)) ∧
    (new.kind ≠ .soilProbe → t.probes[n] = none) := by
  intro old new moved
  have hc : old.recalibrated new = true ↔ moved ∨ old.dry ≠ new.dry ∨ old.wet ≠ new.wet := recalibrated_iff old new
  obtain ⟨-, probes, -⟩ := h.noded
  have self : t.probes[n] = probeAfter n old new s := by
    rw [probes]
    simp [old, new]
  refine ⟨fun hk k => ?_, fun hk k p hp => ?_, fun hk => ?_⟩
  · rw [self, probeAfter, if_pos hk, if_pos (hc.2 k)]
    rfl
  · rw [self, probeAfter, if_pos hk, if_neg (mt hc.1 k), hp]
    rfl
  · rw [self, probeAfter, if_neg hk]

/-- The Weather Unit at a node's swap (04 R63). -/
theorem SwapEnd.nodeWeather {n : Fin 48} (h : SwapEnd (swapEffects (.node n) (swapBase (.node n) s)) t) :
    let old := s.nodes[n].active
    let new := t.nodes[n].active
    let moved := old.address ≠ new.address ∨ old.kind ≠ new.kind
    let weather := s.weather
    (new.kind = .weather → t.weather = if moved then
        { weather with status := .waiting, reference := some s.partTime, baseline := none }
      else { weather with baseline := none }) ∧
    (new.kind ≠ .weather → old.kind = .weather → t.weather.status = .noNode ∧ t.weather.baseline = none ∧
      t.weather.temperature = weather.temperature ∧ t.weather.wind = weather.wind ∧ t.weather.rate = weather.rate) ∧
    (new.kind ≠ .weather → old.kind ≠ .weather → t.weather = weather) := by
  intro old new moved weather
  have hm : old.moved new = true ↔ moved := moved_iff old new
  obtain ⟨-, -, unit⟩ := h.noded
  refine ⟨fun hk => ?_, fun hk ho => ?_, fun hk ho => ?_⟩
  · rw [unit, if_pos hk]
    exact if_congr hm rfl rfl
  · rw [unit, if_neg hk, if_pos ho]
    exact ⟨rfl, rfl, rfl, rfl, rfl⟩
  · rw [unit, if_neg hk, if_neg ho]

/-! ## The live valve -/

/-- A live valve after its entry's swap (07 R140). -/
theorem ValveLive.afterSwap_eq (old new : ValveRec) (l : ValveLive) :
    let plain := { l with state := .closed, mode := .auto, owner := none, attempts := 0 }
    let rewired := old.decoder ≠ new.decoder ∨ old.output ≠ new.output
    (old.used = false → new.used = true → l.afterSwap old new = { plain with assumedOpen := false }) ∧
    (old.used = true → new.used = false → l.afterSwap old new = plain) ∧
    (old.used = true → new.used = true → l.afterSwap old new =
      if rewired ∧ l.state = .fault then { l with state := .closed, attempts := 0 } else l) := by
  intro plain rewired
  have hr : (old.rewired new = true ∧ l.state = .fault) ↔ (rewired ∧ l.state = .fault) := by
    simp [ValveRec.rewired, rewired]
  refine ⟨fun ho hn => ?_, fun ho hn => ?_, fun ho hn => ?_⟩
  · simp [ValveLive.afterSwap, ho, hn, plain]
  · simp [ValveLive.afterSwap, ho, hn, plain]
  · rw [← if_congr hr rfl rfl]
    simp [ValveLive.afterSwap, ho, hn]

/-- The valve swapped outside RUNNING, with the condition of its swap met (10 R171). -/
theorem SwapEnd.valveActs {v : Fin 32} (h : SwapEnd (swapEffects (.valve v) (swapBase (.valve v) s)) t)
    (hr : slotReady s (.valve v) = true) (hq : s.seq.state ≠ .running) :
    let old := s.valves[v].active
    let new := t.valves[v].active
    let l := s.valveLive[v]
    let rewired := old.decoder ≠ new.decoder ∨ old.output ≠ new.output
    let plain := { l with state := .closed, mode := .auto, owner := none, attempts := 0 }
    (old.used = false → new.used = true → t.valveLive[v] = { plain with assumedOpen := false }) ∧
    (old.used = true → new.used = false → t.valveLive[v] = plain) ∧
    (old.used = true → new.used = true → t.valveLive[v] =
      if rewired ∧ l.state = .fault then { l with state := .closed, attempts := 0 } else l) ∧
    (old.used = true → new.used = false ∨ rewired → l.state = .fault → commandWaits t v = false) ∧
    ∀ w : Fin 32, w ≠ v → t.valveLive[w] = s.valveLive[w] := by
  intro old new l rewired plain
  obtain ⟨self, others, withdrawn⟩ := h.valved hq
  obtain ⟨setUp, cleared, rewiring⟩ := ValveLive.afterSwap_eq old new l
  refine ⟨fun ho hn => self.trans (setUp ho hn), fun ho hn => self.trans (cleared ho hn),
    fun ho hn => self.trans (rewiring ho hn), fun ho hn hf => withdrawn ?_, others⟩
  have hopen : l.assumedOpen = false := by
    obtain ⟨-, hc⟩ := (Bool.and_eq_true _ _).mp hr
    have hs : s.valveLive[v].state = .fault := hf
    rw [hs] at hc
    show s.valveLive[v].assumedOpen = false
    simpa using hc
  have hn' : new.used = false ∨ old.rewired new = true := hn.imp_right fun k => by simpa [ValveRec.rewired] using k
  show withdrawsAtSwap old new l = true
  simp only [withdrawsAtSwap, ho, hf, hopen]
  rcases hn' with k | k <;> simp [k]

/-! ## The balance -/

/-- The swapped bed, its balance and its demand check (05 R87 to R89). -/
theorem SwapEnd.bedActs {b : Fin 24} (h : SwapEnd (swapEffects (.bed b) (swapBase (.bed b) s)) t) (ht : TableLaw s)
    (hc : firstFailure [.bed b] s = none) :
    let old := s.beds[b].active
    let new := t.beds[b].active
    let sameProbes := ∀ n : Fin 48, old.names n = new.names n
    (new.used = false → t.bedLive[b] = none) ∧
    (new.used = true → old.used = false → t.bedLive[b] = some {
      estimate := 0, estimateValid := false, deficit := 0, accrualResidue := 0, rainResidue := 0, waterResidue := 0
      lastAccrual := s.partTime, holdEnd := none, probeStale := false, evaluateAt := s.partTime + 600 }) ∧
    (new.used = true → old.used = true → ∀ l, s.bedLive[b] = some l →
      let a := BedLive.accrue (effectiveRate s b) old.dryingExposure s.partTime l
      let kept := { a with waterResidue := if old.area = new.area then a.waterResidue else 0 }
      (sameProbes → t.bedLive[b] = some kept) ∧
      (¬ sameProbes → t.bedLive[b] = some { kept with estimateValid := false, probeStale := false })) ∧
    ∀ c : Fin 24, c ≠ b → t.bedLive[c] = s.bedLive[c] := by
  intro old new sameProbes
  obtain ⟨beds, live, -⟩ := h.bedded
  have self : t.bedLive[b] = BedLive.afterSwap old new s.partTime
      (s.bedLive[b].map (BedLive.accrue (effectiveRate s b) old.dryingExposure s.partTime)) := by
    rw [live]
    simp [old, new]
  refine ⟨fun hn => ?_, fun hn ho => ?_, fun hn ho l hl => ?_, fun c hne => by rw [live, getElem_set_other _ hne]⟩
  · rw [self]
    simp [BedLive.afterSwap, hn]
  · rw [self]
    simp [BedLive.afterSwap, hn, ho]
  · have tables : TableLaw (swapped (.bed b) s) := by
      by_contra hno
      have hno' : crossChecks (activate (.bed b) s) = false := Bool.eq_false_iff.2 hno
      simp [firstFailure, hno'] at hc
    have single : new.SingleProbes := by
      have hb : new = (swapped (.bed b) s).beds[b].active := by
        show t.beds[b].active = _
        rw [beds]
      rw [hb] at hn ⊢
      exact tables.singleProbes hn
    have probes : old.sameProbes new = true ↔ sameProbes := sameProbes_iff (ht.singleProbes ho) single
    have kept := self
    rw [hl, Option.map_some, afterSwap_kept ho hn] at kept
    refine ⟨fun k => ?_, fun k => ?_⟩
    · rw [kept, probes.2 k, Bool.and_true, Bool.and_true]
    · rw [kept, Bool.eq_false_iff.2 (mt probes.1 k), Bool.and_false, Bool.and_false]

end

end Sys2Proof.Machine
end

section
/-! PROOF. UPDATE of one entry that swaps at once acts on the live state as that entry's table says (10 R175, R176). -/

namespace Sys2Proof.Machine

/-- The sequencer's figures that a swap keeps (10 R174). -/
theorem SwapEnd.figures {x : Slot} {s t : State} (h : SwapEnd (swapEffects x (swapBase x s)) t) :
    t.seq.state = s.seq.state ∧ t.seq.cycleLength = s.seq.cycleLength ∧ t.seq.replyWindow = s.seq.replyWindow := by
  rw [h.seq]
  exact ⟨rfl, rfl, rfl⟩

/-- Settles O60: the step is the swap of the one entry and the end of a step that grants at most; each table's clauses follow from
what its swap does. -/
theorem swapsActAsTheirTablesSay : Obligations.SwapsActAsTheirTablesSay := by
  intro code xs x s ht hr hd hn hf hc hs hstop htab hqueue hlock
  obtain ⟨p, t, he, hans, hend⟩ := update_swapEnd ht hd hn hf hc hs hstop
  have hpend : slotPending s x = true := (List.mem_filter.1 (hf ▸ List.mem_singleton_self x)).2
  have hr' : Rested (s.setHub p) := hr
  have hlock' : LockLaw (s.setHub p) := hlock
  have hqueue' : QueueLaw (s.setHub p) := hqueue
  obtain ⟨hdue, hnone, hactive, hothers⟩ := hend.tables hd hpend
  obtain ⟨hstate, hcycle, hwindow⟩ := hend.figures
  refine ⟨t, he, hans, hdue, hend.done, hnone, hactive, hothers, hstate, hcycle, hwindow, ?_, ?_, ?_, ?_, ?_, ?_, ?_, ?_⟩
  · rintro n rfl
    have hq := not_running_of_ready hr hs
    have hm := moved_iff s.nodes[n].active t.nodes[n].active
    obtain ⟨lost, flagged, heard, others⟩ := hend.nodePresence
    obtain ⟨fresh, returned, gone⟩ := hend.nodeProbe
    obtain ⟨weather, removed, kept⟩ := hend.nodeWeather
    obtain ⟨valves, still⟩ := hend.decoderValves hq
    exact ⟨lost, flagged, heard, others, fresh, returned, gone, weather, removed, kept, hend.unweathered,
      fun v hu hdec hk k => valves v hu hdec hk (hm.2 k),
      fun k => still (k.imp_right fun hno => Bool.eq_false_iff.2 (mt hm.1 hno))⟩
  · rintro ⟨i, rfl⟩
    exact hend.polled hr' hs
  · rintro v rfl
    obtain ⟨recent, changed⟩ := hend.valveChange
    exact ⟨recent, changed, hend.valveActs hs⟩
  · rintro b rfl
    obtain ⟨-, -, made⟩ := hend.bedded
    obtain ⟨unused, fresh, kept, others⟩ := hend.bedActs htab hc
    exact ⟨unused, fresh, kept, others, made⟩
  · rintro rfl
    obtain ⟨inputs, high, low, leak⟩ := hend.inputs hlock'
    obtain ⟨flow, noFlow⟩ := hend.flowWindow hlock'
    refine ⟨inputs, high, low, leak, fun k => flow ?_, fun ka kb => noFlow ?_, hend.rainContact hlock',
      hend.suppliedLock hlock' hqueue'⟩
    · simpa [SupplyRec.hasFlow] using k
    · simp [SupplyRec.hasFlow, ka, kb]
  · rintro rfl
    obtain ⟨only, mon⟩ := hend.lined hr' hs
    refine ⟨only, fun ha => mon.trans (if_pos ha), fun hno hm => ?_, fun hno hm => ?_⟩
    · exact mon.trans ((if_neg hno).trans (if_pos hm))
    · exact mon.trans ((if_neg hno).trans (if_neg (Option.isSome_iff_ne_none.1 hm)))
  · intro hx
    obtain ⟨weather, held, fresh⟩ := hend.rate hx
    obtain ⟨stays, moves⟩ := hend.rateMoved hx hr'
    refine ⟨weather, held, fun k => ?_, stays, moves⟩
    rw [fresh k]
    exact dryingRate_is _ _ _ _
  · rintro i rfl
    obtain ⟨locks, recs⟩ := hend.relocked
    obtain ⟨cond, freeze, wind⟩ := condSwapped_same i (swapped (.lock i) (s.setHub p))
    rw [locks, recs]
    refine ⟨hend.lockMoved hqueue', rfl, rfl, cond, freeze, wind, ?_, ?_⟩
    · rintro temp v k rfl
      exact (Bool.eq_iff_iff.1 (condSwapped_freeze (s := swapped (.lock 2) (s.setHub p)) k)).trans (freezeNext_iff _ _ _)
    · rintro temp v k rfl
      exact (Bool.eq_iff_iff.1 (condSwapped_wind (s := swapped (.lock 3) (s.setHub p)) k)).trans (windNext_iff _ _ _)

end Sys2Proof.Machine
end

section
/-! SUPPORT. The end of a step with no entry SWAP_DUE, whatever the Sequencer's state and whatever clearing is owed: grants,
release checks and withdrawn opens alone (01 R19, 02 R25), so runs, balances and the Supply Monitor's inputs stand. -/

namespace Sys2Proof.Machine

section
variable (s : State)

/-! ## Withdrawn opens -/

theorem detach_bedLive (v : Fin 32) : (detach v s).bedLive = s.bedLive := by
  rcases detach_eq s v with h | ⟨_, _, _, _, _, h⟩ <;> rw [h]
  rfl

theorem setFifo_bedLive (f : List FifoEntry) : (setFifo f s).bedLive = s.bedLive := by
  rcases setFifo_cases s f with h | ⟨-, h⟩ <;> rw [h] <;> rfl

theorem closeRequest_bedLive (v : Fin 32) : (closeRequest v s).bedLive = s.bedLive := by
  simp only [closeRequest]
  split
  · rfl
  · exact setFifo_bedLive s _
  · show (if _ then _ else _ : State).bedLive = _
    split <;> split <;> simp [dropOpen, setFifo_bedLive, detach_bedLive]

theorem closeRequest_granted (v : Fin 32) : Granted s (closeRequest v s) :=
  .of_eq (closeRequest_frame s v).locks (closeRequest_runs s v) (closeRequest_bedLive s v) (closeRequest_valveLive s v)
    (.of_monitor (closeRequest_frame s v).partTime (closeRequest_monitor s v))

/-- A change of a valve that keeps its mode and enters neither FAULT nor OPEN tells its owner nothing. -/
theorem changeValve_granted (v : Fin 32) (l : ValveLive) (hm : l.mode = s.valveLive[v].mode)
    (hf : l.state = .fault ↔ s.valveLive[v].state = .fault) (ho : l.state ≠ .opened) : Granted s (changeValve v l s) := by
  have silent (ends : Fin 24 → State → State) (t : State) : tellOwner ends s.valveLive[v] l t = t := by
    unfold tellOwner
    split
    · rfl
    · rw [if_neg, if_neg fun k => ho k.1]
      rintro (⟨h1, h2⟩ | h)
      · exact h2 (hf.1 h1)
      · exact h hm.symm
  simp only [changeValve, silent]
  split
  · exact (writeValve_granted s v l hm hf).trans (pass_granted _)
  · exact writeValve_granted s v l hm hf

theorem openWithdrawn_granted (v : Fin 32) (sent : Bool) : Granted s (openWithdrawn v sent s) := by
  have live := closeRequest_valveLive s v
  simp only [openWithdrawn]
  split
  next h =>
    have sound : s.valveLive[v].state ≠ .fault := by rw [h]; simp
    split
    · refine (closeRequest_granted s v).trans (changeValve_granted _ v _ ?_ (iff_of_false (by simp) ?_) (by simp))
      · rw [live]
      · rwa [live]
    · exact changeValve_granted s v _ rfl (iff_of_false (by simp) sound) (by simp)
  · exact .refl s

/-! ## Clearings of the command FIFO -/

theorem leaveFifo_granted (leaves : FifoEntry → Bool) (order : List HubFrame) (n : Nat) :
    Granted s (leaveFifo leaves order n s) :=
  have frame := setFifo_frame s (s.lcq.fifo.filter fun e => !leaves e)
  .of_eq frame.locks (setFifo_runs s _) (setFifo_bedLive s _) (setFifo_valveLive s _)
    (.of_monitor frame.partTime (setFifo_monitor s _))

theorem Granted.foldl {α : Type} {f : State → α → State} (hf : ∀ s a, Granted s (f s a)) (as : List α) (s : State) :
    Granted s (as.foldl f s) := by
  induction as generalizing s with
  | nil => exact .refl s
  | cons a as ih => exact (hf s a).trans (ih (f s a))

theorem withdrawOpens_granted (gone : List FifoEntry) : Granted s (withdrawOpens gone s) := by
  refine .foldl (fun t v => ?_) _ s
  split
  · exact openWithdrawn_granted t v _
  · exact .refl t

theorem clearEntries_granted (leaves : FifoEntry → Bool) : Granted s (clearEntries leaves s) := by
  obtain ⟨order, n, -, h⟩ := clearEntries_eq leaves s
  rw [h]
  exact (leaveFifo_granted s leaves order n).trans (withdrawOpens_granted _ _)

theorem setQueue_granted (q : LineQueue) : Granted s (s.setQueue q) := .of_eq rfl rfl rfl rfl (.of_monitor rfl rfl)

theorem clearFifo_granted : Granted s (clearFifo s) := (setQueue_granted s _).trans (clearEntries_granted _ _)

theorem payClearing_granted (tx : Transmission) : Granted s (payClearing tx s) := by
  simp only [payClearing]
  split
  · exact clearFifo_granted s
  · split
    · split
      · exact (setQueue_granted s _).trans (clearEntries_granted _ _)
      · exact setQueue_granted s _
    · exact .refl s

/-! ## The end of the step -/

theorem setWork_granted (w : Work) : Granted s (s.setWork w) := .of_eq rfl rfl rfl rfl (.of_monitor rfl rfl)

theorem marksStop_granted : Granted s (marksStop s) := by
  have timed : Granted s { s with beacon := some (s.partTime + 10) } := .of_eq rfl rfl rfl rfl (.of_monitor rfl rfl)
  simp only [marksStop]
  split
  · exact timed.trans (setQueue_granted _ _)
  · exact timed.trans (clearFifo_granted _)

theorem enterStopped_granted : Granted s (enterStopped s) := by
  have quieted : Granted s (quiet .stopped s) := .of_eq rfl rfl rfl rfl (.of_monitor rfl rfl)
  have idled (q : Sequencer) : Granted (quiet .stopped s) ((quiet .stopped s).setSeq q) :=
    .of_eq rfl rfl rfl rfl (.of_monitor rfl rfl)
  simp only [enterStopped]
  split
  · exact (quieted.trans (idled _)).trans (marksStop_granted _)
  · exact quieted.trans (marksStop_granted _)

theorem examineStop_granted : Granted s (examineStop s) := by
  simp only [examineStop]
  split
  · exact (setWork_granted s _).trans (enterStopped_granted _)
  · exact setWork_granted s _

theorem arbitrate_granted : Granted s (arbitrate s) := by
  rw [arbitrate_eq]
  exact .of_eq rfl rfl rfl rfl (.of_monitor rfl rfl)

variable {s}

/-- With no entry SWAP_DUE the end of a step grants, releases and withdraws, in STOPPING too. -/
theorem complete_granted (hd : NoSwapDue s) : Granted s (complete s) := by
  have turns : Granted s (settleTurns 1024 s) :=
    settleTurns_induction (P := Granted s) (fun t _ h => h.trans (examineStop_granted t)) (fun t _ h => h.trans (pass_granted t))
      (fun t w h => h.trans (setWork_granted t w)) 1024 hd (.refl s)
  have settled : Granted (settleTurns 1024 s) (settle s) := .of_eq rfl rfl rfl rfl (.of_monitor rfl rfl)
  exact (turns.trans settled).trans (arbitrate_granted (settle s))

/-- What the end of a step leaves alone, the arbiter's choice leaves alone too. -/
theorem complete_flags (f : Flag) (h : s.notice.isSet f = true) : (complete s).notice.isSet f = true := by
  rw [complete, arbitrate_isSet]
  exact (settle_settle s).flags f h

/-! ## Steps that only water -/

theorem OnlyWaterChanges.arbitrate {t : State} (h : OnlyWaterChanges s t) : OnlyWaterChanges s (arbitrate t) := by
  unfold OnlyWaterChanges at h
  rw [arbitrate_eq, h]
  rfl

/-- Outside STOPPING, or with nothing owed, a water move and the end of its step only water. -/
theorem WaterFrame.completed {t : State} (h : WaterFrame s t) (hd : NoSwapDue s) (hw : s.seq.state ≠ .stopping ∨ WorkLaw t) :
    OnlyWaterChanges s (complete t) := by
  refine OnlyWaterChanges.arbitrate ?_
  rcases hw with hs | hw
  · obtain ⟨u, hu, e⟩ := settle_water (h.field.line.noSwapDue hd) (by rw [h.seq]; exact hs)
    rw [e]
    exact (h.trans hu).onlyWater
  · rw [settle_workless hw]
    exact h.onlyWater

end

/-! ## Demand checks where no pass grants -/

/-- Outside RUNNING the work owed is as it was. -/
def IdleWork (s t : State) : Prop := t.seq.state = s.seq.state ∧ (s.seq.state ≠ .running → t.work = s.work)

theorem IdleWork.refl (s : State) : IdleWork s s := ⟨rfl, fun _ => rfl⟩

theorem IdleWork.trans {s t u : State} (h : IdleWork s t) (k : IdleWork t u) : IdleWork s u :=
  ⟨k.1.trans h.1, fun e => (k.2 (by rw [h.1]; exact e)).trans (h.2 e)⟩

theorem IdleWork.law {s t : State} (h : IdleWork s t) (hw : WorkLaw s) : s.seq.state ≠ .stopping ∨ WorkLaw t := by
  by_cases hs : s.seq.state = .stopping
  · exact .inr ((h.2 (by rw [hs]; simp)).trans hw)
  · exact .inl hs

theorem demandCheck_idleWork (b : Fin 24) (s : State) : IdleWork s (demandCheck b s) := by
  have made (r : Run) : IdleWork s (createRun r s) := by
    refine ⟨(createRun_frame s r).field.march.state, fun h => ?_⟩
    have idle : (s.setRuns (insertRun r s.runs)).seq.state ≠ .running := h
    rw [createRun, pass_idle idle]
    rfl
  unfold demandCheck
  split
  · exact .refl s
  · exact made _

theorem demandAll_idleWork (s : State) : IdleWork s (demandAll s) :=
  inAnyOrder_keeps .refl .trans (fun _ _ => ⟨rfl, fun _ => rfl⟩) demandCheck_idleWork _ _ s

end Sys2Proof.Machine
end

section
/-! PROOF. EVALUATION_EXPIRY judges one bed, and WEATHER_STALENESS_EXPIRY makes the weather STALE (04 R55, R61, 05 R75, R77, R82). -/

namespace Sys2Proof.Machine

/-! ## The probes judged -/

theorem ProbeLive.judge_judge (now : Nat) (p : ProbeLive) : (p.judge now).judge now = p.judge now := by
  by_cases h : p.state = .ok ∧ p.reference + 10800 ≤ now
  · have stale : p.judge now = { p with state := .stale } := if_pos h
    rw [stale]
    exact if_neg (by simp)
  · have same : p.judge now = p := if_neg h
    rw [same, same]

theorem OnlyWaterChanges.weather {s t : State} (h : OnlyWaterChanges s t) : t.weather = s.weather := by rw [h]
theorem OnlyWaterChanges.probes {s t : State} (h : OnlyWaterChanges s t) : t.probes = s.probes := by rw [h]

section
variable (s : State)

theorem judgeProbe_eq (n : Fin 48) : judgeProbe n s = s.setProbe n (s.probes[n].map (ProbeLive.judge s.partTime)) := by
  unfold judgeProbe
  cases h : s.probes[n] with
  | none =>
    have same : s.probes.set n none = s.probes := by rw [← h]; simp
    simp only [Option.map_none, State.setProbe, same]
  | some p => rfl

/-- Judging probes touches probes alone, and each one named once or twice alike. -/
theorem foldl_judgeProbe (ns : List (Fin 48)) :
    (ns.foldl (fun t n => judgeProbe n t) s) = { s with probes := (ns.foldl (fun t n => judgeProbe n t) s).probes } ∧
    ∀ n : Fin 48, (ns.foldl (fun t n => judgeProbe n t) s).probes[n] =
      if n ∈ ns then s.probes[n].map (ProbeLive.judge s.partTime) else s.probes[n] := by
  induction ns generalizing s with
  | nil => exact ⟨rfl, fun n => by simp⟩
  | cons m ns ih =>
    obtain ⟨alone, judged⟩ := ih (judgeProbe m s)
    rw [List.foldl_cons]
    refine ⟨by rw [alone, judgeProbe_eq]; rfl, fun n => ?_⟩
    have time : (judgeProbe m s).partTime = s.partTime := by rw [judgeProbe_eq]; rfl
    rw [judged, time, judgeProbe_eq, State.setProbe_probes]
    by_cases hn : n = m
    · subst hn
      simp [Function.comp_def, ProbeLive.judge_judge]
    · rw [getElem_set_other _ hn]
      simp [hn]

/-! ## The evaluation of a bed -/

/-- The probes that a bed names, judged. -/
def probesJudged (b : Fin 24) : State := (probesOf s b).foldl (fun t n => judgeProbe n t) s

theorem probesJudged_eq (b : Fin 24) : probesJudged s b = { s with probes := (probesJudged s b).probes } :=
  (foldl_judgeProbe s _).1

theorem mem_probesOf (b : Fin 24) (n : Fin 48) :
    n ∈ probesOf s b ↔ s.beds[b].active.probeA = n.val ∨ s.beds[b].active.probeB = n.val := by
  simp only [probesOf, List.mem_filterMap, List.mem_cons, List.not_mem_nil, or_false, exists_eq_or_imp, exists_eq_left,
    nodeRef_eq_some]

theorem probesJudged_probes (b : Fin 24) (n : Fin 48) : (probesJudged s b).probes[n] =
    if s.beds[b].active.probeA = n.val ∨ s.beds[b].active.probeB = n.val then s.probes[n].map (ProbeLive.judge s.partTime)
    else s.probes[n] :=
  ((foldl_judgeProbe s _).2 n).trans (if_congr (mem_probesOf s b n) rfl rfl)

/-- PROBE_STALE: a bed names a probe, and none it names is OK (05 R80). -/
theorem probesStale_iff (b : Fin 24) : probesStale s b = true ↔
    (∃ n, n ∈ probesOf s b) ∧ ∀ n ∈ probesOf s b, ∀ p, s.probes[n] = some p → p.state ≠ .ok := by
  unfold probesStale
  simp only [Bool.and_eq_true, Bool.not_eq_true', List.isEmpty_eq_false_iff_exists_mem, List.all_eq_true]
  refine and_congr_right fun _ => forall₂_congr fun n _ => ?_
  cases s.probes[n] <;> simp

/-- The evaluation of a bed, up to its demand check (05 R82). -/
theorem evaluate_eq (b : Fin 24) : evaluate b s = (probesJudged s b).setBedLive b (s.bedLive[b].map fun l =>
    BedLive.accrue (effectiveRate s b) s.beds[b].active.dryingExposure s.partTime
      { l with probeStale := probesStale (probesJudged s b) b, evaluateAt := l.evaluateAt + 600 }) := by
  have plain : evaluate b s = accrue b (onBed b (fun l => { l with
      probeStale := probesStale (probesJudged s b) b, evaluateAt := l.evaluateAt + 600 }) (probesJudged s b)) := rfl
  rw [plain, onBed_eq, accrue_eq]
  generalize probesStale (probesJudged s b) b = x
  rw [probesJudged_eq]
  simp [State.setBedLive, Function.comp_def]
  rfl

theorem evaluate_view (b : Fin 24) : DemandView s (evaluate b s) ∧ (evaluate b s).runs = s.runs ∧
    (evaluate b s).valveLive = s.valveLive ∧ (evaluate b s).work = s.work ∧
    WaterFrame { s with probes := (probesJudged s b).probes } (evaluate b s) := by
  rw [evaluate_eq, probesJudged_eq]
  exact ⟨.of_eq rfl rfl rfl rfl rfl, rfl, rfl, rfl, setBedLive_frame { s with probes := (probesJudged s b).probes } b _⟩

/-! ## EVALUATION_EXPIRY -/

variable {s} in
/-- The step that evaluates a bed: its probes, its balance, and its demand check (05 R82, R83). -/
theorem evaluationExpires {b : Fin 24} {l : BedLive} (hl : s.bedLive[b] = some l) (hw : WorkLaw s) (hd : NoSwapDue s) :
    let t := complete (demandCheck b (evaluate b s))
    OnlyWaterChanges { s with probes := (probesJudged s b).probes } t ∧
    t.bedLive = s.bedLive.set b (some (BedLive.accrue (effectiveRate s b) s.beds[b].active.dryingExposure s.partTime
      { l with evaluateAt := l.evaluateAt + 600, probeStale := probesStale (probesJudged s b) b })) ∧
    DemandsMade (fun c l' => c = b ∧ Asks s b l') (runBeds s) s t ∧
    (∀ l', t.bedLive[b] = some l' → ¬ Asks s b l' → t.runs = s.runs ∧ t.valveLive = s.valveLive) := by
  intro t
  obtain ⟨view, runs, live, work, frame⟩ := evaluate_view s b
  obtain ⟨added, hadd, hn, hmem⟩ := demandCheck_added (evaluate b s) b
  have water := frame.trans (demandCheck_frame _ b)
  have hd' : NoSwapDue (demandCheck b (evaluate b s)) := water.field.line.noSwapDue hd
  have granted : Granted (demandCheck b (evaluate b s)) t := complete_granted hd'
  have asks (c : Fin 24) (l' : BedLive) : Asks (evaluate b s) c l' ↔ Asks s c l' :=
    view.asks_iff (fun _ => by rw [runBeds_congr runs]) c l'
  have balances : t.bedLive = (evaluate b s).bedLive := granted.bedLive.trans hadd.bedLive
  refine ⟨?_, ?_, ?_, fun l' hl' hno => ?_⟩
  · refine water.completed hd ?_
    have idle := (demandCheck_idleWork b (evaluate b s)).law (work.trans hw)
    rwa [frame.seq] at idle
  · rw [balances, evaluate_eq, hl, probesJudged_eq]
    rfl
  · have made := (hadd.demandsMade hn hmem).granted granted
    rw [runBeds_congr runs] at made
    exact made.view (fun _ _ _ k => view.asked k) fun c l' => and_congr_right fun _ => asks b l'
  · have still : demandCheck b (evaluate b s) = evaluate b s := by
      rw [demandCheck]
      split
      · rfl
      next v hv =>
        obtain ⟨-, l'', hl'', ha⟩ := (demandValve_eq_some _ b v).1 hv
        rw [← balances, hl'] at hl''
        cases hl''
        exact absurd ((asks b l').1 ha) hno
    have idle : t = arbitrate (judgeMv (evaluate b s)) := by
      show arbitrate (settle (demandCheck b (evaluate b s))) = _
      rw [still, settle_workless (work.trans hw)]
    rw [idle, arbitrate_runs, arbitrate_valveLive]
    exact ⟨runs, live⟩

/-! ## WEATHER_STALENESS_EXPIRY -/

variable {s} in
/-- A change of the Weather Unit is a water move beside it. -/
theorem setWeather_water (w : WeatherUnit) : WaterFrame { s with weather := w } (setWeather w s) ∧
    IdleWork s (setWeather w s) := by
  by_cases h : RateMoves s w
  · rw [setWeather_moves h, accrueAll_eq]
    have credited : WaterFrame { s with weather := w } ({ s with bedLive := (accrueAll s).bedLive }.setWeatherUnit w) :=
      { WaterFrame.refl { s with weather := w } with }
    exact ⟨credited.trans (demandAll_frame _), .trans ⟨rfl, fun _ => rfl⟩ (demandAll_idleWork _)⟩
  · rw [setWeather_stays h]
    exact ⟨.refl _, rfl, fun _ => rfl⟩

variable {s} in
/-- FRESH weather goes STALE: every used bed is accrued at R, and a demand check of each follows (04 R61, 05 R77). -/
theorem freshGoesStale (hf : s.weather.status = .fresh) (hw : WorkLaw s) (hd : NoSwapDue s) :
    let t := complete (setWeather { s.weather with status := .stale } (setFlag .weatherStale s))
    t.weather = { s.weather with status := .stale } ∧ OnlyWaterChanges { s with weather := t.weather } t ∧
    t.notice.isSet .weatherStale = true ∧ DemandsMade (Asks s) (runBeds s) s t ∧
    ∀ b : Fin 24, s.beds[b].active.used = true → ∀ l, s.bedLive[b] = some l →
      t.bedLive[b] = some (BedLive.accrue s.weather.rate s.beds[b].active.dryingExposure s.partTime l) := by
  intro t
  have moves : RateMoves (setFlag .weatherStale s) { s.weather with status := .stale } := .inl ⟨hf, by simp⟩
  obtain ⟨made, accrued⟩ := setWeather_added moves
  obtain ⟨water, idle⟩ := setWeather_water (s := setFlag .weatherStale s) { s.weather with status := .stale }
  have hd' := water.field.line.noSwapDue (s := { setFlag .weatherStale s with weather := _ }) hd
  have granted : Granted _ t := complete_granted hd'
  have from_s : WaterFrame { s with weather := { s.weather with status := .stale } }
      (setWeather { s.weather with status := .stale } (setFlag .weatherStale s)) :=
    (setFlag_frame { s with weather := { s.weather with status := .stale } } .weatherStale).trans water
  have only := from_s.completed hd (idle.law hw)
  have weather : t.weather = { s.weather with status := .stale } := only.weather
  refine ⟨weather, ?_, complete_flags _ (water.flags _ ?_), ?_, fun b hu l hl => ?_⟩
  · rw [weather]
    exact only
  · simp [setFlag, NoticeUnit.isSet_raise]
  · exact (made.granted granted).view (fun _ _ _ k => k) fun _ _ => Iff.rfl
  · have rate : effectiveRate (setFlag .weatherStale s) b = s.weather.rate := if_pos hf
    have used : (setFlag .weatherStale s).beds[b].active.used = true := hu
    have live : (setFlag .weatherStale s).bedLive[b] = some l := hl
    rw [granted.bedLive, accrued, accrueAll_bedLive, if_pos used, rate, live]
    rfl

/-- Where no rate was in force the weather only goes STALE, with its flag (04 R61, 11 R186). -/
theorem waitingGoesStale (hw : s.weather.status = .waiting) (hr : Rested s) :
    complete (setWeather { s.weather with status := .stale } (setFlag .weatherStale s)) = arbitrate { s with
      weather := { s.weather with status := .stale }
      notice := { s.notice with
        flags := s.notice.flags ||| 4096#32
        pending := s.notice.pending || !s.notice.flags.getLsbD 12 && s.notice.mask.getLsbD 12 } } := by
  have stays : ¬ RateMoves (setFlag .weatherStale s) { s.weather with status := .stale } := by simp [RateMoves, hw]
  rw [setWeather_stays stays]
  exact complete_rested (hr.congr rfl rfl rfl rfl rfl rfl)

/-- Settles O36: the bed is judged, accrued and checked for demand; the weather goes STALE with or without a rate to accrue at. -/
theorem evaluationAndStalenessAccrueBeds : Obligations.EvaluationAndStalenessAccrueBeds := by
  refine ⟨fun rate exposure now l => ?_, fun b s => ⟨fun h => if_pos h, fun h => if_neg h⟩, fun b l s hl hdue hr hd => ?_,
    fun ref s href hold hr hd => ?_⟩
  · intro minutes drying deficit
    have clamp : min deficit 2000 = if 2000 < deficit then 2000 else deficit := by split <;> omega
    rw [← clamp, Nat.mul_comm 60 minutes]
    rfl
  · intro named
    have due : evaluationDue s b = true := by simp [evaluationDue, hl, hdue]
    have taken : exec (.evaluationExpiry b) s = .next (complete (demandCheck b (evaluate b s))) :=
      congrArg Host.Outcome.next (if_pos due)
    obtain ⟨only, balances, made, still⟩ := evaluationExpires hl hr.1 hd
    generalize complete (demandCheck b (evaluate b s)) = t at *
    have probes : t.probes = (probesJudged s b).probes := only.probes
    refine ⟨t, taken, by rw [probes]; exact only, ?_, fun n hn => ?_, fun n hn p hp => ?_, fun c hc => ?_,
      made, still⟩
    · refine ⟨probesStale (probesJudged s b) b, by rw [balances]; simp, ?_⟩
      have beds : (probesJudged s b).beds = s.beds := by rw [probesJudged_eq]
      rw [probesStale_iff, probes]
      simp only [mem_probesOf, beds]
      exact Iff.rfl
    · rw [probes, probesJudged_probes]
      exact if_neg hn
    · rw [probes, probesJudged_probes, hp]
      exact if_pos hn
    · rw [balances, getElem_set_other _ hc]
  · have due (hs : s.weather.status = .waiting ∨ s.weather.status = .fresh) : staleDue s = true := by
      rcases hs with h | h <;> simp [staleDue, h, href, hold]
    have taken (hs : s.weather.status = .waiting ∨ s.weather.status = .fresh) : exec .weatherStalenessExpiry s =
        .next (complete (setWeather { s.weather with status := .stale } (setFlag .weatherStale s))) :=
      congrArg Host.Outcome.next (if_pos (due hs))
    refine ⟨fun hs => ?_, fun hs => ⟨_, taken (.inr hs), freshGoesStale hs hr.1 hd⟩⟩
    rw [taken (.inl hs), waitingGoesStale s hs hr]

end

end Sys2Proof.Machine
end

section
/-! SUPPORT. A poll's outcome that brings a report of the entry's kind, from its arrival to the end of its step (03 R38 to R46):
what the consumer of the report did stands. -/

namespace Sys2Proof.Machine

section
variable (s : State)

theorem forwardReport_granted (n : Fin 48) (k : NodeKind) (p : List Byte) : Granted s (forwardReport n k p s) := by
  cases hw : forwards s.nodes[n].active s.nodeLive[n].forwarded (firstValue k p)
  · rw [forwardReport_not hw]
    exact .refl s
  · cases hf : reportFits s
    · rw [forwardReport_lost hw hf]
      exact .of_eq rfl rfl rfl rfl (.of_monitor rfl rfl)
    · rw [forwardReport_fits hw hf]
      exact .of_eq rfl rfl rfl rfl (.of_monitor rfl rfl)

theorem forwardReport_sensed (n : Fin 48) (k : NodeKind) (p : List Byte) :
    (forwardReport n k p s).probes = s.probes ∧ (forwardReport n k p s).weather = s.weather := by
  cases hw : forwards s.nodes[n].active s.nodeLive[n].forwarded (firstValue k p)
  · rw [forwardReport_not hw]
    exact ⟨rfl, rfl⟩
  · cases hf : reportFits s
    · rw [forwardReport_lost hw hf]
      exact ⟨rfl, rfl⟩
    · rw [forwardReport_fits hw hf]
      exact ⟨rfl, rfl⟩

/-- Once its report is consumed in `y` a poll ends in `t`: grants at most, and nothing more is sensed. -/
structure ReportEnds (y t : State) : Prop where
  granted : Granted y t
  probes : t.probes = y.probes
  weather : t.weather = y.weather
  flags : ∀ f, y.notice.isSet f = true → t.notice.isSet f = true

variable {s}

/-- A report of the polled entry's kind is lost by an entry that has moved, or consumed (log 36). -/
theorem pollReported {n : Fin 48} {a : Byte} {reply : Reply} {payload : List Byte} (htx : s.seq.tx = .poll n a)
    (hu : s.nodes[n].active.used = true)
    (hrep : acceptReport a (singleSlot 30 s.seq.replyWindow) reply = some (s.nodes[n].active.kind, payload))
    (hd : NoSwapDue s) : ∃ t, exec (.pollOutcome reply) s = .next t ∧
      (PollLost n a s t ∨ ∃ c, ReportEnds (pollConsumed n payload (pollTaken s c)) t) := by
  have taken : exec (.pollOutcome reply) s = .next (complete (payClearing (.poll n a)
      (pollDelivered n a (some (s.nodes[n].active.kind, payload)) (lineIdle s)))) := by
    simp only [exec, execPollOutcome, htx, hrep]
    rfl
  refine ⟨_, taken, ?_⟩
  rcases (pollDelivered_cases s n a (some (s.nodes[n].active.kind, payload))).2 hu with ⟨ha, he⟩ | ⟨c, he⟩
  · rw [he]
    exact .inl ⟨ha, pollEndsAlone_of s n a _ hd⟩
  · refine .inr ⟨c, ?_⟩
    have forwarded : pollDelivered n a (some (s.nodes[n].active.kind, payload)) (lineIdle s) =
        forwardReport n s.nodes[n].active.kind payload (pollConsumed n payload (pollTaken s c)) :=
      he.trans (pollResult_good (s := pollTaken s c) payload)
    have idle := pollDelivered_tx (lineIdle s) n a (some (s.nodes[n].active.kind, payload)) rfl
    have due := (pollDelivered_field (lineIdle s) n a (some (s.nodes[n].active.kind, payload))).line.noSwapDue fun x => hd x
    rw [forwarded] at idle due ⊢
    generalize pollConsumed n payload (pollTaken s c) = y at idle due ⊢
    obtain ⟨probes, weather⟩ := forwardReport_sensed y n s.nodes[n].active.kind payload
    have followed := pollFollowed n a idle due
    have due' := (payClearing_field _ (.poll n a)).line.noSwapDue due
    exact ⟨((forwardReport_granted y n _ _).trans (payClearing_granted _ _)).trans (complete_granted due'),
      followed.sensors.probes.trans probes, followed.sensors.weather.trans weather,
      fun f hf => followed.flags f ((forwardReport_field y n _ _).flags f hf)⟩

/-- The entry after a good reply: PRESENT, and told so where it was not (03 R39, R41). -/
theorem pollHeard_cases (n : Fin 48) : ∃ l notice,
    pollHeard n s = if s.nodeLive[n].presence = .present then { s with nodeLive := l, notice := notice }
      else nodePresent n s.nodes[n].active.kind s.nodeLive[n].presence { s with nodeLive := l, notice := notice } := by
  by_cases h : s.nodeLive[n].presence = .present
  · refine ⟨s.nodeLive.set n { s.nodeLive[n] with misses := 0 }, s.notice, ?_⟩
    rw [if_pos h]
    simp only [pollHeard, h]
    rfl
  · refine ⟨s.nodeLive.set n { s.nodeLive[n] with presence := .present, misses := 0, changed := true },
      s.notice.raise .nodeChange, ?_⟩
    rw [if_neg h]
    unfold pollHeard
    dsimp only
    split
    next e => exact absurd e h
    next => rfl

end

/-- Where nothing asks, no run is added. -/
theorem DemandsMade.idle {asks : Fin 24 → BedLive → Prop} {s t : State} (h : runBeds t = runBeds s)
    (no : ∀ b l, t.bedLive[b] = some l → ¬ asks b l) : DemandsMade asks (runBeds s) s t := by
  refine ⟨[], h.trans (List.append_nil _).symm, List.nodup_nil, fun b => ⟨?_, fun hb => absurd hb List.not_mem_nil⟩⟩
  exact ⟨fun hb => absurd hb List.not_mem_nil, fun ⟨l, hl, ha⟩ => absurd ha (no b l hl)⟩

end Sys2Proof.Machine
end

section
/-! PROOF. A probe's count moves its live state, and the balance of the bed that names it (04 R51 to R54, 05 R72 to R74, R81). -/

namespace Sys2Proof.Machine

/-! ## The count judged -/

/-- A probe heard again after MISSING leaves FAULTED first (04 R54). -/
def ProbeLive.heard (prior : Presence) (p : ProbeLive) : ProbeLive :=
  if prior = .missing ∧ p.state = .faulted then { p with state := .ok, rejects := 0 } else p

/-- The plausibility band of 04 R51, bounds included. -/
def Plausible (dry wet count : Nat) : Prop := wet ≤ count + (dry - wet) / 4 ∧ count ≤ dry + (dry - wet) / 4

theorem inBand_iff (dry wet count : Nat) : inBand dry wet count = true ↔ Plausible dry wet count := by
  simp [inBand, Plausible]

section
variable {s : State} {n : Fin 48} {p : ProbeLive}

theorem setProbe_same (hp : s.probes[n] = some p) : s.probes.set n (some p) = s.probes := by
  rw [← hp]
  simp

theorem pollHeard_probe (hk : s.nodes[n].active.kind = .soilProbe) (hp : s.probes[n] = some p) : ∃ l notice,
    pollHeard n s = { s with nodeLive := l, notice := notice
                             probes := s.probes.set n (some (p.heard s.nodeLive[n].presence)) } := by
  obtain ⟨l, notice, he⟩ := pollHeard_cases (s := s) n
  refine ⟨l, notice, ?_⟩
  rw [he, hk]
  cases h : s.nodeLive[n].presence with
  | present =>
    have same : p.heard .present = p := if_neg (by simp)
    rw [if_pos rfl, same, setProbe_same hp]
  | absent =>
    have same : p.heard .absent = p := if_neg (by simp)
    rw [if_neg (by simp), same, setProbe_same hp]
    rfl
  | missing =>
    have returned : nodePresent n .soilProbe .missing { s with nodeLive := l, notice := notice } =
        probeReturns n { s with nodeLive := l, notice := notice } := rfl
    have hp' : ({ s with nodeLive := l, notice := notice } : State).probes[n] = some p := hp
    rw [if_neg (by simp), returned, probeReturns, hp']
    by_cases hf : p.state = .faulted
    · simp only [ProbeLive.heard, hf, and_self, if_true]
      rfl
    · simp only [ProbeLive.heard, hf, and_false, if_false, setProbe_same hp]

/-- A FAULTED probe only stores the count (04 R53). -/
theorem probeReading_faulted {c : Nat} (hp : s.probes[n] = some p) (hf : p.state = .faulted) :
    probeReading n c s = s.setProbe n (some { p with lastCount := some c }) := by
  simp [probeReading, hp, ProbeLive.accepts, ProbeLive.faults, ProbeLive.take, hf]

/-- An implausible count is a reject, and the third one is a fault (04 R52). -/
theorem probeReading_rejected {c : Nat} (hp : s.probes[n] = some p) (hf : p.state ≠ .faulted)
    (hb : ¬ Plausible s.nodes[n].active.dry s.nodes[n].active.wet c) :
    let t := s.setProbe n (some { p with
      lastCount := some c, rejects := p.rejects + 1, state := if 3 ≤ p.rejects + 1 then .faulted else p.state })
    probeReading n c s = if 3 ≤ p.rejects + 1 then setFlag .probeFault t else t := by
  have band : inBand s.nodes[n].active.dry s.nodes[n].active.wet c = false := Bool.eq_false_iff.2 (mt (inBand_iff _ _ _).1 hb)
  simp only [probeReading, hp, ProbeLive.accepts, ProbeLive.faults, ProbeLive.take, band, hf, bne_iff_ne, ne_eq,
    not_false_eq_true, Bool.and_false, Bool.false_eq_true, if_false, Bool.not_false, Bool.and_true, Bool.and_eq_true,
    decide_eq_true_eq, true_and]

/-- The probe after a plausible count (04 R51, R53). -/
def ProbeLive.accepted (c now : Nat) : ProbeLive := { state := .ok, rejects := 0, lastCount := some c, reference := now }

/-- A plausible count is delivered to the bed that names the probe (04 R53). -/
theorem probeReading_accepted {c : Nat} (hp : s.probes[n] = some p) (hf : p.state ≠ .faulted)
    (hb : Plausible s.nodes[n].active.dry s.nodes[n].active.wet c) :
    let t := s.setProbe n (some (.accepted c s.partTime))
    probeReading n c s = match bedOfProbe s n with
      | none => t
      | some b => demandCheck b (takeReading b (wetness s.nodes[n].active.dry s.nodes[n].active.wet c) t) := by
  have band := (inBand_iff _ _ _).2 hb
  have accepted : p.accepts s.nodes[n].active.dry s.nodes[n].active.wet c = true := by
    simp only [ProbeLive.accepts, band, Bool.and_true, bne_iff_ne, ne_eq, hf, not_false_eq_true]
  have took : p.take s.nodes[n].active.dry s.nodes[n].active.wet c s.partTime = .accepted c s.partTime := by
    simp only [ProbeLive.take, band, hf, if_true, if_false, ProbeLive.accepted]
  simp only [probeReading, hp, accepted, took, if_true]
  rfl

/-! ## The bed that names the probe -/

theorem names_val (r : BedRec) (n : Fin 48) : r.names n = true ↔ r.probeA = n.val ∨ r.probeB = n.val := by
  simp [BedRec.names]

theorem bedOfProbe_eq_none : bedOfProbe s n = none ↔
    ∀ b : Fin 24, s.beds[b].active.used = true → s.beds[b].active.names n = false := by
  simp [bedOfProbe]

/-- The first used bed that names the probe takes its reading. -/
theorem bedOfProbe_eq_some {b : Fin 24} : bedOfProbe s n = some b ↔ s.beds[b].active.used = true ∧
    s.beds[b].active.names n = true ∧ ∀ d : Fin 24, d < b → s.beds[d].active.used = true → s.beds[d].active.names n = false := by
  rw [bedOfProbe, List.find?_eq_some_iff_getElem]
  simp only [Bool.and_eq_true, List.length_finRange, List.getElem_finRange, and_assoc]
  refine and_congr_right fun _ => and_congr_right fun _ => ⟨?_, fun h => ?_⟩
  · rintro ⟨i, hi, rfl, before⟩ d hd hu
    have passed : (!(s.beds[d].active.used && s.beds[d].active.names n)) = true := before d.val hd
    rwa [hu, Bool.true_and, Bool.not_eq_true'] at passed
  · refine ⟨b.val, b.isLt, rfl, fun j hj => ?_⟩
    have := h ⟨j, hj.trans b.isLt⟩ hj
    cases hu : s.beds[j].active.used <;> simp_all

/-! ## The reading taken -/

/-- With one run for each bed, a bed's run is the one found. -/
theorem findRun_iff_mem (hq : QueueLaw s) {b : Fin 24} {r : Run} : findRun s b = some r ↔ r ∈ s.runs ∧ r.bed = b := by
  refine ⟨findRun_mem s, fun ⟨hm, hb⟩ => ?_⟩
  cases h : findRun s b with
  | none => exact absurd hb (findRun_none s h r hm)
  | some q =>
    obtain ⟨hqm, hqb⟩ := findRun_mem s h
    exact congrArg _ (List.inj_on_of_nodup_map hq hqm hm (hqb.trans hb.symm))

/-- A bed is in hold while its run is ON or SOAK, and until its hold end (05 R74). -/
theorem inHold_iff (hq : QueueLaw s) {b : Fin 24} {l : BedLive} (hl : s.bedLive[b] = some l) : inHold s b = true ↔
    (∃ r ∈ s.runs, r.bed = b ∧ (r.state = .on ∨ r.state = .soak)) ∨ ∃ h, l.holdEnd = some h ∧ s.partTime < h := by
  unfold inHold
  rw [Bool.or_eq_true, hl]
  refine or_congr ?_ ?_
  · cases hr : findRun s b with
    | none => simpa using fun r hm hb => absurd hb (findRun_none s hr r hm)
    | some r =>
      have found := findRun_mem s hr
      simp only [Bool.or_eq_true, beq_iff_eq]
      refine ⟨fun h => ⟨r, found.1, found.2, h⟩, fun ⟨q, hm, hb, h⟩ => ?_⟩
      have same := (findRun_iff_mem hq).2 ⟨hm, hb⟩
      rw [hr] at same
      obtain rfl := Option.some.inj same
      exact h
  · dsimp only
    split
    next e he => simp [he]
    next he => simp [he]

/-- The estimate with a reading smoothed in (05 R72). -/
theorem BedLive.smooth_eq (w k : Nat) (l : BedLive) : l.smooth w k = { l with
    estimate := if l.estimateValid = true then ((l.estimate : Int) + (((w : Int) - l.estimate) * k).tdiv 8).toNat else w
    estimateValid := true } := by
  unfold BedLive.smooth
  split
  next h => rw [← h]
  next => rfl

/-- The balance of a bed that takes a reading, in hold and out of it (05 R72, R73, R74). -/
def BedLive.read (r : BedRec) (w now : Nat) (hold : Bool) (l : BedLive) : BedLive :=
  if hold then l.smooth w r.smoothing
  else { l.smooth w r.smoothing with
    deficit := readingDeficit (l.smooth w r.smoothing).estimate r.fieldCapacity r.holding
    accrualResidue := 0, lastAccrual := now }

theorem takeReading_eq (b : Fin 24) (w : Nat) (s : State) : takeReading b w s =
    s.setBedLive b (s.bedLive[b].map (BedLive.read s.beds[b].active w s.partTime (inHold s b))) :=
  onBed_eq b _ s

/-- A reading taken by a bed, and its demand check. -/
theorem reading_added (b : Fin 24) (w : Nat) (s : State) :
    (demandCheck b (takeReading b w s)).bedLive =
      s.bedLive.set b (s.bedLive[b].map (BedLive.read s.beds[b].active w s.partTime (inHold s b))) ∧
    DemandsMade (fun c l => c = b ∧ Asks s c l) (runBeds s) s (demandCheck b (takeReading b w s)) := by
  obtain ⟨added, hadd, hn, hmem⟩ := demandCheck_added (takeReading b w s) b
  have view : DemandView s (takeReading b w s) := by
    rw [takeReading_eq]
    exact .of_eq rfl rfl rfl rfl rfl
  have runs : (takeReading b w s).runs = s.runs := by rw [takeReading_eq]; rfl
  have made := hadd.demandsMade hn hmem
  rw [runBeds_congr runs] at made
  refine ⟨by rw [hadd.bedLive, takeReading_eq]; rfl, made.view (fun _ _ _ k => view.asked k) fun c l => ?_⟩
  refine and_congr_right fun hc => ?_
  rw [hc]
  exact view.asks_iff (fun _ => by rw [runBeds_congr runs]) b l

end

end Sys2Proof.Machine
end

section
/-! PROOF. A POLL_OUTCOME with a SOIL_PROBE's count, settled: the probe, the bed that names it, and its demand check. -/

namespace Sys2Proof.Machine

theorem inHold_congr {s t : State} (runs : t.runs = s.runs) (live : t.bedLive = s.bedLive) (time : t.partTime = s.partTime)
    (b : Fin 24) : inHold t b = inHold s b := by
  simp only [inHold, findRun, runs, live, time]

/-- A reading touches its own probe and no other. -/
theorem probeReading_probes (n : Fin 48) (c : Nat) (s : State) : ∃ p, (probeReading n c s).probes = s.probes.set n p := by
  unfold probeReading
  split
  · exact ⟨s.probes[n], by simp⟩
  · dsimp only
    split
    · split
      · exact ⟨_, rfl⟩
      · exact ⟨_, ((takeReading_frame _ _ _).trans (demandCheck_frame _ _)).probes⟩
    · split <;> exact ⟨_, rfl⟩

theorem probeReading_other {n m : Fin 48} (hm : m ≠ n) (c : Nat) (s : State) : (probeReading n c s).probes[m] = s.probes[m] := by
  obtain ⟨p, hp⟩ := probeReading_probes n c s
  rw [hp, getElem_set_other _ hm]

/-- The probe's entry has been heard: `u` is `s` but for the Node Table and the probe, which stands at `q`. -/
structure ProbeHeard (n : Fin 48) (q : ProbeLive) (s u : State) : Prop where
  view : DemandView s u
  runs : u.runs = s.runs
  bedLive : u.bedLive = s.bedLive
  nodes : u.nodes = s.nodes
  beds : u.beds = s.beds
  partTime : u.partTime = s.partTime
  self : u.probes[n] = some q
  others : ∀ m : Fin 48, m ≠ n → u.probes[m] = s.probes[m]

theorem probeHeard {n : Fin 48} {p : ProbeLive} {s : State} (k : Nat) (hk : s.nodes[n].active.kind = .soilProbe)
    (hp : s.probes[n] = some p) :
    ProbeHeard n (p.heard s.nodeLive[n].presence) s (pollHeard n (pollTaken s k)) := by
  obtain ⟨l, notice, he⟩ := pollHeard_probe (s := pollTaken s k) hk hp
  rw [he]
  exact ⟨.of_eq rfl rfl rfl rfl rfl, rfl, rfl, rfl, rfl, rfl, by simp [pollTaken, lineIdle],
    fun m hm => getElem_set_other _ hm _⟩

section
variable {n : Fin 48} {q : ProbeLive} {s u t : State} {c : Nat}

/-- A probe that only stores what was heard leaves the beds and the queue. -/
theorem ProbeHeard.stored {q' : ProbeLive} {y : State} (h : ProbeHeard n q s u) (e : ReportEnds y t)
    (probes : y.probes = u.probes.set n (some q')) (live : y.bedLive = u.bedLive) (runs : y.runs = u.runs) :
    t.probes[n] = some q' ∧ t.bedLive = s.bedLive ∧ runBeds t = runBeds s := by
  refine ⟨?_, (e.granted.bedLive.trans live).trans h.bedLive, e.granted.beds.trans (runBeds_congr (runs.trans h.runs))⟩
  rw [e.probes, probes]
  simp

theorem ProbeHeard.faulted (h : ProbeHeard n q s u) (e : ReportEnds (probeReading n c u) t) (hf : q.state = .faulted) :
    t.probes[n] = some { q with lastCount := some c } ∧ t.bedLive = s.bedLive ∧ runBeds t = runBeds s := by
  rw [probeReading_faulted h.self hf] at e
  exact h.stored e rfl rfl rfl

theorem ProbeHeard.rejected (h : ProbeHeard n q s u) (e : ReportEnds (probeReading n c u) t) (hf : q.state ≠ .faulted)
    (hb : ¬ Plausible s.nodes[n].active.dry s.nodes[n].active.wet c) :
    (t.probes[n] = some { q with
        lastCount := some c, rejects := q.rejects + 1, state := if 3 ≤ q.rejects + 1 then .faulted else q.state } ∧
      t.bedLive = s.bedLive ∧ runBeds t = runBeds s) ∧
    (3 ≤ q.rejects + 1 → t.notice.isSet .probeFault = true) := by
  rw [← h.nodes] at hb
  rw [probeReading_rejected h.self hf hb] at e
  by_cases h3 : 3 ≤ q.rejects + 1
  · rw [if_pos h3] at e
    exact ⟨h.stored e rfl rfl rfl, fun _ => e.flags _ (by simp [setFlag, NoticeUnit.isSet_raise])⟩
  · rw [if_neg h3] at e
    exact ⟨h.stored e rfl rfl rfl, fun k => absurd k h3⟩

/-- A plausible count: the probe is OK, and the bed that names it, if there is one, takes the reading. -/
theorem ProbeHeard.accepted (h : ProbeHeard n q s u) (e : ReportEnds (probeReading n c u) t) (hf : q.state ≠ .faulted)
    (hb : Plausible s.nodes[n].active.dry s.nodes[n].active.wet c) :
    t.probes[n] = some (.accepted c s.partTime) ∧
    (bedOfProbe s n = none → t.bedLive = s.bedLive ∧ runBeds t = runBeds s) ∧
    ∀ b, bedOfProbe s n = some b →
      t.bedLive = s.bedLive.set b (s.bedLive[b].map (BedLive.read s.beds[b].active
        (wetness s.nodes[n].active.dry s.nodes[n].active.wet c) s.partTime (inHold s b))) ∧
      DemandsMade (fun d l => d = b ∧ Asks s d l) (runBeds s) s t := by
  have named : bedOfProbe u n = bedOfProbe s n := by simp only [bedOfProbe, h.beds]
  rw [← h.nodes] at hb
  rw [probeReading_accepted h.self hf hb, named, h.nodes, h.partTime] at e
  cases hn : bedOfProbe s n with
  | none =>
    rw [hn] at e
    obtain ⟨probe, live, beds⟩ := h.stored e rfl rfl rfl
    exact ⟨probe, fun _ => ⟨live, beds⟩, nofun⟩
  | some b =>
    rw [hn] at e
    dsimp only at e
    obtain ⟨live, made⟩ := reading_added b (wetness s.nodes[n].active.dry s.nodes[n].active.wet c)
      (u.setProbe n (some (.accepted c s.partTime)))
    have probes := ((takeReading_frame (u.setProbe n (some (.accepted c s.partTime))) b
      (wetness s.nodes[n].active.dry s.nodes[n].active.wet c)).trans (demandCheck_frame _ b)).probes
    have hold : inHold (u.setProbe n (some (.accepted c s.partTime))) b = inHold s b := inHold_congr h.runs h.bedLive h.partTime b
    have view : DemandView s (u.setProbe n (some (.accepted c s.partTime))) := h.view.trans (.of_eq rfl rfl rfl rfl rfl)
    have beds : runBeds (u.setProbe n (some (.accepted c s.partTime))) = runBeds s := runBeds_congr h.runs
    rw [hold, State.setProbe_bedLive, State.setProbe_beds, State.setProbe_partTime, h.bedLive, h.beds, h.partTime] at live
    rw [beds] at made
    refine ⟨?_, nofun, fun b' hb' => ?_⟩
    · rw [e.probes, probes]
      simp
    · obtain rfl := Option.some.inj hb'
      refine ⟨e.granted.bedLive.trans live, (made.granted e.granted).view (fun _ _ _ k => view.asked k) fun d l => ?_⟩
      exact and_congr_right fun _ => view.asks_iff (fun _ => by rw [beds]) d l

/-- Settles O37: the probe takes the count by its row, and a plausible one goes to the bed that names the probe; what follows in
the step grants at most. -/
theorem probeReadingMovesEstimateAndDeficit : Obligations.ProbeReadingMovesEstimateAndDeficit := by
  intro n a reply payload p s htx hk hrep hp hd hq c dry wet p0 plausible w
  have used : s.nodes[n].active.used = true := by rw [NodeRec.used, hk]; rfl
  obtain ⟨t, ht, outcome⟩ := pollReported htx used (by rw [hk]; exact hrep) hd
  refine ⟨t, ht, outcome.imp id ?_⟩
  rintro ⟨k, ends⟩
  have heard : ProbeHeard n p0 s (pollHeard n (pollTaken s k)) := probeHeard k hk hp
  have consumed : pollConsumed n payload (pollTaken s k) = probeReading n c (pollHeard n (pollTaken s k)) := by
    have kind : (pollTaken s k).nodes[n].active.kind = .soilProbe := hk
    rw [pollConsumed, kind]
    rfl
  rw [consumed] at ends
  generalize pollHeard n (pollTaken s k) = u at heard ends
  have others : ∀ m : Fin 48, m ≠ n → t.probes[m] = s.probes[m] := fun m hm => by
    rw [ends.probes, probeReading_other hm, heard.others m hm]
  by_cases hf : p0.state = .faulted
  · obtain ⟨probe, live, beds⟩ := heard.faulted ends hf
    exact ⟨fun _ => ⟨probe, live⟩, fun k => absurd hf k, fun k => absurd hf k, fun _ => .idle beds fun _ _ _ k => k.1 hf, others⟩
  by_cases hb : plausible
  · obtain ⟨probe, unnamed, read⟩ := heard.accepted ends hf hb
    refine ⟨fun k => absurd k hf, fun _ k => absurd hb k, fun _ _ => ⟨probe, fun no => ?_, fun b l hu hn sole hl => ?_⟩, fun _ => ?_,
      others⟩
    · exact (unnamed (bedOfProbe_eq_none.2 no)).1
    · have first : bedOfProbe s n = some b := bedOfProbe_eq_some.2 ⟨hu, hn, fun d hd hdu => by
        by_contra named
        exact hd.ne (sole d hdu (by simpa using named))⟩
      intro e estimate held
      obtain ⟨live, -⟩ := read b first
      have self : t.bedLive[b] = some (BedLive.read s.beds[b].active w s.partTime (inHold s b) l) := by
        rw [live, hl]
        simp [w, wetness, dry, wet]
      have hold := inHold_iff hq (b := b) hl
      refine ⟨fun d hdb => by rw [live, getElem_set_other _ hdb], fun hh => ?_, fun hh => ?_⟩
      · rw [self, hold.2 hh, BedLive.read, if_pos rfl, BedLive.smooth_eq]
      · rw [self, Bool.eq_false_iff.2 (mt hold.1 hh), BedLive.read, if_neg Bool.false_ne_true, BedLive.smooth_eq]
        rfl
    · have named (d : Fin 24) := names_val s.beds[d].active n
      cases hn : bedOfProbe s n with
      | none =>
        have unused := bedOfProbe_eq_none.1 hn
        refine .idle (unnamed hn).2 fun b l _ k => ?_
        obtain ⟨-, -, hnamed, -, hu, -⟩ := k
        exact absurd ((named b).2 hnamed) (by rw [unused b hu]; simp)
      | some b =>
        obtain ⟨hu, hbn, before⟩ := bedOfProbe_eq_some.1 hn
        refine (read b hn).2.view (fun _ _ _ k => k) fun d l => ⟨?_, ?_⟩
        · rintro ⟨rfl, ha⟩
          exact ⟨hf, hb, (named d).1 hbn, fun x hx hxu => not_or.1 (mt (named x).2 (by rw [before x hx hxu]; simp)), ha⟩
        · rintro ⟨-, -, hdn, firstd, ha⟩
          refine ⟨?_, ha⟩
          rcases lt_trichotomy d b with hlt | rfl | hlt
          · exact absurd ((named d).2 hdn) (by rw [before d hlt ha.1]; simp)
          · rfl
          · exact absurd ((named b).1 hbn) (not_or.2 (firstd b hlt hu))
  · obtain ⟨⟨probe, live, beds⟩, flagged⟩ := heard.rejected ends hf hb
    exact ⟨fun k => absurd k hf, fun _ _ => ⟨live, probe, flagged⟩, fun _ k => absurd k hb,
      fun _ => .idle beds fun _ _ _ k => hb k.2.1, others⟩

end

end Sys2Proof.Machine
end

section
/-! SUPPORT. Rain credited to every used bed, and the demand checks that follow (05 R78, R81). -/

namespace Sys2Proof.Machine

/-! ## Every used bed credited -/

/-- An operation on the balance of each of some beds, of which the others show nothing, takes each once. -/
theorem foldl_onBeds {f : Fin 24 → State → State} {g : State → Fin 24 → BedLive → BedLive}
    (act : ∀ b s, f b s = s.setBedLive b (s.bedLive[b].map (g s b))) (blind : ∀ s b l, g (s.setBedLive b l) = g s)
    (bs : List (Fin 24)) (hn : bs.Nodup) (s : State) :
    bs.foldl (fun t b => f b t) s = { s with bedLive := (bs.foldl (fun t b => f b t) s).bedLive } ∧
    ∀ b : Fin 24, (bs.foldl (fun t b => f b t) s).bedLive[b] = if b ∈ bs then s.bedLive[b].map (g s b) else s.bedLive[b] := by
  induction bs generalizing s with
  | nil => exact ⟨rfl, fun b => by simp⟩
  | cons c bs ih =>
    obtain ⟨hc, hbs⟩ := List.nodup_cons.1 hn
    obtain ⟨alone, each⟩ := ih hbs (f c s)
    rw [List.foldl_cons]
    refine ⟨by rw [alone, act]; rfl, fun b => ?_⟩
    rw [each, act, blind, State.setBedLive_bedLive]
    by_cases hbc : b = c
    · subst hbc
      simp [hc]
    · rw [getElem_set_other _ hbc]
      simp [hbc]

section
variable (s : State)

/-- The balance of a bed after accrual and a rain delta (05 R78, steps 1 to 4). -/
def rained (d : Nat) (s : State) (b : Fin 24) (l : BedLive) : BedLive :=
  BedLive.rain d s.weatherRec.active.tipSize s.beds[b].active.rainExposure
    (BedLive.accrue (effectiveRate s b) s.beds[b].active.dryingExposure s.partTime l)

theorem rainCredit_eq (d : Nat) (b : Fin 24) : rainCredit b d s = s.setBedLive b (s.bedLive[b].map (rained d s b)) := by
  have plain : rainCredit b d s = onBed b (BedLive.rain d s.weatherRec.active.tipSize s.beds[b].active.rainExposure)
      (accrue b s) := by
    rw [rainCredit, accrue_eq]
  rw [plain, onBed_eq, accrue_eq]
  simp [State.setBedLive]
  rfl

/-- Every used bed after a rain delta, before its demand check. -/
def rainedAll (d : Nat) : State := (usedBeds s).foldl (fun t b => rainCredit b d t) s

theorem rainedAll_eq (d : Nat) : rainedAll s d = { s with bedLive := (rainedAll s d).bedLive } ∧
    ∀ b : Fin 24, (rainedAll s d).bedLive[b] =
      if s.beds[b].active.used = true then s.bedLive[b].map (rained d s b) else s.bedLive[b] := by
  obtain ⟨alone, each⟩ := foldl_onBeds (fun b s => rainCredit_eq s d b) (fun _ _ _ => rfl) (usedBeds s)
    ((List.nodup_finRange 24).filter _) s
  refine ⟨alone, fun b => ?_⟩
  have used : b ∈ usedBeds s ↔ s.beds[b].active.used = true := by simp [usedBeds]
  rw [rainedAll, each, if_congr used rfl rfl]

/-- A rain delta credits every used bed, and each has its demand check. -/
theorem rainToBeds_added (d : Nat) : DemandsMade (Asks s) (runBeds s) s (rainToBeds d s) ∧
    (rainToBeds d s).bedLive = (rainedAll s d).bedLive ∧ MonitorKept s (rainToBeds d s) := by
  have alone := (rainedAll_eq s d).1
  have view : DemandView s (rainedAll s d) := by
    rw [alone]
    exact .of_eq rfl rfl rfl rfl rfl
  have runs : (rainedAll s d).runs = s.runs := by rw [alone]
  have kept : MonitorKept s (rainedAll s d) := by
    rw [alone]
    exact .of_monitor rfl rfl
  obtain ⟨added, hadd, hn, hmem⟩ := demandAll_added (rainedAll s d)
  have made := hadd.demandsMade hn hmem
  rw [runBeds_congr runs] at made
  refine ⟨made.view (fun _ _ _ k => view.asked k) fun b l => view.asks_iff (fun _ => by rw [runBeds_congr runs]) b l,
    hadd.bedLive, kept.trans hadd.monitor⟩

theorem rainToBeds_frame (d : Nat) : WaterFrame s (rainToBeds d s) :=
  (WaterFrame.foldl (fun t b => rainCredit_frame t b d) _ s).trans (demandAll_frame _)

theorem rainToBeds_idleWork (d : Nat) : IdleWork s (rainToBeds d s) := by
  have credited : IdleWork s (rainedAll s d) := by
    rw [(rainedAll_eq s d).1]
    exact ⟨rfl, fun _ => rfl⟩
  exact credited.trans (demandAll_idleWork _)

end

/-- What demand checks made is read off the queue and the balances alone. -/
theorem DemandsMade.after {asks : Fin 24 → BedLive → Prop} {kept : List (Fin 24)} {s t u : State}
    (h : DemandsMade asks kept s t) (runs : u.runs = t.runs) (live : u.bedLive = t.bedLive) : DemandsMade asks kept s u := by
  simp only [DemandsMade, findRun, runs, live] at h ⊢
  exact h

/-! ## A balance accrued twice -/

/-- The rain credit is that of 05 R78. -/
theorem BedLive.rain_eq (tips size exposure : Nat) (l : BedLive) : BedLive.rain tips size exposure l = { l with
    deficit := if (tips * size * exposure + l.rainResidue) / 100 ≤ l.deficit
      then l.deficit - (tips * size * exposure + l.rainResidue) / 100 else 0
    rainResidue := (tips * size * exposure + l.rainResidue) % 100 } := by
  have floor (x y : Nat) : y - x = if x ≤ y then y - x else 0 := by split <;> omega
  rw [← floor]
  rfl

/-- A balance just accrued has nothing more to accrue, at any rate (05 R75). -/
theorem BedLive.accrue_accrue (rate rate' exposure exposure' now : Nat) (l : BedLive) :
    BedLive.accrue rate' exposure' now (BedLive.accrue rate exposure now l) = BedLive.accrue rate exposure now l := by
  generalize hd : l.deficit + (rate * exposure * ((now - l.lastAccrual) / 60) + l.accrualResidue) / 60000 = d
  have once : BedLive.accrue rate exposure now l = { l with
      lastAccrual := l.lastAccrual + (now - l.lastAccrual) / 60 * 60, deficit := min d 2000
      accrualResidue := if 2000 < d then 0
        else (rate * exposure * ((now - l.lastAccrual) / 60) + l.accrualResidue) % 60000 } := by
    rw [← hd]
    rfl
  rw [once]
  generalize hr : (if 2000 < d then 0
    else (rate * exposure * ((now - l.lastAccrual) / 60) + l.accrualResidue) % 60000) = residue
  have small : residue < 60000 := by
    rw [← hr]
    split <;> omega
  have elapsed : (now - (l.lastAccrual + (now - l.lastAccrual) / 60 * 60)) / 60 = 0 := by omega
  simp only [BedLive.accrue, elapsed, Nat.mul_zero, Nat.zero_mul, Nat.zero_add, Nat.add_zero, Nat.div_eq_of_lt small,
    Nat.mod_eq_of_lt small]
  rw [if_neg (by omega), Nat.min_assoc, Nat.min_self]

end Sys2Proof.Machine
end

section
/-! SUPPORT. A rain delta at the Lock Unit and at the beds (04 R67, 08 R144): what becomes of the Lock Unit in either order, what a
rise of the lock leaves of the runs to the end of the step, and the delta that moves no lock. -/

namespace Sys2Proof.Machine

/-! ## A condition set -/

section
variable (s : State)

theorem Conditions.get_put_other {c : Conditions} {x y : Source} {b : Bool} (h : y ≠ x) : (c.put x b).get y = c.get y := by
  revert h
  cases x <;> cases y <;> simp [Conditions.get, Conditions.put]

/-- A condition set touches the condition and the effective lock, and nothing else of the Lock Unit (08 R148). -/
theorem setCondition_locks (x : Source) (b : Bool) : (setCondition x b s).locks = { s.locks with
    cond := s.locks.cond.put x b
    effective := if s.locks.cond.get x = b then s.locks.effective
      else composeLock (termsInForce (s.setLocks { s.locks with cond := s.locks.cond.put x b })) } := by
  unfold setCondition
  split
  next h =>
    rw [← h, Conditions.put_get]
  next h => exact (recomputeLock_locks _).1

/-- Where the lock stands as composed, it stands as composed once a condition is set. -/
theorem setCondition_lockLaw {s : State} (h : LockLaw s) (x : Source) (b : Bool) : LockLaw (setCondition x b s) := by
  rw [setCondition_eq h]
  obtain ⟨locks, -⟩ := recomputeLock_locks (s.setLocks { s.locks with cond := s.locks.cond.put x b })
  have recs := (recomputeLock_field (s.setLocks { s.locks with cond := s.locks.cond.put x b })).lockRecs
  rw [LockLaw, locks, termsInForce_congr (by rw [locks]) recs]

theorem setCondition_monitor (x : Source) (b : Bool) : MonitorKept s (setCondition x b s) := by
  have set (l : LockUnit) : MonitorKept s (s.setLocks l) := .of_monitor rfl rfl
  unfold setCondition
  split
  · exact .refl s
  · exact (set _).trans (recomputeLock_monitor _)

/-- A condition that stands already, or whose record is disabled where the lock stands as composed, moves no lock (08 R148). -/
theorem setCondition_still {s : State} {x : Source} {b : Bool}
    (h : s.locks.cond.get x = b ∨ LockLaw s ∧ sourceTerms s x = none) :
    setCondition x b s = s.setLocks { s.locks with cond := s.locks.cond.put x b } := by
  rcases h with h | ⟨hl, hx⟩
  · rw [setCondition, if_pos h, ← h, Conditions.put_get]
    rfl
  · rw [setCondition_eq hl]
    refine recomputeLock_same ?_
    have terms : termsInForce (s.setLocks { s.locks with cond := s.locks.cond.put x b }) = termsInForce s := by
      refine List.filterMap_congr fun y _ => ?_
      show (if (s.locks.cond.put x b).get y = true then sourceTerms s y else none) =
        if s.locks.cond.get y = true then sourceTerms s y else none
      by_cases hy : y = x
      · rw [hy, hx, ite_self, ite_self]
      · rw [Conditions.get_put_other hy]
    rw [terms]
    exact hl.symm

/-! ## The rain hold -/

/-- The end of the rain hold set anew, before its condition (08 R144). -/
def rainHeld : State :=
  s.setLocks { s.locks with rainHold := some (s.partTime + s.lockRecs[1].active.second * 60) }

theorem rainHoldDelta_below {s : State} {d : Nat} (h : d < s.lockRecs[1].active.first) : rainHoldDelta d s = s :=
  if_neg (by omega)

theorem rainHoldDelta_starts {s : State} {d : Nat} (h : s.lockRecs[1].active.first ≤ d) : rainHoldDelta d s =
    setCondition .rainHold true (rainHeld s) :=
  if_pos h

/-- What a rain delta makes of the Lock Unit (08 R144). -/
theorem rainHoldDelta_locks (d : Nat) :
    (d < s.lockRecs[1].active.first → (rainHoldDelta d s).locks = s.locks) ∧
    (s.lockRecs[1].active.first ≤ d → (rainHoldDelta d s).locks = { s.locks with
      rainHold := some (s.partTime + s.lockRecs[1].active.second * 60), cond := { s.locks.cond with rainHold := true }
      effective := (rainHoldDelta d s).locks.effective }) := by
  refine ⟨fun h => by rw [rainHoldDelta_below h], fun h => ?_⟩
  rw [rainHoldDelta_starts h, setCondition_locks]
  rfl

/-- A condition set looks at the Lock Unit and its records alone. -/
theorem setCondition_locks_congr {s t : State} (locks : t.locks = s.locks) (recs : t.lockRecs = s.lockRecs) (x : Source)
    (b : Bool) : (setCondition x b t).locks = (setCondition x b s).locks := by
  have terms : termsInForce (t.setLocks { t.locks with cond := t.locks.cond.put x b }) =
      termsInForce (s.setLocks { s.locks with cond := s.locks.cond.put x b }) :=
    termsInForce_congr (by rw [locks]; rfl) recs
  rw [setCondition_locks, setCondition_locks, terms, locks]

/-- It looks at the Lock Unit, its records and the part time alone. -/
theorem rainHoldDelta_congr {s t : State} (locks : t.locks = s.locks) (recs : t.lockRecs = s.lockRecs)
    (time : t.partTime = s.partTime) (d : Nat) : (rainHoldDelta d t).locks = (rainHoldDelta d s).locks := by
  by_cases h : s.lockRecs[1].active.first ≤ d
  · have ht : t.lockRecs[1].active.first ≤ d := by rwa [recs]
    rw [rainHoldDelta_starts h, rainHoldDelta_starts ht]
    have held : (rainHeld t).locks = (rainHeld s).locks := by simp only [rainHeld, State.setLocks_locks, locks, recs, time]
    exact setCondition_locks_congr held recs _ _
  · have ht : ¬ t.lockRecs[1].active.first ≤ d := by rwa [recs]
    rw [rainHoldDelta_below (by omega), rainHoldDelta_below (by omega), locks]

theorem rainHoldDelta_monitor (d : Nat) : MonitorKept s (rainHoldDelta d s) := by
  have set (l : LockUnit) : MonitorKept s (s.setLocks l) := .of_monitor rfl rfl
  by_cases h : s.lockRecs[1].active.first ≤ d
  · rw [rainHoldDelta_starts h]
    exact (set _).trans (setCondition_monitor _ _ _)
  · rw [rainHoldDelta_below (by omega)]
    exact .refl s

theorem rainHoldDelta_lockLaw {s : State} (h : LockLaw s) (d : Nat) : LockLaw (rainHoldDelta d s) := by
  by_cases hd : s.lockRecs[1].active.first ≤ d
  · rw [rainHoldDelta_starts hd]
    exact setCondition_lockLaw (s := rainHeld s) h _ _
  · rwa [rainHoldDelta_below (by omega)]

/-! ## Both receivers -/

/-- A rain delta is taken by the beds and by the Lock Unit, which may come first only where the effective lock moves (04 R67). -/
theorem rainDelta_cases (d : Nat) :
    rainDelta d s = rainHoldDelta d (rainToBeds d s) ∨
    (rainHoldDelta d s).locks.effective ≠ s.locks.effective ∧
      (rainDelta d s = rainToBeds d (rainHoldDelta d { s with choice := s.choice + 1 }) ∨
       rainDelta d s = rainHoldDelta d (rainToBeds d { s with choice := s.choice + 1 })) := by
  unfold rainDelta
  split
  next h =>
    refine .inr ⟨h, ?_⟩
    dsimp only
    split
    · exact .inl rfl
    · exact .inr rfl
  next => exact .inl rfl

theorem rainDelta_locks (d : Nat) : (rainDelta d s).locks = (rainHoldDelta d s).locks := by
  have last (t : State) (locks : t.locks = s.locks) (recs : t.lockRecs = s.lockRecs) (time : t.partTime = s.partTime) :
      (rainHoldDelta d (rainToBeds d t)).locks = (rainHoldDelta d s).locks :=
    rainHoldDelta_congr ((rainToBeds_frame t d).locks.trans locks) ((rainToBeds_frame t d).lockRecs.trans recs)
      ((rainToBeds_frame t d).partTime.trans time) d
  rcases rainDelta_cases s d with e | ⟨-, e | e⟩ <;> rw [e]
  · exact last s rfl rfl rfl
  · rw [(rainToBeds_frame _ d).locks, rainHoldDelta_congr (s := s) (t := { s with choice := s.choice + 1 }) rfl rfl rfl]
  · exact last _ rfl rfl rfl

theorem rainDelta_monitor (d : Nat) : MonitorKept s (rainDelta d s) := by
  have beds (t : State) : MonitorKept t (rainToBeds d t) := by
    obtain ⟨-, -, kept⟩ := rainToBeds_added t d
    exact kept
  have chosen : MonitorKept s { s with choice := s.choice + 1 } := .of_monitor rfl rfl
  rcases rainDelta_cases s d with e | ⟨-, e | e⟩ <;> rw [e]
  · exact (beds s).trans (rainHoldDelta_monitor _ d)
  · exact (chosen.trans (rainHoldDelta_monitor _ d)).trans (beds _)
  · exact (chosen.trans (beds _)).trans (rainHoldDelta_monitor _ d)

/-- The rain hold cannot move the lock: the delta is below the threshold, the condition stands already, or its record is
disabled. -/
def RainStill (d : Nat) (s : State) : Prop :=
  d < s.lockRecs[1].active.first ∨ s.locks.cond.rainHold = true ∨ LockLaw s ∧ s.lockRecs[1].active.enabled = false

/-- Such a delta moves the Lock Unit's figures alone, and the beds take it as they stand. -/
theorem RainStill.unmoved {s : State} {d : Nat} (h : RainStill d s) :
    (rainHoldDelta d s).locks.effective = s.locks.effective ∧
    rainDelta d s = (rainToBeds d s).setLocks (rainHoldDelta d s).locks := by
  have still (t : State) (ht : RainStill d t) : rainHoldDelta d t = t.setLocks (rainHoldDelta d t).locks ∧
      (rainHoldDelta d t).locks.effective = t.locks.effective := by
    by_cases hd : t.lockRecs[1].active.first ≤ d
    · have unmoved : setCondition .rainHold true (rainHeld t) = _ := setCondition_still <| by
        rcases ht with ht | ht | ⟨hl, he⟩
        · omega
        · exact .inl ht
        · refine .inr ⟨hl, ?_⟩
          show (if t.lockRecs[1].active.enabled = true then _ else none) = none
          rw [he]
          rfl
      rw [rainHoldDelta_starts hd, unmoved]
      exact ⟨rfl, rfl⟩
    · rw [rainHoldDelta_below (by omega)]
      exact ⟨rfl, rfl⟩
  have frame := rainToBeds_frame s d
  have later : RainStill d (rainToBeds d s) := by
    refine h.imp (fun k => by rwa [frame.lockRecs]) (Or.imp (fun k => by rwa [frame.locks]) (And.imp (fun k => ?_) fun k => ?_))
    · rwa [LockLaw, frame.locks, termsInForce_congr (by rw [frame.locks]) frame.lockRecs]
    · rwa [frame.lockRecs]
  refine ⟨(still s h).2, ?_⟩
  have same := rainHoldDelta_congr frame.locks frame.lockRecs frame.partTime d
  rcases rainDelta_cases s d with e | ⟨moved, -⟩
  · rw [e, (still _ later).1, same]
  · exact absurd (still s h).2 moved

end

/-! ## The effective lock only rises -/

/-- With more terms in force the lock is the same or rises (08 R148). -/
theorem composeLock_rises {ts ts' : List (LockMode × LockTiming)} (h : ∀ t ∈ ts, t ∈ ts')
    (hne : composeLock ts' ≠ composeLock ts) : lockRises (composeLock ts) (composeLock ts') = true := by
  have more (f : LockMode × LockTiming → Bool) (k : ts.any f = true) : ts'.any f = true := by
    obtain ⟨t, ht, hf⟩ := List.any_eq_true.1 k
    exact List.any_eq_true.2 ⟨t, h t ht, hf⟩
  have cancel := more fun t => t.1 == .cancel
  have immediate := more fun t => t.2 == .immediate
  cases ts with
  | nil =>
    cases ts' with
    | nil => exact absurd rfl hne
    | cons t' ts' => rfl
  | cons t ts =>
    obtain ⟨t', rest, rfl⟩ := List.exists_cons_of_ne_nil (List.ne_nil_of_mem (h t (List.mem_cons_self)))
    simp only [composeLock, List.isEmpty_cons, Bool.false_eq_true, if_false, lockRises] at hne ⊢
    generalize (t :: ts).any (fun t => t.1 == .cancel) = c at *
    generalize (t' :: rest).any (fun t => t.1 == .cancel) = c' at *
    generalize (t :: ts).any (fun t => t.2 == .immediate) = i at *
    generalize (t' :: rest).any (fun t => t.2 == .immediate) = i' at *
    revert c c' i i'
    decide

/-- Where a rain delta moves the effective lock, the lock rises (08 R144, R148). -/
theorem rainHoldDelta_rises {s : State} {d : Nat} (hl : LockLaw s)
    (hne : (rainHoldDelta d s).locks.effective ≠ s.locks.effective) :
    lockRises s.locks.effective (rainHoldDelta d s).locks.effective = true := by
  have hd : s.lockRecs[1].active.first ≤ d := by
    by_contra k
    exact hne (by rw [rainHoldDelta_below (by omega)])
  have composed := rainHoldDelta_lockLaw hl d
  have cond : (rainHoldDelta d s).locks.cond = { s.locks.cond with rainHold := true } := by
    rw [(rainHoldDelta_locks s d).2 hd]
  have recs := (rainHoldDelta_field s d).lockRecs
  rw [LockLaw] at hl composed
  rw [hl, composed] at hne ⊢
  refine composeLock_rises (fun t ht => ?_) hne
  simp only [termsInForce, List.mem_filterMap] at ht ⊢
  obtain ⟨x, hx, hxt⟩ := ht
  refine ⟨x, hx, ?_⟩
  have active : s.locks.cond.get x = true := by
    by_contra k
    rw [if_neg k] at hxt
    cases hxt
  have active' : (rainHoldDelta d s).locks.cond.get x = true := by
    rw [cond]
    by_cases hr : x = .rainHold
    · rw [hr]
      rfl
    · exact (Conditions.get_put_other (b := true) hr).trans active
  have terms : sourceTerms (rainHoldDelta d s) x = sourceTerms s x := by cases x <;> simp only [sourceTerms, recs]
  rw [if_pos active] at hxt
  rw [if_pos active', terms, hxt]

/-! ## What a rise leaves to the end of the step -/

/-- A lock in force has acted: IMMEDIATE has left no run ON, CANCEL none but ON runs (08 R149). -/
structure Onset (m : LockMode) (i : LockTiming) (s : State) : Prop where
  lock : s.locks.effective = some (m, i)
  off : i = .immediate → ∀ q ∈ s.runs, q.state ≠ .on
  only : m = .cancel → ∀ q ∈ s.runs, q.state = .on

namespace Onset
variable {m : LockMode} {i : LockTiming} {s t : State}

theorem locked (h : Onset m i s) : s.locks.effective ≠ none := by rw [h.lock]; simp

theorem of_runs (h : Onset m i s) (locks : t.locks = s.locks) (runs : t.runs = s.runs) : Onset m i t :=
  ⟨by rw [locks, h.lock], by rw [runs]; exact h.off, by rw [runs]; exact h.only⟩

/-- Grants and release checks that take no run ON leave it so. -/
theorem granted (h : Onset m i s) (k : Granted s t) (on : OnFrom s t) : Onset m i t := by
  refine ⟨by rw [k.locks, h.lock], fun hi => on.none_on (h.off hi), fun hm q hq => ?_⟩
  obtain ⟨r, hr, hg⟩ := k.runs q hq
  have hron := h.only hm r hr
  obtain ⟨-, e | ⟨e, -⟩⟩ := hg.waiting (by rw [hron]; simp)
  · exact e.trans hron
  · rw [hron] at e
    cases e

theorem demandCheck (h : Onset m i s) (b : Fin 24) : Onset m i (demandCheck b s) := by
  unfold Machine.demandCheck
  split
  · exact h
  next v hv =>
    obtain ⟨-, l, -, asks⟩ := (demandValve_eq_some s b v).1 hv
    obtain ⟨-, -, -, -, -, uncancelled, -⟩ := asks
    have queued : createRun (autoRun s b v) s = s.setRuns (s.runs ++ [autoRun s b v]) :=
      pass_closed (passOpen_locked h.locked)
    rw [queued]
    refine ⟨h.lock, fun hi q hq => ?_, fun hm => absurd (by rw [h.lock, hm]) (uncancelled i)⟩
    rcases List.mem_append.1 hq with k | k
    · exact h.off hi q k
    · obtain rfl := List.mem_singleton.1 k
      simp [autoRun, newRun]

theorem rainToBeds (h : Onset m i s) (d : Nat) : Onset m i (rainToBeds d s) := by
  have credited : Onset m i (rainedAll s d) := by
    rw [(rainedAll_eq s d).1]
    exact h.of_runs rfl rfl
  exact inAnyOrder_keeps (R := fun t u => Onset m i t → Onset m i u) (fun _ => id) (fun f g k => g (f k))
    (fun _ _ k => k.of_runs rfl rfl) (fun b _ k => k.demandCheck b) _ _ _ credited

theorem complete (h : Onset m i s) (hd : NoSwapDue s) : Onset m i (complete s) := by
  have turns : Onset m i (settleTurns 1024 s) := by
    refine settleTurns_induction (fun t _ k => k.granted (examineStop_granted t) (examineStop_on t)) (fun t _ k => ?_)
      (fun t _ k => k.of_runs rfl rfl) 1024 hd h
    rwa [pass_closed (passOpen_locked k.locked)]
  exact turns.of_runs (by rw [Machine.complete, arbitrate_locks]; rfl) (by rw [Machine.complete, arbitrate_runs]; rfl)

end Onset

/-- A rise of the effective lock acts on the runs at once. -/
theorem rainHoldDelta_onset {s : State} {d : Nat} {m : LockMode} {i : LockTiming}
    (hs : (rainHoldDelta d s).locks.effective = some (m, i)) (hr : lockRises s.locks.effective (some (m, i)) = true) :
    Onset m i (rainHoldDelta d s) ∧ (rainHoldDelta d s).notice.isSet .lockChange = true := by
  have hne : (rainHoldDelta d s).locks.effective ≠ s.locks.effective := by
    intro e
    rw [← hs, e, lockRises_self] at hr
    cases hr
  have hd : s.lockRecs[1].active.first ≤ d := by
    by_contra k
    exact hne (by rw [rainHoldDelta_below (by omega)])
  rw [rainHoldDelta_starts hd] at hs hne ⊢
  generalize hv : rainHeld s = v at hs hne ⊢
  have eff : v.locks.effective = s.locks.effective := by rw [← hv]; rfl
  rw [← eff] at hr hne
  unfold setCondition at hs hne ⊢
  split at hs
  next h =>
    rw [if_pos h] at hne
    exact absurd rfl hne
  next h =>
    rw [if_neg h] at hne ⊢
    generalize hw : v.setLocks { v.locks with cond := v.locks.cond.put .rainHold true } = w at hs hne ⊢
    have eff' : w.locks.effective = v.locks.effective := by rw [← hw]; rfl
    rw [← eff'] at hr hne
    obtain ⟨locks, flag⟩ := recomputeLock_locks w
    have composed : composeLock (termsInForce w) = some (m, i) := by rw [locks] at hs; exact hs
    have moved : composeLock (termsInForce w) ≠ w.locks.effective := by rw [locks] at hne; exact hne
    refine ⟨?_, flag moved⟩
    have locked : (relocked w).locks.effective ≠ none := by
      show composeLock (termsInForce w) ≠ none
      rw [composed]
      simp
    obtain ⟨off, only⟩ := lockOnset_runs (m := m) (i := i) locked
    rw [recomputeLock_risen moved composed hr] at hs ⊢
    exact ⟨hs, off, only⟩

/-- In either order of its receivers a rain delta that raises the lock leaves the runs so, with LOCK_CHANGE. -/
theorem rainDelta_onset {s : State} {d : Nat} {m : LockMode} {i : LockTiming}
    (hs : (rainHoldDelta d s).locks.effective = some (m, i)) (hr : lockRises s.locks.effective (some (m, i)) = true) :
    Onset m i (rainDelta d s) ∧ (rainDelta d s).notice.isSet .lockChange = true := by
  have onset (t : State) (locks : t.locks = s.locks) (recs : t.lockRecs = s.lockRecs) (time : t.partTime = s.partTime) :
      Onset m i (rainHoldDelta d t) ∧ (rainHoldDelta d t).notice.isSet .lockChange = true :=
    rainHoldDelta_onset (by rw [rainHoldDelta_congr locks recs time, hs]) (by rw [locks, hr])
  have last (t : State) (locks : t.locks = s.locks) (recs : t.lockRecs = s.lockRecs) (time : t.partTime = s.partTime) :=
    onset (rainToBeds d t) ((rainToBeds_frame t d).locks.trans locks) ((rainToBeds_frame t d).lockRecs.trans recs)
      ((rainToBeds_frame t d).partTime.trans time)
  rcases rainDelta_cases s d with e | ⟨-, e | e⟩ <;> rw [e]
  · exact last s rfl rfl rfl
  · obtain ⟨h, flag⟩ := onset { s with choice := s.choice + 1 } rfl rfl rfl
    exact ⟨h.rainToBeds d, (rainToBeds_frame _ d).flags _ flag⟩
  · exact last _ rfl rfl rfl

end Sys2Proof.Machine
end

section
/-! SUPPORT. The events of the local inputs: a level that changes, an edge that is judged, a tip that is counted (09 R154 to
R157, 04 R66). -/

namespace Sys2Proof.Machine

/-! ## The end of a rain delta's step -/

section
variable {s : State} {d : Nat}

theorem complete_lockRecs (hd : NoSwapDue s) : (complete s).lockRecs = s.lockRecs := by
  have turns : LineFrame s (settleTurns 1024 s) :=
    settleTurns_induction (P := LineFrame s) (fun t _ h => h.trans (examineStop_line t))
      (fun t _ h => h.trans (pass_frame t).field.line) (fun t w h => h.trans (setWork_frame t w).field.line) 1024 hd (.refl s)
  rw [complete, arbitrate_eq]
  exact turns.lockRecs

/-- A rain delta moves the effective lock up or not at all, and a rise acts in its step (08 R144, R148, R149). -/
theorem rainDelta_lockMoved (hl : LockLaw s) (hd : NoSwapDue s) : LockMoved s (complete (rainDelta d s)) := by
  have hd' := (rainDelta_field s d).line.noSwapDue hd
  have locks : (complete (rainDelta d s)).locks = (rainHoldDelta d s).locks :=
    (complete_granted hd').locks.trans (rainDelta_locks s d)
  have recs : (complete (rainDelta d s)).lockRecs = (rainHoldDelta d s).lockRecs :=
    ((complete_lockRecs hd').trans (rainDelta_field s d).lockRecs).trans (rainHoldDelta_field s d).lockRecs.symm
  have risen : (rainHoldDelta d s).locks.effective ≠ s.locks.effective → ∃ m i,
      (rainHoldDelta d s).locks.effective = some (m, i) ∧ lockRises s.locks.effective (some (m, i)) = true := by
    intro hne
    have rises := rainHoldDelta_rises hl hne
    cases he : (rainHoldDelta d s).locks.effective with
    | none =>
      rw [he] at rises
      cases h : s.locks.effective <;> simp [h, lockRises] at rises
    | some e => exact ⟨e.1, e.2, rfl, he ▸ rises⟩
  have terms : termsInForce (complete (rainDelta d s)) = termsInForce (rainHoldDelta d s) :=
    termsInForce_congr (by rw [locks]) recs
  refine ⟨?_, fun hne => ?_, fun m i hs hr => ?_, fun hne _ hr => ?_, fun hs hn => ?_⟩
  all_goals rw [locks] at *
  · rw [terms]
    exact rainHoldDelta_lockLaw hl d
  · obtain ⟨m, i, he, hr⟩ := risen hne
    exact complete_flags _ (rainDelta_onset he hr).2
  · obtain ⟨-, off, only⟩ := (rainDelta_onset hs hr).1.complete hd'
    exact ⟨fun hi => (bedsOn_eq_nil_iff _).2 (off hi), only⟩
  · obtain ⟨m, i, he, hr'⟩ := risen hne
    rw [he, hr'] at hr
    cases hr
  · obtain ⟨m, i, he, -⟩ := risen (by rw [hn]; exact hs.symm)
    rw [hn] at he
    cases he

/-- Where a rain delta moves no lock, every used bed is credited with it, and has its demand check (05 R78). -/
theorem RainStill.credits (h : RainStill d s) : DemandsMade (Asks s) (runBeds s) s (rainDelta d s) ∧
    ∀ b : Fin 24, s.beds[b].active.used = true → ∀ l, s.bedLive[b] = some l →
      (rainDelta d s).bedLive[b] = some (rained d s b l) := by
  obtain ⟨made, credited, -⟩ := rainToBeds_added s d
  have live : (rainDelta d s).bedLive = (rainToBeds d s).bedLive := by
    rw [h.unmoved.2]
    rfl
  have runs : (rainDelta d s).runs = (rainToBeds d s).runs := by
    rw [h.unmoved.2]
    rfl
  refine ⟨made.after runs live, fun b hu l hl => ?_⟩
  rw [live, credited, (rainedAll_eq s d).2, if_pos hu, hl]
  rfl

theorem RainStill.onlyWater (h : RainStill d s) (hw : WorkLaw s) (hd : NoSwapDue s) :
    OnlyWaterChanges { s with locks := (complete (rainDelta d s)).locks } (complete (rainDelta d s)) := by
  have hd' := (rainDelta_field s d).line.noSwapDue hd
  rw [(complete_granted hd').locks, rainDelta_locks, h.unmoved.2]
  have frame : WaterFrame { s with locks := (rainHoldDelta d s).locks }
      ((rainToBeds d s).setLocks (rainHoldDelta d s).locks) := { rainToBeds_frame s d with locks := rfl }
  exact frame.completed hd ((rainToBeds_idleWork s d).law hw)

end

/-! ## An input's live state -/

section
variable (m : SupplyMonitor) (x : InputId) (i j : InputLive)

@[simp] theorem SupplyMonitor.putInput_input : (m.putInput x i).input x = i := by cases x <;> rfl

@[simp] theorem SupplyMonitor.putInput_putInput : (m.putInput x i).putInput x j = m.putInput x j := by cases x <;> rfl

@[simp] theorem SupplyMonitor.putInput_window : (m.putInput x i).window = m.window := by cases x <;> rfl

end

theorem MonitorKept.input {s t : State} (h : MonitorKept s t) (x : InputId) : t.monitor.input x = s.monitor.input x := by
  cases x
  · exact h.inputs.1
  · exact h.inputs.2

theorem spaced_iff (spacing now : Nat) (last : Option Nat) :
    spaced spacing now last = true ↔ ∀ e, last = some e → e + spacing ≤ now := by
  cases last <;> simp [spaced]

/-! ## Edges -/

section
variable {s : State} {x : InputId}

/-- A rise 1 ms or more after the last counted one counts into the running window (09 R157). -/
theorem judgeEdge_counts {w : FlowWindow} (hs : ∀ e, (s.monitor.input x).lastEdge = some e → e + 1000 ≤ (s.monitor.input x).changed)
    (hw : s.monitor.window = some w) : judgeEdge x s = s.setMonitor
      { s.monitor.putInput x { s.monitor.input x with rising := false, lastEdge := some (s.monitor.input x).changed } with
        window := some { w with count := w.count + 1 } } := by
  rw [judgeEdge]
  refine (if_pos ((spaced_iff _ _ _).2 hs)).trans ?_
  rw [hw]
  rfl

theorem judgeEdge_passes {e : Nat} (he : (s.monitor.input x).lastEdge = some e) (hs : (s.monitor.input x).changed < e + 1000) :
    judgeEdge x s = s.setMonitor (s.monitor.putInput x { s.monitor.input x with rising := false }) :=
  if_neg fun h => absurd hs (Nat.not_lt.2 ((spaced_iff _ _ _).1 h e he))

variable (s x) in
/-- The rise a FLOW_EDGE judges: the command itself at a low input, the reported one at a high one (log 22). -/
def riseSeen (micros : Micros) : State :=
  let t := advance micros s
  if (s.monitor.input x).level = .low then
    t.setMonitor (t.monitor.putInput x ((t.monitor.input x).move .high t.partTime t.micros))
  else t

variable (s x) in
/-- It differs from the state in the present and in its input's level alone. -/
theorem riseSeen_facts (micros : Micros) :
    riseSeen s x micros = (advance micros s).setMonitor (riseSeen s x micros).monitor ∧
    (riseSeen s x micros).monitor.input x = (if (s.monitor.input x).level = .low
      then (s.monitor.input x).move .high s.partTime (max s.micros micros) else s.monitor.input x) ∧
    (riseSeen s x micros).monitor.window = s.monitor.window ∧
    ∀ j, (riseSeen s x micros).monitor.putInput x j = s.monitor.putInput x j := by
  unfold riseSeen
  by_cases hl : (s.monitor.input x).level = .low
  · rw [if_pos hl, if_pos hl]
    exact ⟨rfl, SupplyMonitor.putInput_input _ _ _, SupplyMonitor.putInput_window _ _ _,
      SupplyMonitor.putInput_putInput _ _ _⟩
  · rw [if_neg hl, if_neg hl]
    exact ⟨rfl, rfl, rfl, fun _ => rfl⟩

theorem flowEdge_judged {micros : Micros} (hf : s.supplyRec.active.action x = .flow)
    (h : (s.monitor.input x).level = .low ∨ (s.monitor.input x).rising = true) :
    exec (.flowEdge ⟨x, micros⟩) s = .next (judgeEdge x (riseSeen s x micros)) := by
  refine congrArg Host.Outcome.next ((if_pos hf).trans ?_)
  show (match (s.monitor.input x).level with | .low => _ | .high => _) = _
  rw [riseSeen]
  cases hl : (s.monitor.input x).level with
  | low => rfl
  | high =>
    rw [hl] at h
    exact if_pos (h.resolve_left (by simp))

theorem flowEdge_ignored {micros : Micros}
    (h : s.supplyRec.active.action x ≠ .flow ∨ (s.monitor.input x).level = .high ∧ (s.monitor.input x).rising = false) :
    exec (.flowEdge ⟨x, micros⟩) s = .next (advance micros s) := by
  refine congrArg Host.Outcome.next ?_
  by_cases hf : s.supplyRec.active.action x = .flow
  · obtain ⟨high, settled⟩ := h.resolve_left (not_not_intro hf)
    refine (if_pos hf).trans ?_
    show (match (s.monitor.input x).level with | .low => _ | .high => _) = _
    rw [high]
    exact if_neg (by rw [show ((advance micros s).monitor.input x).rising = false from settled]; simp)
  · exact if_neg hf

end

/-! ## Tips -/

section
variable (s : State) (x : InputId)

/-- A tip is counted under the conditions of 09 R155. -/
theorem tipDue_iff : tipDue s x = true ↔ s.supplyRec.active.action x = .rainTips ∧ (s.monitor.input x).level = .low ∧
    (s.monitor.input x).armed = true ∧ (s.monitor.input x).tipMoment ≤ s.now ∧
    ∀ e, (s.monitor.input x).lastTip = some e → e + 200000 ≤ (s.monitor.input x).tipMoment := by
  simp only [tipDue, actionOf, Bool.and_eq_true, beq_iff_eq, decide_eq_true_eq, spaced_iff, and_assoc]

/-- A counted tip uses up its low (09 R155). -/
def tipCounted : State :=
  s.setMonitor (s.monitor.putInput x
    { s.monitor.input x with armed := false, lastTip := some (s.monitor.input x).tipMoment })

variable {s x} {micros : Micros}

theorem rainTip_ignored (h : ¬ tipDue (advance micros s) x = true) :
    exec (.rainTip ⟨x, micros⟩) s = .next (advance micros s) :=
  congrArg Host.Outcome.next (if_neg h)

theorem rainTip_apart (h : tipDue (advance micros s) x = true) (hs : s.weatherRec.active.source ≠ .localTips) :
    exec (.rainTip ⟨x, micros⟩) s = .next (complete (tipCounted (advance micros s) x)) :=
  congrArg Host.Outcome.next ((if_pos h).trans (congrArg complete (if_neg hs)))

theorem rainTip_local (h : tipDue (advance micros s) x = true) (hs : s.weatherRec.active.source = .localTips) :
    exec (.rainTip ⟨x, micros⟩) s = .next (complete (rainDelta 1 (tipCounted (advance micros s) x))) :=
  congrArg Host.Outcome.next ((if_pos h).trans (congrArg complete (if_pos hs)))

/-- A counted tip with rain source LOCAL is a rain delta of one (04 R66). -/
theorem tipRained (hr : WorkLaw s) (hd : NoSwapDue s) :
    let a := tipCounted (advance micros s) x
    let t := complete (rainDelta 1 a)
    let rain := s.lockRecs[1].active
    t.monitor.input x = a.monitor.input x ∧ (1 < rain.first → t.locks = s.locks) ∧
    (rain.first ≤ 1 → t.locks.rainHold = some (s.partTime + rain.second * 60) ∧ t.locks.cond.rainHold = true) ∧
    (LockLaw s → LockMoved s t) ∧
    (1 < rain.first ∨ s.locks.cond.rainHold = true ∨ LockLaw s ∧ rain.enabled = false →
      OnlyWaterChanges { a with locks := t.locks } t ∧ DemandsMade (Asks s) (runBeds s) s t ∧
      ∀ b : Fin 24, s.beds[b].active.used = true → ∀ l, s.bedLive[b] = some l → t.bedLive[b] = some (rained 1 s b l)) := by
  intro a t rain
  have hda : NoSwapDue a := hd
  have granted : Granted (rainDelta 1 a) t := complete_granted ((rainDelta_field a 1).line.noSwapDue hda)
  have locks : t.locks = (rainHoldDelta 1 a).locks := granted.locks.trans (rainDelta_locks a 1)
  obtain ⟨below, starts⟩ := rainHoldDelta_locks a 1
  refine ⟨((rainDelta_monitor a 1).trans granted.monitor).input x, fun h => locks.trans (below h), fun h => ?_, fun hl => ?_,
    fun h => ?_⟩
  · rw [locks, starts h]
    exact ⟨rfl, rfl⟩
  · have moved : LockMoved a t := rainDelta_lockMoved hl hda
    exact moved.view rfl rfl rfl rfl rfl rfl
  · have still : RainStill 1 a := h
    obtain ⟨made, credited⟩ := still.credits
    refine ⟨still.onlyWater hr hda, ?_, fun b hu l hl => ?_⟩
    · exact (made.granted granted).view (fun _ _ _ k => k) fun _ _ => Iff.rfl
    · rw [granted.bedLive]
      exact credited b hu l hl

end

/-- Settles O42: each event is judged by its spacing, and a counted local tip is a rain delta of one. -/
theorem localInputsAreCounted : Obligations.LocalInputsAreCounted := by
  refine ⟨BedLive.rain_eq, fun x micros s => ?_⟩
  intro i present u now changed moved
  refine ⟨fun l => rfl, flowEdge_ignored, fun hf hrise => ?_, ?_⟩
  · intro rise risen
    have taken := flowEdge_judged (micros := micros) hf hrise
    obtain ⟨frame, input, window, put⟩ := riseSeen_facts s x micros
    generalize riseSeen s x micros = v at *
    have judged : v.monitor.input x = (if i.level = .low then moved .high else i) := input
    have last : (v.monitor.input x).lastEdge = i.lastEdge := by
      rw [judged]
      split <;> rfl
    have moment : (v.monitor.input x).changed = rise := by
      rw [judged]
      by_cases hl : i.level = .low
      · rw [if_pos hl, show rise = now from if_pos hl]
        rfl
      · rw [if_neg hl, show rise = changed from if_neg hl]
        rfl
    refine ⟨fun spaced w hw => ?_, fun e he close => ?_⟩
    · rw [taken, judgeEdge_counts (by rwa [last, moment]) (window.trans hw), put, moment, judged, frame]
      rfl
    · rw [taken, judgeEdge_passes (last.trans he) (by rwa [moment]), put, judged, frame]
      rfl
  · intro tip counts used counted rain
    have due : tipDue (advance micros s) x = true ↔ counts := tipDue_iff _ _
    refine ⟨fun h => rainTip_ignored (mt due.1 h), fun h hr hs => ?_, fun h hr hs hd => ?_⟩
    · have rested : Rested (tipCounted (advance micros s) x) := hr.congr rfl rfl rfl rfl rfl rfl
      rw [rainTip_apart (due.2 h) hs, complete_rested rested]
      rfl
    · obtain ⟨input, below, starts, lock, still⟩ := tipRained (micros := micros) (x := x) hr.1 hd
      exact ⟨_, rainTip_local (due.2 h) hs, input.trans (SupplyMonitor.putInput_input _ _ _), below, starts, fun hl _ => lock hl, still⟩

end Sys2Proof.Machine
end

section
/-! SUPPORT. A weather report at the Lock Unit and at the rain counter (04 R58, R62, R64, R65, 08 R145). -/

namespace Sys2Proof.Machine

/-! ## The Weather Unit beside the Lock Unit -/

section
variable (s : State)

theorem recomputeLock_weather : (recomputeLock s).weather = s.weather := by
  have relock : (relocked s).weather = s.weather := rfl
  by_cases h : composeLock (termsInForce s) = s.locks.effective
  · rw [recomputeLock_same h]
  · cases hn : composeLock (termsInForce s) with
    | none => rw [recomputeLock_left h hn, (lockLeaves_frame_relocked _).weather, relock]
    | some e =>
      cases hr : lockRises s.locks.effective (some e) with
      | true => rw [recomputeLock_risen h hn hr, (lockOnset_frame _ _ _).weather, relock]
      | false => rw [recomputeLock_eased h hn hr, relock]

theorem setCondition_weather (x : Source) (b : Bool) : (setCondition x b s).weather = s.weather := by
  unfold setCondition
  split
  · rfl
  · exact recomputeLock_weather _

theorem rainHoldDelta_weather (d : Nat) : (rainHoldDelta d s).weather = s.weather := by
  by_cases h : s.lockRecs[1].active.first ≤ d
  · rw [rainHoldDelta_starts h]
    exact setCondition_weather _ _ _
  · rw [rainHoldDelta_below (by omega)]

theorem rainDelta_weather (d : Nat) : (rainDelta d s).weather = s.weather := by
  rcases rainDelta_cases s d with e | ⟨-, e | e⟩ <;> rw [e]
  · rw [rainHoldDelta_weather, (rainToBeds_frame _ d).weather]
  · rw [(rainToBeds_frame _ d).weather, rainHoldDelta_weather]
  · rw [rainHoldDelta_weather, (rainToBeds_frame _ d).weather]

/-! ## T and V handed -/

theorem judgeFreeze_locks (t : Int) : (judgeFreeze t s).locks = { s.locks with
    cond := { s.locks.cond with freeze := freezeNext s.lockRecs[2].active t s.locks.cond.freeze }
    effective := (judgeFreeze t s).locks.effective } := by
  rw [judgeFreeze, setCondition_locks]
  rfl

theorem judgeWind_locks (v : Nat) : (judgeWind v s).locks = { s.locks with
    cond := { s.locks.cond with wind := windNext s.lockRecs[3].active v s.locks.cond.wind }
    effective := (judgeWind v s).locks.effective } := by
  rw [judgeWind, setCondition_locks]
  rfl

/-- T and V handed, with the choice that follows where both conditions move (04 R62, log 9). -/
def handed (t : Int) (v : Nat) (c : Nat) : State := { s with locks := { s.locks with handed := some (t, v) }, choice := c }

/-- FREEZE and WIND are judged one after the other, in either order. -/
theorem handWeather_cases (t : Int) (v : Nat) : ∃ c,
    handWeather t v s = judgeWind v (judgeFreeze t (handed s t v c)) ∨
    handWeather t v s = judgeFreeze t (judgeWind v (handed s t v c)) := by
  unfold handWeather
  dsimp only
  split
  · split
    · exact ⟨_, .inr rfl⟩
    · exact ⟨_, .inl rfl⟩
  · exact ⟨s.choice, .inl rfl⟩

/-- Each condition moves by its own figures, in either order (08 R145). -/
theorem handWeather_locks (t : Int) (v : Nat) : (handWeather t v s).locks = { s.locks with
    handed := some (t, v)
    cond := { s.locks.cond with
      freeze := freezeNext s.lockRecs[2].active t s.locks.cond.freeze
      wind := windNext s.lockRecs[3].active v s.locks.cond.wind }
    effective := (handWeather t v s).locks.effective } := by
  obtain ⟨c, e | e⟩ := handWeather_cases s t v <;> rw [e]
  · rw [judgeWind_locks, (judgeFreeze_field _ t).lockRecs, judgeFreeze_locks]
    rfl
  · rw [judgeFreeze_locks, (judgeWind_field _ v).lockRecs, judgeWind_locks]
    rfl

theorem handWeather_weather (t : Int) (v : Nat) : (handWeather t v s).weather = s.weather := by
  obtain ⟨c, e | e⟩ := handWeather_cases s t v <;> rw [e]
  · exact (setCondition_weather _ _ _).trans (setCondition_weather _ _ _)
  · exact (setCondition_weather _ _ _).trans (setCondition_weather _ _ _)

variable {s}

theorem handWeather_lockLaw (h : LockLaw s) (t : Int) (v : Nat) : LockLaw (handWeather t v s) := by
  obtain ⟨c, e | e⟩ := handWeather_cases s t v <;> rw [e]
  · exact setCondition_lockLaw (setCondition_lockLaw (s := handed s t v c) h _ _) _ _
  · exact setCondition_lockLaw (setCondition_lockLaw (s := handed s t v c) h _ _) _ _

/-- The condition of FREEZE stands, or its record is disabled. -/
def FreezeStill (t : Int) (s : State) : Prop :=
  s.lockRecs[2].active.enabled = false ∨ freezeNext s.lockRecs[2].active t s.locks.cond.freeze = s.locks.cond.freeze

/-- The condition of WIND stands, or its record is disabled. -/
def WindStill (v : Nat) (s : State) : Prop :=
  s.lockRecs[3].active.enabled = false ∨ windNext s.lockRecs[3].active v s.locks.cond.wind = s.locks.cond.wind

theorem judgeFreeze_still (hl : LockLaw s) {t : Int} (h : FreezeStill t s) :
    judgeFreeze t s = s.setLocks { s.locks with
      cond := s.locks.cond.put .freeze (freezeNext s.lockRecs[2].active t s.locks.cond.freeze) } := by
  refine setCondition_still (h.symm.imp Eq.symm fun disabled => ⟨hl, ?_⟩)
  show (if s.lockRecs[2].active.enabled = true then _ else none) = none
  rw [disabled]
  rfl

theorem judgeWind_still (hl : LockLaw s) {v : Nat} (h : WindStill v s) :
    judgeWind v s = s.setLocks { s.locks with
      cond := s.locks.cond.put .wind (windNext s.lockRecs[3].active v s.locks.cond.wind) } := by
  refine setCondition_still (h.symm.imp Eq.symm fun disabled => ⟨hl, ?_⟩)
  show (if s.lockRecs[3].active.enabled = true then _ else none) = none
  rw [disabled]
  rfl

/-- Where neither condition can move the lock, T and V move the Lock Unit's figures alone. -/
theorem handWeather_still (hl : LockLaw s) {t : Int} {v : Nat} (hf : FreezeStill t s) (hw : WindStill v s) :
    ∃ c, handWeather t v s = { s with locks := (handWeather t v s).locks, choice := c } ∧
      (handWeather t v s).locks.effective = s.locks.effective := by
  obtain ⟨c, e | e⟩ := handWeather_cases s t v
  · have frozen := judgeFreeze_still (s := handed s t v c) hl hf
    have law : LockLaw (judgeFreeze t (handed s t v c)) := setCondition_lockLaw (s := handed s t v c) hl _ _
    rw [frozen] at e law
    rw [e, judgeWind_still law hw]
    exact ⟨c, rfl, rfl⟩
  · have blown := judgeWind_still (s := handed s t v c) hl hw
    have law : LockLaw (judgeWind v (handed s t v c)) := setCondition_lockLaw (s := handed s t v c) hl _ _
    rw [blown] at e law
    rw [e, judgeFreeze_still law hf]
    exact ⟨c, rfl, rfl⟩

/-! ## The rain counter -/

/-- The rain baseline moved (04 R64). -/
def rebased (c : Nat) (s : State) : State := s.setWeatherUnit { s.weather with baseline := some c }

theorem rainCounter_apart (h : s.weatherRec.active.source ≠ .weather) (c : Nat) : rainCounter c s = s := if_neg h

theorem rainCounter_first (h : s.weatherRec.active.source = .weather) (hb : s.weather.baseline = none) (c : Nat) :
    rainCounter c s = rebased c s := by
  rw [rainCounter, if_pos h, hb]
  rfl

/-- Where a baseline stands, the delta decides (04 R64, R65). -/
theorem rainCounter_delta (h : s.weatherRec.active.source = .weather) {base c d : Nat} (hb : s.weather.baseline = some base)
    (hd : (c + 65536 - base) % 65536 = d) : rainCounter c s =
      if d = 0 then s else if d ≤ 400 then rainDelta d (rebased c s) else setFlag .rainSuspect (rebased c s) := by
  rw [rainCounter, if_pos h, hb, ← hd]
  rfl

/-- It leaves alone what else the report brought. -/
theorem rainCounter_kept (c : Nat) :
    (rainCounter c s).weather = { s.weather with baseline := (rainCounter c s).weather.baseline } ∧
    (rainCounter c s).locks.handed = s.locks.handed ∧ (rainCounter c s).locks.cond.freeze = s.locks.cond.freeze ∧
    (rainCounter c s).locks.cond.wind = s.locks.cond.wind := by
  have held (d : Nat) (u : State) : (rainDelta d u).locks.handed = u.locks.handed ∧
      (rainDelta d u).locks.cond.freeze = u.locks.cond.freeze ∧ (rainDelta d u).locks.cond.wind = u.locks.cond.wind := by
    rw [rainDelta_locks]
    by_cases hd : d < u.lockRecs[1].active.first
    · rw [(rainHoldDelta_locks u d).1 hd]
      exact ⟨rfl, rfl, rfl⟩
    · rw [(rainHoldDelta_locks u d).2 (by omega)]
      exact ⟨rfl, rfl, rfl⟩
  by_cases h : s.weatherRec.active.source = .weather
  · cases hb : s.weather.baseline with
    | none =>
      rw [rainCounter_first h hb]
      exact ⟨rfl, rfl, rfl, rfl⟩
    | some base =>
      rw [rainCounter_delta h hb rfl]
      split
      · exact ⟨rfl, rfl, rfl, rfl⟩
      · split
        · rw [rainDelta_weather]
          exact ⟨rfl, held _ (rebased c s)⟩
        · exact ⟨rfl, rfl, rfl, rfl⟩
  · rw [rainCounter_apart h]
    exact ⟨rfl, rfl, rfl, rfl⟩

end

end Sys2Proof.Machine
end

section
/-! PROOF. A POLL_OUTCOME with the WEATHER report, settled: the figures, the conditions handed on, the rain, and what the beds
make of a changed rate and of a rain delta (04 R58 to R67, 05 R77, R78, 08 R144, R145). -/

namespace Sys2Proof.Machine

/-! ## A report's figures -/

section
variable (t : Int) (v c : Nat) (s : State)

/-- A report's figures taken and handed on, before its rain counter (04 R58, R62). -/
def reported : State := handWeather (clampTemperature t) (min v 600) (setWeather (reportedWeather s t v) s)

theorem weatherReport_eq : weatherReport t v c s = rainCounter c (reported t v s) := rfl

theorem reported_field : FieldFrame s (reported t v s) := (setWeather_field s _).trans (handWeather_field _ _ _)

theorem reported_weather : (reported t v s).weather = reportedWeather s t v :=
  (handWeather_weather _ _ _).trans (setWeather_weather _ s)

/-- The change of the rate leaves the Lock Unit and its records to the figures handed. -/
theorem setWeather_locks (w : WeatherUnit) : (setWeather w s).locks = s.locks ∧ (setWeather w s).lockRecs = s.lockRecs :=
  ⟨(setWeather_water w).1.locks, (setWeather_water w).1.lockRecs⟩

theorem reported_locks : (reported t v s).locks = { s.locks with
    handed := some (clampTemperature t, min v 600)
    cond := { s.locks.cond with
      freeze := freezeNext s.lockRecs[2].active (clampTemperature t) s.locks.cond.freeze
      wind := windNext s.lockRecs[3].active (min v 600) s.locks.cond.wind }
    effective := (reported t v s).locks.effective } := by
  obtain ⟨locks, recs⟩ := setWeather_locks s (reportedWeather s t v)
  rw [reported, handWeather_locks, locks, recs]

/-- What a report makes of the Weather Unit's figures and of FREEZE and WIND. -/
theorem weatherReport_figures : let y := weatherReport t v c s
    y.weather = { reportedWeather s t v with baseline := y.weather.baseline } ∧
    y.locks.handed = some (clampTemperature t, min v 600) ∧
    y.locks.cond.freeze = freezeNext s.lockRecs[2].active (clampTemperature t) s.locks.cond.freeze ∧
    y.locks.cond.wind = windNext s.lockRecs[3].active (min v 600) s.locks.cond.wind := by
  obtain ⟨weather, handed, freeze, wind⟩ := rainCounter_kept (s := reported t v s) c
  rw [reported_weather] at weather
  rw [reported_locks] at handed freeze wind
  exact ⟨weather, handed, freeze, wind⟩

variable {s}

/-- With another rain source the counter is passed over (04 R64). -/
theorem weatherReport_apart (h : s.weatherRec.active.source ≠ .weather) : let y := weatherReport t v c s
    y = reported t v s ∧ y.weather.baseline = s.weather.baseline ∧ y.locks.rainHold = s.locks.rainHold := by
  have source : (reported t v s).weatherRec.active.source ≠ .weather := by rwa [(reported_field t v s).weatherRec]
  rw [weatherReport_eq, rainCounter_apart source]
  refine ⟨rfl, ?_, ?_⟩
  · show (reported t v s).weather.baseline = _
    rw [reported_weather]
    rfl
  · show (reported t v s).locks.rainHold = _
    rw [reported_locks]

/-- Without a baseline the counter starts it (04 R64). -/
theorem weatherReport_first (h : s.weatherRec.active.source = .weather) (hb : s.weather.baseline = none) :
    let y := weatherReport t v c s
    y = rebased c (reported t v s) ∧ y.weather.baseline = some c ∧ y.locks.rainHold = s.locks.rainHold := by
  have source : (reported t v s).weatherRec.active.source = .weather := by rwa [(reported_field t v s).weatherRec]
  have none : (reported t v s).weather.baseline = none := by rw [reported_weather]; exact hb
  rw [weatherReport_eq, rainCounter_first source none]
  refine ⟨rfl, rfl, ?_⟩
  show (reported t v s).locks.rainHold = _
  rw [reported_locks]

/-- With a baseline the delta decides (04 R64, R65). -/
theorem weatherReport_delta (h : s.weatherRec.active.source = .weather) {base d : Nat} (hb : s.weather.baseline = some base)
    (hd : (c + 65536 - base) % 65536 = d) : weatherReport t v c s = if d = 0 then reported t v s
      else if d ≤ 400 then rainDelta d (rebased c (reported t v s)) else setFlag .rainSuspect (rebased c (reported t v s)) := by
  have source : (reported t v s).weatherRec.active.source = .weather := by rwa [(reported_field t v s).weatherRec]
  exact rainCounter_delta source (by rw [reported_weather]; exact hb) hd

/-- The baseline, the rain hold and RAIN_SUSPECT after a delta (04 R64, R65, 08 R144). -/
theorem weatherReport_rained (h : s.weatherRec.active.source = .weather) {base : Nat} (hb : s.weather.baseline = some base)
    (hbase : base < 65536) (hc : c < 65536) :
    let y := weatherReport t v c s
    let d := (c + 65536 - base) % 65536
    let rain := s.lockRecs[1].active
    y.weather.baseline = some c ∧ (400 < d → y.notice.isSet .rainSuspect = true ∧ y.locks.rainHold = s.locks.rainHold) ∧
    (d < rain.first → y.locks.rainHold = s.locks.rainHold) ∧
    (1 ≤ d → d ≤ 400 → rain.first ≤ d →
      y.locks.rainHold = some (s.partTime + rain.second * 60) ∧ y.locks.cond.rainHold = true) := by
  intro y d rain
  have taken : y = _ := weatherReport_delta t v c h hb (d := d) rfl
  have hold : (rebased c (reported t v s)).locks.rainHold = s.locks.rainHold := by
    show (reported t v s).locks.rainHold = _
    rw [reported_locks]
  have recs : (rebased c (reported t v s)).lockRecs = s.lockRecs := (reported_field t v s).lockRecs
  have time : (rebased c (reported t v s)).partTime = s.partTime := (reported_field t v s).partTime
  by_cases hd : d = 0
  · rw [if_pos hd] at taken
    have same : base = c := by omega
    have baseline : y.weather.baseline = some c := by rw [taken, reported_weather, ← same]; exact hb
    rw [taken] at baseline ⊢
    exact ⟨baseline, fun k => absurd k (by omega), fun _ => hold, fun k => absurd k (by omega)⟩
  · rw [if_neg hd] at taken
    by_cases small : d ≤ 400
    · rw [if_pos small] at taken
      obtain ⟨below, starts⟩ := rainHoldDelta_locks (rebased c (reported t v s)) d
      rw [recs, time] at starts
      rw [recs] at below
      rw [taken, rainDelta_weather, rainDelta_locks]
      refine ⟨rfl, fun k => absurd k (by omega), fun k => by rw [below k, hold], fun _ _ k => ?_⟩
      rw [starts k]
      exact ⟨rfl, rfl⟩
    · rw [if_neg small] at taken
      rw [taken]
      refine ⟨rfl, fun _ => ⟨?_, hold⟩, fun _ => hold, fun _ k => absurd k small⟩
      simp [setFlag, NoticeUnit.isSet_raise]

end

/-! ## What the beds make of a report that moves no lock -/

section
variable (t : Int) (v : Nat) {s : State}

/-- Neither condition that the report judges can move the lock. -/
def ReportStill (s : State) : Prop := LockLaw s ∧ FreezeStill (clampTemperature t) s ∧ WindStill (min v 600) s

variable {t v}

theorem ReportStill.handed (h : ReportStill t v s) : ∃ c, reported t v s =
      { setWeather (reportedWeather s t v) s with locks := (reported t v s).locks, choice := c } ∧
    (reported t v s).locks.effective = s.locks.effective ∧ LockLaw (reported t v s) := by
  obtain ⟨hl, hf, hw⟩ := h
  obtain ⟨locks, recs⟩ := setWeather_locks s (reportedWeather s t v)
  have law : LockLaw (setWeather (reportedWeather s t v) s) := by
    rwa [LockLaw, termsInForce_congr (by rw [locks]) recs, locks]
  obtain ⟨c, same, effective⟩ := handWeather_still (s := setWeather (reportedWeather s t v) s) (t := clampTemperature t)
    (v := min v 600) law (by rwa [FreezeStill, recs, locks]) (by rwa [WindStill, recs, locks])
  exact ⟨c, same, effective.trans (congrArg LockUnit.effective locks), handWeather_lockLaw law _ _⟩

/-- Where the rate moves, every used bed is accrued at the old one, and has its demand check (05 R77). -/
theorem ReportStill.moves (h : ReportStill t v s) (hm : RateMoves s (reportedWeather s t v)) :
    DemandsMade (Asks s) (runBeds s) s (reported t v s) ∧
    ∀ b : Fin 24, s.beds[b].active.used = true → ∀ l, s.bedLive[b] = some l → (reported t v s).bedLive[b] =
      some (BedLive.accrue (effectiveRate s b) s.beds[b].active.dryingExposure s.partTime l) := by
  obtain ⟨c, same, -⟩ := h.handed
  obtain ⟨made, live⟩ := setWeather_added hm
  have runs : (reported t v s).runs = (setWeather (reportedWeather s t v) s).runs := by rw [same]
  have balances : (reported t v s).bedLive = (setWeather (reportedWeather s t v) s).bedLive := by rw [same]
  refine ⟨made.after runs balances, fun b hu l hl => ?_⟩
  rw [balances, live, accrueAll_bedLive, if_pos hu, hl]
  rfl

/-- Where the rate stays, neither a bed nor a run moves. -/
theorem ReportStill.stays (h : ReportStill t v s) (hm : ¬ RateMoves s (reportedWeather s t v)) :
    (reported t v s).runs = s.runs ∧ (reported t v s).bedLive = s.bedLive ∧ DemandView s (reported t v s) := by
  obtain ⟨c, same, effective, -⟩ := h.handed
  rw [setWeather_stays hm] at same
  rw [same]
  exact ⟨rfl, rfl, .of_eq rfl rfl rfl rfl effective⟩

/-- The rate in force after the report is that before it, where it stays. -/
theorem effectiveRate_reported (hm : ¬ RateMoves s (reportedWeather s t v)) (b : Fin 24) :
    effectiveRate (reported t v s) b = effectiveRate s b := by
  have fresh : (reportedWeather s t v).status = .fresh := rfl
  have was : s.weather.status = .fresh := by
    by_contra k
    exact hm (.inr (.inl ⟨fresh, k⟩))
  have rate : s.weather.rate = (reportedWeather s t v).rate := by
    by_contra k
    exact hm (.inr (.inr ⟨fresh, k⟩))
  rw [effectiveRate, reported_weather, if_pos fresh, effectiveRate, if_pos was, rate]

/-- A rain delta that moves no lock credits every used bed after its accrual, whether the rate moved or not; where it did not, the
demand checks are those of the rain alone (05 R77, R78). -/
theorem ReportStill.credits (h : ReportStill t v s) {c d : Nat} (hd : d < s.lockRecs[1].active.first ∨
      s.lockRecs[1].active.enabled = false ∨ s.locks.cond.rainHold = true) :
    let y := rainDelta d (rebased c (reported t v s))
    (∀ b : Fin 24, s.beds[b].active.used = true → ∀ l, s.bedLive[b] = some l → y.bedLive[b] = some (rained d s b l)) ∧
    (¬ RateMoves s (reportedWeather s t v) → DemandsMade (Asks s) (runBeds s) s y) := by
  intro y
  have field := reported_field t v s
  obtain ⟨-, -, -, law⟩ := h.handed
  have still : RainStill d (rebased c (reported t v s)) := by
    refine hd.imp (fun k => ?_) (Or.symm ∘ Or.imp (fun k => ⟨law, ?_⟩) fun k => ?_)
    · exact field.lockRecs ▸ k
    · exact field.lockRecs ▸ k
    · show (reported t v s).locks.cond.rainHold = true
      rw [reported_locks]
      exact k
  obtain ⟨made, credited⟩ := still.credits
  refine ⟨fun b hu l hl => ?_, fun hm => ?_⟩
  · have used : (rebased c (reported t v s)).beds[b].active.used = true := field.beds ▸ hu
    have onto (l' : BedLive) : rained d (rebased c (reported t v s)) b l' =
        BedLive.rain d s.weatherRec.active.tipSize s.beds[b].active.rainExposure
          (BedLive.accrue (effectiveRate (reported t v s) b) s.beds[b].active.dryingExposure s.partTime l') := by
      rw [← field.weatherRec, ← field.beds, ← field.partTime]
      rfl
    by_cases hm : RateMoves s (reportedWeather s t v)
    · rw [credited b used _ ((h.moves hm).2 b hu l hl), onto, BedLive.accrue_accrue]
      rfl
    · obtain ⟨-, live, -⟩ := h.stays hm
      rw [credited b used l ((congrArg (fun m => m[b]) live).trans hl), onto, effectiveRate_reported hm]
      rfl
  · obtain ⟨runs, -, view⟩ := h.stays hm
    have beds : runBeds (rebased c (reported t v s)) = runBeds s := runBeds_congr runs
    rw [beds] at made
    exact made.view (fun _ _ _ k => view.asked k) fun b l => view.asks_iff (fun _ => by rw [runBeds_congr runs]) b l

end

end Sys2Proof.Machine
end

section
/-! PROOF. A POLL_OUTCOME with the WEATHER report, settled: the report is consumed where its entry was heard, and what follows in
the step grants at most. -/

namespace Sys2Proof.Machine

theorem get1_lt (bs : List Byte) (i : Nat) : get1 bs i < 256 := (bs.getD i 0).isLt

theorem get2_lt (bs : List Byte) (i : Nat) : get2 bs i < 65536 := by
  have low := get1_lt bs i
  have high := get1_lt bs (i + 1)
  unfold get2
  omega

/-! ## The conditions, spelled -/

section
variable (r : LockRec) (t : Int) (v : Nat)

theorem freezeNext_sets : freezeNext r t false = true ↔ t ≤ r.freezeThreshold := by simp [freezeNext]

theorem freezeNext_clears : freezeNext r t true = false ↔
    if r.second = 0 then r.freezeThreshold < t else r.freezeThreshold + r.second ≤ t := by
  rw [freezeNext, if_pos rfl]
  split <;> simp

theorem windNext_sets : windNext r v false = true ↔ r.first ≤ v := by simp [windNext]

theorem windNext_clears : windNext r v true = false ↔ if r.second = 0 then v < r.first else v + r.second ≤ r.first := by
  rw [windNext, if_pos rfl]
  split <;> simp

end

/-! ## The entry heard -/

section
variable {n : Fin 48} {s t : State} {temp : Int} {wind c : Nat}

/-- The WEATHER entry heard: back from MISSING or ABSENT it has no baseline (03 R41, 04 R64). -/
def weatherHeard (n : Fin 48) (l : Vector NodeLive 48) (notice : NoticeUnit) (s : State) : State := { s with
  nodeLive := l, notice := notice
  weather := { s.weather with baseline := if s.nodeLive[n].presence = .present then s.weather.baseline else none } }

theorem pollHeard_weather (hk : s.nodes[n].active.kind = .weather) : ∃ l notice, pollHeard n s = weatherHeard n l notice s := by
  obtain ⟨l, notice, he⟩ := pollHeard_cases (s := s) n
  refine ⟨l, notice, he.trans ?_⟩
  rw [hk, weatherHeard]
  split <;> rfl

theorem pollConsumed_weather {payload : List Byte} (hk : s.nodes[n].active.kind = .weather) :
    pollConsumed n payload s =
      weatherReport (signed16 (get2 payload 0)) (get2 payload 2) (get2 payload 4) (pollHeard n s) := by
  rw [pollConsumed, hk]
  rfl

/-! ## The end of the step -/

/-- The rate that a report moves (05 R77). -/
theorem rateMoves_reported : RateMoves s (reportedWeather s temp wind) ↔
    s.weather.status ≠ .fresh ∨ s.weather.rate ≠ (reportedWeather s temp wind).rate := by
  have fresh : (reportedWeather s temp wind).status = .fresh := rfl
  simp [RateMoves, fresh]

/-- The report brings a rain delta of `d` tips (04 R64, R65). -/
def BringsRain (c d : Nat) (s : State) : Prop := s.weatherRec.active.source = .weather ∧
  ∃ base, s.weather.baseline = some base ∧ base < 65536 ∧ d = (c + 65536 - base) % 65536

/-- It brings none that is credited. -/
def BringsNoRain (c : Nat) (s : State) : Prop :=
  s.weatherRec.active.source ≠ .weather ∨ s.weather.baseline = none ∨ ∃ d, BringsRain c d s ∧ (d = 0 ∨ 400 < d)

/-- A report without rain to credit leaves the beds as its rate left them. -/
theorem weatherReport_dry (h : BringsNoRain c s) :
    (weatherReport temp wind c s).runs = (reported temp wind s).runs ∧
    (weatherReport temp wind c s).bedLive = (reported temp wind s).bedLive := by
  by_cases hs : s.weatherRec.active.source = .weather
  · rcases h with h | hb | ⟨d, ⟨-, base, hb, -, hd⟩, dry⟩
    · exact absurd hs h
    · rw [(weatherReport_first temp wind c hs hb).1]
      exact ⟨rfl, rfl⟩
    · rw [weatherReport_delta temp wind c hs hb hd.symm]
      rcases dry with dry | dry
      · rw [if_pos dry]
        exact ⟨rfl, rfl⟩
      · rw [if_neg (by omega), if_neg (by omega)]
        exact ⟨rfl, rfl⟩
  · rw [(weatherReport_apart temp wind c hs).1]
    exact ⟨rfl, rfl⟩

/-- The figures stand at the end of the step (04 R58, R59, R62, 08 R145). -/
theorem ReportEnds.figures (e : ReportEnds (weatherReport temp wind c s) t) :
    t.weather = { reportedWeather s temp wind with baseline := t.weather.baseline } ∧
    t.locks.handed = some (clampTemperature temp, min wind 600) ∧
    t.locks.cond.freeze = freezeNext s.lockRecs[2].active (clampTemperature temp) s.locks.cond.freeze ∧
    t.locks.cond.wind = windNext s.lockRecs[3].active (min wind 600) s.locks.cond.wind := by
  rw [e.weather, e.granted.locks]
  exact weatherReport_figures temp wind c s

/-- So do the baseline and the rain hold (04 R64, R65, 08 R144). -/
theorem ReportEnds.rain (e : ReportEnds (weatherReport temp wind c s) t) (hc : c < 65536) :
    (s.weatherRec.active.source ≠ .weather →
      t.weather.baseline = s.weather.baseline ∧ t.locks.rainHold = s.locks.rainHold) ∧
    (s.weatherRec.active.source = .weather → s.weather.baseline = none →
      t.weather.baseline = some c ∧ t.locks.rainHold = s.locks.rainHold) ∧
    (s.weatherRec.active.source = .weather → ∀ base, s.weather.baseline = some base → base < 65536 →
      let d := (c + 65536 - base) % 65536
      let rain := s.lockRecs[1].active
      t.weather.baseline = some c ∧ (400 < d → t.notice.isSet .rainSuspect = true ∧ t.locks.rainHold = s.locks.rainHold) ∧
      (d < rain.first → t.locks.rainHold = s.locks.rainHold) ∧
      (1 ≤ d → d ≤ 400 → rain.first ≤ d →
        t.locks.rainHold = some (s.partTime + rain.second * 60) ∧ t.locks.cond.rainHold = true)) := by
  rw [e.weather, e.granted.locks]
  refine ⟨fun h => (weatherReport_apart temp wind c h).2, fun h hb => (weatherReport_first temp wind c h hb).2,
    fun h base hb hbase => ?_⟩
  obtain ⟨based, suspect, below, starts⟩ := weatherReport_rained temp wind c h hb hbase hc
  exact ⟨based, fun k => (suspect k).imp (e.flags _) id, below, starts⟩

/-- Where the report moves no lock and brings no rain, a changed rate alone moves the beds. -/
theorem ReportStill.dry (h : ReportStill temp wind s) (e : ReportEnds (weatherReport temp wind c s) t)
    (hn : BringsNoRain c s) :
    (RateMoves s (reportedWeather s temp wind) → DemandsMade (Asks s) (runBeds s) s t ∧
      ∀ b : Fin 24, s.beds[b].active.used = true → ∀ l, s.bedLive[b] = some l →
        t.bedLive[b] = some (BedLive.accrue (effectiveRate s b) s.beds[b].active.dryingExposure s.partTime l)) ∧
    (¬ RateMoves s (reportedWeather s temp wind) → t.bedLive = s.bedLive ∧ runBeds t = runBeds s) := by
  obtain ⟨runs, live⟩ := weatherReport_dry (temp := temp) (wind := wind) hn
  refine ⟨fun hm => ?_, fun hm => ?_⟩
  · obtain ⟨made, accrued⟩ := h.moves hm
    refine ⟨(made.after runs live).granted e.granted, fun b hu l hl => ?_⟩
    rw [e.granted.bedLive, live]
    exact accrued b hu l hl
  · obtain ⟨runs', live', -⟩ := h.stays hm
    exact ⟨e.granted.bedLive.trans (live.trans live'), e.granted.beds.trans (runBeds_congr (runs.trans runs'))⟩

/-- Where it brings rain besides, the credits follow the accrual. -/
theorem ReportStill.wet (h : ReportStill temp wind s) (e : ReportEnds (weatherReport temp wind c s) t)
    {d : Nat} (hr : BringsRain c d s ∧ 1 ≤ d ∧ d ≤ 400 ∧ (d < s.lockRecs[1].active.first ∨
      s.lockRecs[1].active.enabled = false ∨ s.locks.cond.rainHold = true)) :
    (∀ b : Fin 24, s.beds[b].active.used = true → ∀ l, s.bedLive[b] = some l → t.bedLive[b] = some (rained d s b l)) ∧
    (¬ RateMoves s (reportedWeather s temp wind) → DemandsMade (Asks s) (runBeds s) s t) := by
  obtain ⟨⟨hs, base, hb, -, hd⟩, tip, small, unmoved⟩ := hr
  rw [weatherReport_delta temp wind c hs hb hd.symm, if_neg (by omega), if_pos small] at e
  obtain ⟨credited, made⟩ := h.credits (c := c) unmoved
  refine ⟨fun b hu l hl => ?_, fun hm => (made hm).granted e.granted⟩
  rw [e.granted.bedLive]
  exact credited b hu l hl

/-- The beds and their demand checks where the report moves no lock (05 R77, R78, R81). -/
theorem ReportStill.beds (h : ReportStill temp wind s) (e : ReportEnds (weatherReport temp wind c s) t) :
    let drier := s.weather.status ≠ .fresh ∨ s.weather.rate ≠ t.weather.rate
    let rains := fun d : Nat => BringsRain c d s ∧ 1 ≤ d ∧ d ≤ 400 ∧ (d < s.lockRecs[1].active.first ∨
      s.lockRecs[1].active.enabled = false ∨ s.locks.cond.rainHold = true)
    (∀ (b : Fin 24) (l : BedLive), s.beds[b].active.used = true → s.bedLive[b] = some l →
      (BringsNoRain c s → t.bedLive[b] = some (if drier then
        BedLive.accrue (effectiveRate s b) s.beds[b].active.dryingExposure s.partTime l else l)) ∧
      (∀ d, rains d → t.bedLive[b] = some (rained d s b l))) ∧
    (BringsNoRain c s → DemandsMade (fun b l => drier ∧ Asks s b l) (runBeds s) s t) ∧
    (∀ d, rains d → ¬ drier → DemandsMade (Asks s) (runBeds s) s t) := by
  intro drier rains
  have rate : t.weather.rate = (reportedWeather s temp wind).rate := by rw [e.figures.1]
  have moves : RateMoves s (reportedWeather s temp wind) ↔ drier := by
    rw [rateMoves_reported, ← rate]
  have dry (k : BringsNoRain c s) := h.dry e k
  have wet (d : Nat) (k : rains d) := h.wet e k
  rw [moves] at dry wet
  refine ⟨fun b l hu hl => ⟨fun k => ?_, fun d k => (wet d k).1 b hu l hl⟩, fun k => ?_, fun d k => (wet d k).2⟩
  · by_cases hm : drier
    · rw [if_pos hm]
      exact ((dry k).1 hm).2 b hu l hl
    · rw [if_neg hm, ((dry k).2 hm).1]
      exact hl
  · by_cases hm : drier
    · exact ((dry k).1 hm).1.view (fun _ _ _ asked => asked) fun b l => (and_iff_right hm).symm
    · exact .idle ((dry k).2 hm).2 fun _ _ _ asks => hm asks.1

end

/-- Settles O38: the report is taken where its entry was heard, its rate and its rain in turn, and the rest of the step grants at
most. -/
theorem weatherReportIsTaken : Obligations.WeatherReportIsTaken := by
  intro n a reply payload s htx hk hrep hd temp wind count bands rate baseline freeze gale rain
  have used : s.nodes[n].active.used = true := by rw [NodeRec.used, hk]; rfl
  obtain ⟨t, ht, outcome⟩ := pollReported htx used (by rw [hk]; exact hrep) hd
  refine ⟨t, ht, outcome.imp id ?_⟩
  rintro ⟨k, ends⟩
  obtain ⟨nodes, notice, heard⟩ := pollHeard_weather (s := pollTaken s k) hk
  rw [pollConsumed_weather (s := pollTaken s k) hk, heard] at ends
  obtain ⟨weather, handed, freezes, blows⟩ := ends.figures
  obtain ⟨apart, first, rained⟩ := ends.rain (get2_lt payload 4)
  have freezes : t.locks.cond.freeze = freezeNext freeze temp s.locks.cond.freeze := freezes
  have blows : t.locks.cond.wind = windNext gale wind s.locks.cond.wind := blows
  have rated : t.weather.rate = dryingRate s.drying.active s.weatherRec.active.windFactor temp wind :=
    congrArg WeatherUnit.rate weather
  obtain ⟨inBand, lastBand⟩ := dryingRate_is s.drying.active s.weatherRec.active.windFactor temp wind
  rw [← rated] at inBand lastBand
  refine ⟨congrArg WeatherUnit.status weather, congrArg WeatherUnit.temperature weather, congrArg WeatherUnit.wind weather,
    congrArg WeatherUnit.reference weather, handed, inBand, lastBand, fun h => ?_, fun h => ?_, fun h => ?_, fun h => ?_,
    apart, first, rained, fun hl hf hw => ?_⟩
  · rw [freezes, h]
    exact freezeNext_sets _ _
  · rw [freezes, h]
    exact freezeNext_clears _ _
  · rw [blows, h]
    exact windNext_sets _ _
  · rw [blows, h]
    exact windNext_clears _ _
  · have still : ReportStill (signed16 (get2 payload 0)) (get2 payload 2) (weatherHeard n nodes notice (pollTaken s k)) :=
      ⟨hl, hf.imp id freezes.symm.trans, hw.imp id blows.symm.trans⟩
    obtain ⟨balances, checks⟩ := still.beds ends
    exact ⟨balances, fun _ => checks⟩

end Sys2Proof.Machine
end

section
/-! SUPPORT. Balances in their range (05 R71): the arithmetic of accrual, credits and readings keeps it, and so does each operation of
the Dispatcher, Valve Control, the Lock Unit, the Weather Unit and the Node Table. -/

namespace Sys2Proof.Machine

/-! ## One balance -/

/-- A balance in its range (05 R71). -/
def BedLive.sound (l : BedLive) : Prop := l.deficit ≤ 2000 ∧ l.estimate ≤ 1000

namespace BedLive
variable {l : BedLive}

theorem sound.accrue (h : l.sound) (rate exposure now : Nat) : (l.accrue rate exposure now).sound :=
  ⟨Nat.min_le_right _ _, h.2⟩

theorem sound.water (h : l.sound) (seconds flow area : Nat) : (l.water seconds flow area).sound :=
  ⟨(Nat.sub_le _ _).trans h.1, h.2⟩

theorem sound.rain (h : l.sound) (d tip exposure : Nat) : (l.rain d tip exposure).sound :=
  ⟨(Nat.sub_le _ _).trans h.1, h.2⟩

/-- A reading moves the estimate towards itself, and no further (05 R72). -/
theorem sound.smooth (h : l.sound) {w k : Nat} (hw : w ≤ 1000) (hk : k ≤ 8) : (l.smooth w k).sound := by
  obtain ⟨hd, he⟩ := h
  unfold BedLive.smooth
  split
  · refine ⟨hd, ?_⟩
    have between : (l.estimate : Int) + (((w : Int) - l.estimate) * k).tdiv 8 ≤ 1000 := by
      rcases Nat.le_total w l.estimate with hle | hle
      · have down : ((w : Int) - l.estimate) * k ≤ 0 := Int.mul_nonpos_of_nonpos_of_nonneg (by omega) (by omega)
        have : (((w : Int) - l.estimate) * k).tdiv 8 ≤ (0 : Int).tdiv 8 := Int.tdiv_le_tdiv (by omega) down
        rw [Int.zero_tdiv] at this
        omega
      · have step : ((w : Int) - l.estimate) * k ≤ ((w : Int) - l.estimate) * 8 :=
          Int.mul_le_mul_of_nonneg_left (by omega) (by omega)
        have : (((w : Int) - l.estimate) * k).tdiv 8 ≤ (((w : Int) - l.estimate) * 8).tdiv 8 :=
          Int.tdiv_le_tdiv (by omega) step
        rw [Int.mul_tdiv_cancel _ (by omega)] at this
        omega
    show Int.toNat _ ≤ 1000
    omega
  · exact ⟨hd, hw⟩

end BedLive

/-- A translated count is a wetness of at most 1000 (04 R51). -/
theorem wetness_le (dry wet count : Nat) : wetness dry wet count ≤ 1000 := by
  unfold wetness
  split
  · omega
  · split
    · omega
    · exact Nat.div_le_of_le_mul (by rw [Nat.mul_comm]; exact Nat.mul_le_mul_right 1000 (by omega))

/-- The reading deficit of a bounded record stays in the deficit's range (05 R73). -/
theorem readingDeficit_le {fieldCapacity holding : Nat} (hf : fieldCapacity ≤ 1000) (hh : holding ≤ 2000) (estimate : Nat) :
    readingDeficit estimate fieldCapacity holding ≤ 2000 := by
  refine Nat.div_le_of_le_mul ?_
  exact (Nat.mul_le_mul (by omega : fieldCapacity - estimate ≤ 1000) hh)

/-- A bed record that LOAD takes is bounded (10 R166). -/
theorem BedRec.bounded_of_parse {bs : List Byte} {r : BedRec} (h : BedRec.parse bs = some r) : r.bounded := by
  unfold BedRec.parse at h
  split at h
  · cases h
  · dsimp only at h
    split at h
    next hok =>
      cases h
      intro hu
      dsimp only at hu ⊢
      simp only [BedRec.ok, Bool.or_eq_true, Bool.and_eq_true, Bool.not_eq_true', decide_eq_true_eq] at hok
      rcases hok with hok | hok
      · rw [hu] at hok; cases hok
      · omega
    · cases h

/-! ## The laws kept -/

/-- Every balance in its range, every bed record behind it bounded, and a balance only of a used bed (05 R68, R70, R71). -/
def BalancesSound (s : State) : Prop := BalanceLaw s ∧ BedRecordsLaw s

/-- A move that keeps the balances in range. -/
structure BalanceKept (s t : State) : Prop where
  kept : BalancesSound s → BalancesSound t

namespace BalanceKept
variable {s t u : State}

theorem refl (s : State) : BalanceKept s s := ⟨id⟩

theorem trans (h : BalanceKept s t) (k : BalanceKept t u) : BalanceKept s u := ⟨fun b => k.kept (h.kept b)⟩

theorem of_eq (beds : t.beds = s.beds) (live : t.bedLive = s.bedLive) : BalanceKept s t :=
  ⟨fun ⟨hb, hr⟩ => ⟨fun b l hl => hb b l (by rwa [← live]), fun b => by rw [beds, live]; exact hr b⟩⟩

/-- Grants and release checks move no balance. -/
theorem of_granted (h : Granted s t) (f : LineFrame s t) : BalanceKept s t := of_eq f.beds h.bedLive

theorem foldl {α : Type} {f : State → α → State} (hf : ∀ s a, BalanceKept s (f s a)) (as : List α) (s : State) :
    BalanceKept s (as.foldl f s) := by
  induction as generalizing s with
  | nil => exact refl s
  | cons a as ih => exact (hf s a).trans (ih (f s a))

theorem ite {p : Prop} [Decidable p] (h : p → BalanceKept s t) (k : ¬ p → BalanceKept s u) :
    BalanceKept s (if p then t else u) := by
  split
  next x => exact h x
  next x => exact k x

end BalanceKept

section
variable (s : State)

/-- One balance is moved within its range, on a record whose bounds may be used. -/
theorem onBed_balance (b : Fin 24) (f : BedLive → BedLive)
    (h : ∀ l, s.beds[b].active.fieldCapacity ≤ 1000 ∧ s.beds[b].active.holding ≤ 2000 ∧ s.beds[b].active.smoothing ≤ 8 →
      l.sound → (f l).sound) : BalanceKept s (onBed b f s) := by
  rw [onBed_eq]
  refine ⟨fun ⟨hb, hr⟩ => ⟨fun c l hl => ?_, fun c => ?_⟩⟩
  · rw [State.setBedLive_bedLive] at hl
    by_cases hc : c = b
    · subst hc
      simp only [Fin.getElem_fin, Vector.getElem_set_self, Option.map_eq_some_iff] at hl
      obtain ⟨l', hl', rfl⟩ := hl
      obtain ⟨active, -, used⟩ := hr c
      exact h l' (active (used (by rw [Fin.getElem_fin, hl']; rfl))) (hb c l' hl')
    · rw [getElem_set_other _ hc] at hl
      exact hb c l hl
  · obtain ⟨active, pending, used⟩ := hr c
    refine ⟨active, pending, fun hl => used ?_⟩
    rw [State.setBedLive_bedLive] at hl
    by_cases hc : c = b
    · subst hc
      simpa using hl
    · rwa [getElem_set_other _ hc] at hl

theorem accrue_balance (b : Fin 24) : BalanceKept s (accrue b s) := onBed_balance s b _ fun _ _ h => h.accrue _ _ _
theorem accrueAll_balance : BalanceKept s (accrueAll s) := .foldl (fun t b => accrue_balance t b) _ s
theorem setHoldEnd_balance (b : Fin 24) : BalanceKept s (setHoldEnd b s) := onBed_balance s b _ fun _ _ h => h

theorem waterCredit_balance (b : Fin 24) (secs flow : Nat) : BalanceKept s (waterCredit b secs flow s) :=
  (accrue_balance s b).trans (onBed_balance _ b _ fun _ _ h => h.water _ _ _)

theorem rainCredit_balance (b : Fin 24) (d : Nat) : BalanceKept s (rainCredit b d s) :=
  (accrue_balance s b).trans (onBed_balance _ b _ fun _ _ h => h.rain _ _ _)

/-- A reading keeps the estimate in its range, and so the deficit that it gives (05 R72, R73). -/
theorem takeReading_balance (b : Fin 24) {w : Nat} (hw : w ≤ 1000) : BalanceKept s (takeReading b w s) := by
  refine onBed_balance s b _ fun l ⟨hf, hh, hk⟩ h => ?_
  have smoothed := h.smooth hw hk
  dsimp only
  split
  · exact smoothed
  · exact ⟨readingDeficit_le hf hh _, smoothed.2⟩

/-! ## Runs and grant passes -/

theorem pass_balance : BalanceKept s (pass s) := .of_granted (pass_granted s) (pass_frame s).field.line
theorem grantPass_balance : BalanceKept s (grantPass s) := .of_granted (grantPass_granted s) (grantPass_frame s).field.line
theorem releaseAll_balance : BalanceKept s (releaseAll s) := .of_granted (releaseAll_granted s) (releaseAll_frame s).field.line
theorem putRun_balance (r : Run) : BalanceKept s (putRun s r) := .of_eq rfl rfl
theorem setFlag_balance (f : Flag) : BalanceKept s (setFlag f s) := .of_eq rfl rfl
theorem setWork_balance (w : Work) : BalanceKept s (s.setWork w) := .of_eq rfl rfl

theorem writeValve_bedLive (v : Fin 32) (l : ValveLive) : (writeValve v l s).bedLive = s.bedLive := by
  have released (b : Fin 24) (t : State) : (releaseCheck b t).bedLive = t.bedLive := (releaseCheck_granted t b).bedLive
  have reported : (oweReport (if s.valveLive[v].state ≠ l.state then noteValveChange (s.setValveLive v l)
      else s.setValveLive v l)).bedLive = s.bedLive := by
    split <;> rfl
  simp only [writeValve]
  split
  · split
    · rw [released, reported]
    · exact reported
  · split <;> rfl

theorem writeValve_balance (v : Fin 32) (l : ValveLive) : BalanceKept s (writeValve v l s) :=
  .of_eq (writeValve_frame s v l).beds (writeValve_bedLive s v l)

theorem closeRequest_balance (v : Fin 32) : BalanceKept s (closeRequest v s) :=
  .of_eq (closeRequest_frame s v).beds (closeRequest_bedLive s v)

theorem openRequest_balance (v : Fin 32) : BalanceKept s (openRequest v s) :=
  .of_eq (openRequest_frame s v).beds (openRequest_bedLive s v)

theorem withdraw_bedLive (v : Fin 32) : (withdraw v s).bedLive = s.bedLive := by
  unfold withdraw
  split
  · rw [dropOpen, setFifo_bedLive]
    exact detach_bedLive s v
  · rfl

theorem withdraw_balance (v : Fin 32) : BalanceKept s (withdraw v s) := .of_eq (withdraw_frame s v).beds (withdraw_bedLive s v)

theorem valveStop_bedLive (v : Fin 32) : (valveStop v s).bedLive = s.bedLive := by
  have closed (l : ValveLive) : (writeValve v l (closeRequest v s)).bedLive = s.bedLive := by
    rw [writeValve_bedLive, closeRequest_bedLive]
  simp only [valveStop]
  split
  · split <;> exact closed _
  · exact closed _
  all_goals exact writeValve_bedLive s v _

theorem valveStop_balance (v : Fin 32) : BalanceKept s (valveStop v s) :=
  .of_eq (valveStop_frame s v).beds (valveStop_bedLive s v)

/-! ## Pulses, removal, demand -/

theorem endPulse_balance (b : Fin 24) (stop : Bool) : BalanceKept s (endPulse b stop s) := by
  simp only [endPulse]
  split
  · exact .refl s
  · split
    · exact putRun_balance s _
    · exact .ite (fun _ => ((putRun_balance s _).trans (waterCredit_balance _ _ _ _)).trans (valveStop_balance _ _))
        fun _ => (putRun_balance s _).trans (waterCredit_balance _ _ _ _)

theorem takeOut_balance (b : Fin 24) (r : Run) : BalanceKept s (takeOut b r s) := by
  have out : BalanceKept s (setHoldEnd b (s.setRuns (s.runs.filter fun q => q.bed != b))) :=
    (BalanceKept.of_eq (s := s) (t := s.setRuns (s.runs.filter fun q => q.bed != b)) rfl rfl).trans (setHoldEnd_balance _ b)
  simp only [takeOut]
  refine .trans ?_ (setWork_balance _ _)
  exact .ite (fun _ => out.trans (setFlag_balance _ _)) fun _ => out

theorem dropRun_balance (b : Fin 24) : BalanceKept s (dropRun b s) := by
  unfold dropRun
  split
  · exact .refl s
  · exact (takeOut_balance s b _).trans (pass_balance _)

theorem removeRun_balance (b : Fin 24) : BalanceKept s (removeRun b s) := by
  unfold removeRun
  split
  · exact .refl s
  · split
    · exact (endPulse_balance s b true).trans (dropRun_balance _ b)
    · exact dropRun_balance s b

theorem leaveOn_balance (r : Run) : BalanceKept s (leaveOn r s) :=
  ((putRun_balance s r).trans (setWork_balance _ _)).trans (pass_balance _)

theorem endEarly_balance (b : Fin 24) (x : HeldReasons) (stop : Bool) : BalanceKept s (endEarly b x stop s) := by
  have ended := endPulse_balance s b stop
  simp only [endEarly]
  split
  · exact ended
  · exact .ite (fun _ => ended.trans (takeOut_balance _ b _))
      fun _ => (ended.trans (putRun_balance _ _)).trans (setWork_balance _ _)

theorem earlyEnd_balance (b : Fin 24) (x : HeldReasons) (stop : Bool) : BalanceKept s (earlyEnd b x stop s) := by
  unfold earlyEnd
  exact .ite (fun _ => (endEarly_balance s b x stop).trans (pass_balance _)) fun _ => .refl s

theorem pulseExpires_balance (b : Fin 24) : BalanceKept s (pulseExpires b s) := by
  have ended := endPulse_balance s b true
  simp only [pulseExpires]
  split
  · exact ended
  · refine .ite (fun _ => ended.trans (dropRun_balance _ b)) fun _ => ?_
    split
    · exact ended.trans (dropRun_balance _ b)
    · exact ended.trans (leaveOn_balance _ _)
    · exact ended.trans (leaveOn_balance _ _)

theorem soakExpires_balance (b : Fin 24) : BalanceKept s (soakExpires b s) := by
  simp only [soakExpires]
  split
  · exact .refl s
  · exact .ite (fun _ => (putRun_balance s _).trans (pass_balance _)) fun _ => putRun_balance s _

theorem runningLeft_balance : BalanceKept s (runningLeft s) := .foldl (fun t b => earlyEnd_balance t b _ _) _ s

theorem tellOwner_balance {ends : Fin 24 → State → State} (h : ∀ b t, BalanceKept t (ends b t)) (old new : ValveLive) :
    BalanceKept s (tellOwner ends old new s) := by
  have begun (b : Fin 24) : BalanceKept s (startPulse b s) := by
    unfold startPulse
    split
    · exact .refl s
    · exact .ite (fun _ => putRun_balance s _) fun _ => .refl s
  unfold tellOwner
  split
  · exact .refl s
  · exact .ite (fun _ => h _ s) fun _ => .ite (fun _ => begun _) fun _ => .refl s

theorem shiftValve_balance (v : Fin 32) (l : ValveLive) : BalanceKept s (shiftValve v l s) := by
  have written := writeValve_balance s v l
  simp only [shiftValve]
  exact .ite (fun _ => written.trans (tellOwner_balance _ (fun b t => endEarly_balance t b _ _) _ _)) fun _ => written

theorem changeValve_balance (v : Fin 32) (l : ValveLive) : BalanceKept s (changeValve v l s) := by
  have written := writeValve_balance s v l
  simp only [changeValve]
  exact .ite (fun _ => (written.trans (tellOwner_balance _ (fun b t => earlyEnd_balance t b _ _) _ _)).trans (pass_balance _))
    fun _ => written

theorem createRun_balance (r : Run) : BalanceKept s (createRun r s) :=
  (BalanceKept.of_eq (s := s) (t := s.setRuns (insertRun r s.runs)) rfl rfl).trans (pass_balance _)

theorem demandCheck_balance (b : Fin 24) : BalanceKept s (demandCheck b s) := by
  unfold demandCheck
  split
  · exact .refl s
  · exact createRun_balance s _

theorem forBeds_balance (acts : Fin 24 → Bool) {f : Fin 24 → State → State} (h : ∀ b t, BalanceKept t (f b t)) :
    BalanceKept s (forBeds acts f s) :=
  inAnyOrder_keeps .refl .trans (fun _ _ => .of_eq rfl rfl) h _ _ s

theorem demandAll_balance : BalanceKept s (demandAll s) := forBeds_balance s _ fun b t => demandCheck_balance t b

/-! ## Valve Control -/

theorem latchFault_balance (v : Fin 32) : BalanceKept s (latchFault v s) := .of_eq rfl rfl
theorem setValveLive_balance (v : Fin 32) (l : ValveLive) : BalanceKept s (s.setValveLive v l) := .of_eq rfl rfl

/-- A valve goes to FAULT with its waiting command withdrawn. -/
theorem fault_balance (v : Fin 32) (l : ValveLive) : BalanceKept s (changeValve v l (latchFault v (withdraw v s))) :=
  ((withdraw_balance s v).trans (latchFault_balance _ v)).trans (changeValve_balance _ v l)

/-- A valve changes with a close request. -/
theorem close_balance (v : Fin 32) (l : ValveLive) : BalanceKept s (changeValve v l (closeRequest v s)) :=
  (closeRequest_balance s v).trans (changeValve_balance _ v l)

theorem valveOutcome_balance (v : Fin 32) (k : CommandKind) (answered : Bool) : BalanceKept s (valveOutcome v k answered s) := by
  have failed : BalanceKept s (failedAttempt v s) := by
    simp only [failedAttempt]
    exact .ite (fun _ => setValveLive_balance s v _) fun _ => fault_balance s v _
  simp only [valveOutcome]
  split
  iterate 3 exact .ite (fun _ => changeValve_balance s v _) fun _ => failed
  · exact .refl s

theorem reconcile_balance (v : Fin 32) (isOpen : Bool) : BalanceKept s (reconcile v isOpen s) := by
  simp only [reconcile]
  split
  · exact ((latchFault_balance s v).trans (closeRequest_balance _ v)).trans (shiftValve_balance _ v _)
  · exact (latchFault_balance s v).trans (shiftValve_balance _ v _)
  · exact (closeRequest_balance s v).trans (shiftValve_balance _ v _)
  · exact shiftValve_balance s v _
  · exact .refl s

theorem decoderReport_balance (n : Fin 48) (outputs : Nat) : BalanceKept s (decoderReport n outputs s) :=
  (BalanceKept.foldl (fun t v => reconcile_balance t v _) _ s).trans
    (.foldl (fun t _ => .ite (fun _ => pass_balance t) fun _ => .refl t) _ _)

theorem loseDecoder_balance (v : Fin 32) : BalanceKept s (loseDecoder v s) := by
  simp only [loseDecoder]
  split
  iterate 3 exact fault_balance s v _
  · exact .ite (fun _ => (withdraw_balance s v).trans (setValveLive_balance _ v _)) fun _ => .refl s
  all_goals exact .refl s

theorem decoderLost_balance (n : Fin 48) : BalanceKept s (decoderLost n s) := .foldl (fun t v => loseDecoder_balance t v) _ s

theorem decoderReturned_balance (n : Fin 48) : BalanceKept s (decoderReturned n s) := by
  refine .foldl (fun t v => ?_) _ s
  simp only [liftFault]
  exact .ite (fun _ => .ite (fun _ => close_balance t v _) fun _ => changeValve_balance t v _) fun _ => .refl t

theorem settleClosed_balance (v : Fin 32) : BalanceKept s (settleClosed v s) := by
  unfold settleClosed
  exact .ite (fun _ => changeValve_balance s v _) fun _ => .refl s

theorem setValveMode_balance (v : Fin 32) (m : ValveMode) : BalanceKept s (setValveMode v m s) := by
  simp only [setValveMode]
  split
  · exact .ite (fun _ => .refl s) fun _ => close_balance s v _
  · exact .ite (fun _ => (openRequest_balance s v).trans (changeValve_balance _ v _)) fun _ => changeValve_balance s v _
  · exact .ite (fun _ => .ite (fun _ => close_balance s v _) fun _ => changeValve_balance s v _) fun _ => close_balance s v _
  · exact (withdraw_balance s v).trans (changeValve_balance _ v _)

theorem forcedToAuto_balance : BalanceKept s (forcedToAuto s) :=
  .foldl (fun t v => .ite (fun _ => setValveMode_balance t v .auto) fun _ => .refl t) _ s

theorem valveSwapped_balance (v : Fin 32) (old new : ValveRec) : BalanceKept s (valveSwapped v old new s) := by
  simp only [valveSwapped]
  refine .trans (.trans (t := noteValveChange _) ?_ (changeValve_balance _ v _)) (pass_balance _)
  exact (BalanceKept.ite (fun _ => withdraw_balance s v) fun _ => .refl s).trans (.of_eq rfl rfl)

/-! ## Locks -/

theorem lockOnset_balance (m : LockMode) (i : LockTiming) : BalanceKept s (lockOnset m i s) := by
  have drop (t : State) (bs : List (Fin 24)) : BalanceKept t (bs.foldl (fun u b => dropRun b u) t) :=
    .foldl (fun u b => dropRun_balance u b) bs t
  have ended : BalanceKept s (if i = .immediate then
      (bedsOn s).foldl (fun u b => if m = .cancel then removeRun b u else earlyEnd b .onlyLock true u) s else s) :=
    .ite (fun _ => .foldl (fun u b => .ite (fun _ => removeRun_balance u b) fun _ => earlyEnd_balance u b _ _) _ s)
      fun _ => .refl s
  simp only [lockOnset]
  exact .ite (fun _ => ended.trans (drop _ _)) fun _ => ended

theorem recomputeLock_balance : BalanceKept s (recomputeLock s) := by
  have flagged (l : LockUnit) : BalanceKept s (setFlag .lockChange (s.setLocks l)) := .of_eq rfl rfl
  simp only [recomputeLock]
  refine .ite (fun _ => .refl s) fun _ => ?_
  split
  · exact (((flagged _).trans (releaseAll_balance _)).trans (grantPass_balance _)).trans (demandAll_balance _)
  · exact .ite (fun _ => (flagged _).trans (lockOnset_balance _ _ _)) fun _ => flagged _

theorem setLocks_balance (l : LockUnit) : BalanceKept s (s.setLocks l) := .of_eq rfl rfl

theorem setCondition_balance (x : Source) (b : Bool) : BalanceKept s (setCondition x b s) := by
  unfold setCondition
  exact .ite (fun _ => .refl s) fun _ => (setLocks_balance s _).trans (recomputeLock_balance _)

theorem raiseSupply_balance : BalanceKept s (raiseSupply s) := by
  unfold raiseSupply
  exact .ite (fun _ => .refl s) fun _ => (setCondition_balance s _ _).trans (forcedToAuto_balance _)

theorem handWeather_balance (t : Int) (v : Nat) : BalanceKept s (handWeather t v s) := by
  have freeze (u : State) : BalanceKept u (judgeFreeze t u) := setCondition_balance u _ _
  have wind (u : State) : BalanceKept u (judgeWind v u) := setCondition_balance u _ _
  have chosen (u : State) : BalanceKept u { u with choice := u.choice + 1 } := .of_eq rfl rfl
  simp only [handWeather]
  refine (setLocks_balance s { s.locks with handed := some (t, v) }).trans (.ite (fun _ => ?_) fun _ => (freeze _).trans (wind _))
  exact (chosen _).trans (.ite (fun _ => (wind _).trans (freeze _)) fun _ => (freeze _).trans (wind _))

theorem rainHoldDelta_balance (d : Nat) : BalanceKept s (rainHoldDelta d s) := by
  simp only [rainHoldDelta]
  exact .ite (fun _ => (setLocks_balance s _).trans (setCondition_balance _ _ _)) fun _ => .refl s

/-! ## Probes and weather -/

theorem setProbe_balance (n : Fin 48) (p : Option ProbeLive) : BalanceKept s (s.setProbe n p) := .of_eq rfl rfl
theorem setWeatherUnit_balance (w : WeatherUnit) : BalanceKept s (s.setWeatherUnit w) := .of_eq rfl rfl

theorem probeReading_balance (n : Fin 48) (c : Nat) : BalanceKept s (probeReading n c s) := by
  simp only [probeReading]
  split
  · exact .refl s
  · refine .ite (fun _ => ?_) fun _ => .ite (fun _ => (setProbe_balance s n _).trans (setFlag_balance _ _))
      fun _ => setProbe_balance s n _
    split
    · exact setProbe_balance s n _
    · exact ((setProbe_balance s n _).trans (takeReading_balance _ _ (wetness_le _ _ _))).trans (demandCheck_balance _ _)

theorem probeReturns_balance (n : Fin 48) : BalanceKept s (probeReturns n s) := by
  unfold probeReturns
  split
  · exact .refl s
  · exact .ite (fun _ => setProbe_balance s n _) fun _ => .refl s

theorem probeSwapped_balance (n : Fin 48) (old new : NodeRec) : BalanceKept s (probeSwapped n old new s) := by
  unfold probeSwapped
  exact .ite (fun _ => .ite (fun _ => setProbe_balance s n _) fun _ => probeReturns_balance s n) fun _ => setProbe_balance s n _

theorem evaluate_balance (b : Fin 24) : BalanceKept s (evaluate b s) := by
  have judged (t : State) (n : Fin 48) : BalanceKept t (judgeProbe n t) := by
    rw [judgeProbe_eq]
    exact setProbe_balance t n _
  have all : BalanceKept s ((probesOf s b).foldl (fun t n => judgeProbe n t) s) := .foldl judged _ s
  simp only [evaluate]
  refine .trans ?_ (accrue_balance _ b)
  exact all.trans (onBed_balance _ b _ fun _ _ h => h)

theorem setWeather_balance (w : WeatherUnit) : BalanceKept s (setWeather w s) := by
  simp only [setWeather]
  exact .ite (fun _ => ((accrueAll_balance s).trans (setWeatherUnit_balance _ w)).trans (demandAll_balance _))
    fun _ => setWeatherUnit_balance s w

theorem recomputeRate_balance : BalanceKept s (recomputeRate s) := by
  unfold recomputeRate
  exact .ite (fun _ => setWeather_balance s _) fun _ => .refl s

theorem rainDelta_balance (d : Nat) : BalanceKept s (rainDelta d s) := by
  have beds (t : State) : BalanceKept t (rainToBeds d t) :=
    (BalanceKept.foldl (fun u b => rainCredit_balance u b d) _ t).trans (demandAll_balance _)
  have chosen : BalanceKept s { s with choice := s.choice + 1 } := .of_eq rfl rfl
  rcases rainDelta_cases s d with e | ⟨-, e | e⟩ <;> rw [e]
  · exact (beds s).trans (rainHoldDelta_balance _ d)
  · exact (chosen.trans (rainHoldDelta_balance _ d)).trans (beds _)
  · exact (chosen.trans (beds _)).trans (rainHoldDelta_balance _ d)

theorem rainCounter_balance (c : Nat) : BalanceKept s (rainCounter c s) := by
  simp only [rainCounter]
  refine .ite (fun _ => ?_) fun _ => .refl s
  split
  · exact setWeatherUnit_balance s _
  · exact .ite (fun _ => .refl s) fun _ => (setWeatherUnit_balance s _).trans
      (.ite (fun _ => rainDelta_balance _ _) fun _ => setFlag_balance _ _)

theorem localTip_balance : BalanceKept s (localTip s) := by
  unfold localTip
  exact .ite (fun _ => rainDelta_balance s 1) fun _ => .refl s

theorem weatherReport_balance (t : Int) (v c : Nat) : BalanceKept s (weatherReport t v c s) :=
  ((setWeather_balance s _).trans (handWeather_balance _ _ _)).trans (rainCounter_balance _ c)

theorem weatherNodeSwapped_balance (old new : NodeRec) : BalanceKept s (weatherNodeSwapped old new s) := by
  unfold weatherNodeSwapped
  exact .ite (fun _ => .ite (fun _ => setWeather_balance s _) fun _ => setWeatherUnit_balance s _)
    fun _ => .ite (fun _ => setWeather_balance s _) fun _ => .refl s

theorem weatherRecSwapped_balance (old new : WeatherRec) : BalanceKept s (weatherRecSwapped old new s) := by
  unfold weatherRecSwapped
  exact .trans (.ite (fun _ => setWeatherUnit_balance s _) fun _ => .refl s) (recomputeRate_balance _)

/-! ## The Node Table -/

theorem presenceChanged_balance (n : Fin 48) (l : NodeLive) : BalanceKept s (presenceChanged n l s) := .of_eq rfl rfl
theorem setNodeLive_balance (n : Fin 48) (l : NodeLive) : BalanceKept s (s.setNodeLive n l) := .of_eq rfl rfl
theorem setHub_balance (h : HubPort) : BalanceKept s (s.setHub h) := .of_eq rfl rfl

theorem nodePresent_balance (n : Fin 48) (k : NodeKind) (prior : Presence) : BalanceKept s (nodePresent n k prior s) := by
  unfold nodePresent
  split
  · exact .trans (.ite (fun _ => decoderReturned_balance s n) fun _ => .refl s) (pass_balance _)
  · exact .ite (fun _ => probeReturns_balance s n) fun _ => .refl s
  · exact setWeatherUnit_balance s _
  all_goals exact .refl s

theorem nodeMissing_balance (n : Fin 48) (k : NodeKind) : BalanceKept s (nodeMissing n k s) := by
  unfold nodeMissing
  exact .ite (fun _ => decoderLost_balance s n) fun _ => .refl s

theorem pollMiss_balance (n : Fin 48) : BalanceKept s (pollMiss n s) := by
  simp only [pollMiss]
  split
  · exact setNodeLive_balance s n _
  · exact setNodeLive_balance s n _
  · exact .ite (fun _ => setNodeLive_balance s n _)
      fun _ => (presenceChanged_balance s n _).trans (nodeMissing_balance _ n _)

theorem pollHeard_balance (n : Fin 48) : BalanceKept s (pollHeard n s) := by
  simp only [pollHeard]
  split
  · exact setNodeLive_balance s n _
  · exact (presenceChanged_balance s n _).trans (nodePresent_balance _ n _ _)

theorem consumeReport_balance (n : Fin 48) (k : NodeKind) (p : List Byte) : BalanceKept s (consumeReport n k p s) := by
  unfold consumeReport
  split
  · exact probeReading_balance s n _
  · exact weatherReport_balance s _ _ _
  · exact decoderReport_balance s n _
  all_goals exact .refl s

theorem forwardReport_balance (n : Fin 48) (k : NodeKind) (p : List Byte) : BalanceKept s (forwardReport n k p s) := by
  have offered (f : HubFrame) : BalanceKept s (offerReport f s) := by
    unfold offerReport
    exact .ite (fun _ => setHub_balance s _) fun _ => setFlag_balance s _
  simp only [forwardReport]
  exact .ite (fun _ => .ite (fun _ => (offered _).trans (setNodeLive_balance _ n _)) fun _ => offered _) fun _ => .refl s

theorem pollResult_balance (n : Fin 48) (r : Option (NodeKind × List Byte)) : BalanceKept s (pollResult n r s) := by
  unfold pollResult
  split
  · exact pollMiss_balance s n
  · exact .ite (fun _ => ((pollHeard_balance s n).trans (consumeReport_balance _ n _ _)).trans (forwardReport_balance _ n _ _))
      fun _ => pollMiss_balance s n

theorem pollDelivered_balance (n : Fin 48) (a : Byte) (r : Option (NodeKind × List Byte)) :
    BalanceKept s (pollDelivered n a r s) := by
  have chosen : BalanceKept s { s with choice := s.choice + 1 } := .of_eq rfl rfl
  simp only [pollDelivered]
  refine .ite (fun _ => .ite (fun _ => pollResult_balance s n r) fun _ => ?_) fun _ => .refl s
  exact .ite (fun _ => chosen.trans (pollResult_balance _ n r)) fun _ => chosen

theorem nodesPowerOff_balance : BalanceKept s (nodesPowerOff s) := by
  refine .foldl (fun t n => ?_) _ s
  simp only [losePower]
  exact .ite (fun _ => .ite (fun _ => setNodeLive_balance t n _) fun _ => presenceChanged_balance t n _) fun _ => .refl t

theorem nodeLiveSwapped_balance (n : Fin 48) (old new : NodeRec) : BalanceKept s (nodeLiveSwapped n old new s) := by
  simp only [nodeLiveSwapped]
  exact .ite (fun _ => .ite (fun _ => setNodeLive_balance s n _) fun _ => presenceChanged_balance s n _)
    fun _ => setNodeLive_balance s n _

theorem nodeSwapped_balance (n : Fin 48) (old new : NodeRec) : BalanceKept s (nodeSwapped n old new s) := by
  have decoder (t : State) : BalanceKept t (decoderSwapped n old new t) := by
    unfold decoderSwapped
    exact .ite (fun _ => decoderLost_balance t n) fun _ => .refl t
  exact (((nodeLiveSwapped_balance s n old new).trans (probeSwapped_balance _ n old new)).trans
    (weatherNodeSwapped_balance _ old new)).trans (decoder _)

end

end Sys2Proof.Machine
end

section
/-! SUPPORT. Balances in their range: the Line Sequencer's operations, swaps and the end of a step keep it. -/

namespace Sys2Proof.Machine

section
variable (s : State)

/-! ## The Sequencer -/

theorem setSeq_balance (q : Sequencer) : BalanceKept s (s.setSeq q) := .of_eq rfl rfl
theorem setBeacon_balance (b : Option Nat) : BalanceKept s { s with beacon := b } := .of_eq rfl rfl
theorem setQueue_balance (q : LineQueue) : BalanceKept s (s.setQueue q) := .of_eq rfl rfl
theorem quiet_balance (q : SeqState) : BalanceKept s (quiet q s) := .of_eq rfl rfl

theorem payClearing_balance (tx : Transmission) : BalanceKept s (payClearing tx s) :=
  .of_granted (payClearing_granted s tx) (payClearing_field s tx).line

theorem marksStop_balance : BalanceKept s (marksStop s) := .of_granted (marksStop_granted s) (marksStop_line s)
theorem enterStopped_balance : BalanceKept s (enterStopped s) := .of_granted (enterStopped_granted s) (enterStopped_line s)
theorem examineStop_balance : BalanceKept s (examineStop s) := .of_granted (examineStop_granted s) (examineStop_line s)

theorem marksStart_balance : BalanceKept s (marksStart s) :=
  .of_eq (marksStart_line s).beds <| by
    simp only [marksStart, clearWaiting]
    split
    · rw [(clearEntries_granted _ _).bedLive]
      rfl
    · rfl

theorem halt_balance : BalanceKept s (halt s) := by
  have halted : BalanceKept s (quiet .halted (setFlag .seqHalted s)) := (setFlag_balance s _).trans (quiet_balance _ _)
  simp only [halt]
  exact .trans (.ite (fun _ => halted.trans (runningLeft_balance _)) fun _ => halted) (marksStop_balance _)

theorem enterRunning_balance (n : Nat) : BalanceKept s (enterRunning n s) :=
  (((marksStart_balance s).trans (setSeq_balance _ _)).trans (releaseAll_balance _)).trans (pass_balance _)

theorem enterStep_balance : BalanceKept s (enterStep s) := (marksStart_balance s).trans (setSeq_balance _ _)

theorem enterStopping_balance : BalanceKept s (enterStopping s) :=
  ((setSeq_balance s _).trans (runningLeft_balance _)).trans (setWork_balance _ _)

/-! ## Line current -/

theorem valvesPowerOff_balance : BalanceKept s (valvesPowerOff s) :=
  (setBeacon_balance s none).trans (.foldl (fun t v => settleClosed_balance t v) _ _)

theorem beaconExpires_balance : BalanceKept s (beaconExpires s) :=
  (setBeacon_balance s none).trans ((BalanceKept.foldl (fun t v => withdraw_balance t v) _ _).trans
    (.foldl (fun t v => settleClosed_balance t v) _ _))

theorem queuePowerOff_balance : BalanceKept s (queuePowerOff s) :=
  .of_eq (queuePowerOff_field s).beds <| by
    simp only [queuePowerOff]
    obtain ⟨order, n, -, h⟩ := passesDown_eq s.lcq.fifo
      (setFifo [] (s.setQueue { s.lcq with closes := Vector.replicate 32 none, clearOwed := false, withdrawOwed := false }))
    rw [h, State.setSeq_bedLive]
    exact setFifo_bedLive _ []

theorem cutPower_balance (q : SeqState) (m : CurrentMonitor) : BalanceKept s (cutPower q m s) := by
  have cut : BalanceKept s (quiet q { s with lpwr := false, mon := m }) := .of_eq rfl rfl
  simp only [cutPower]
  exact (((BalanceKept.ite (fun _ => cut.trans (runningLeft_balance _)) fun _ => cut).trans (queuePowerOff_balance _)).trans
    (valvesPowerOff_balance _)).trans (nodesPowerOff_balance _)

theorem trip_balance : BalanceKept s (trip s) := by
  simp only [trip]
  refine .ite (fun _ => ?_) fun _ => ?_
  · exact ((setFlag_balance s _).trans (setFlag_balance _ _)).trans (cutPower_balance _ _ _)
  · exact ((setFlag_balance s _).trans (setSeq_balance _ _)).trans (cutPower_balance _ _ _)

theorem powerOn_balance : BalanceKept s (powerOn s) := .of_eq rfl rfl

theorem backoffEnds_balance : BalanceKept s (backoffEnds s) := by
  simp only [backoffEnds]
  split
  · exact (powerOn_balance s).trans (enterRunning_balance _ _)
  all_goals exact (powerOn_balance s).trans (quiet_balance _ _)

theorem restoreLine_balance : BalanceKept s (restoreLine s) := .of_eq rfl rfl
theorem judgeMeasure_balance : BalanceKept s (judgeMeasure s) := .of_eq rfl rfl

/-! ## Echo, cycle, transactions -/

theorem echoGood_balance : BalanceKept s (echoGood s) := setSeq_balance s _

theorem settleMark_balance : BalanceKept s (settleMark s) := by
  unfold settleMark
  exact .ite (fun _ => (setSeq_balance s _).trans (echoGood_balance _)) fun _ => .refl s

theorem dropPass_balance : BalanceKept s (dropPass s) :=
  .of_eq (dropPass_frame s).beds <| by rw [dropPass_eq, setFifo_bedLive]

theorem offerPassReply_balance (f : HubFrame) : BalanceKept s (offerPassReply f s) := by
  rw [offerPassReply_eq]
  exact setHub_balance s _

theorem abandonTx_balance : BalanceKept s (abandonTx s) := by
  have idle : BalanceKept s (s.setSeq { s.seq with tx := .idle }) := setSeq_balance s _
  simp only [abandonTx]
  split
  · exact (idle.trans (dropPass_balance _)).trans (offerPassReply_balance _ _)
  all_goals exact idle

theorem countMismatch_balance : BalanceKept s (countMismatch s) := by
  have counted : BalanceKept s (s.setSeq { s.seq with echoFailures := min 3 (s.seq.echoFailures + 1) }) := setSeq_balance s _
  simp only [countMismatch]
  exact .ite (fun _ => counted.trans (halt_balance _)) fun _ => counted

theorem clearAttempted_balance : BalanceKept s (clearAttempted s) := by
  obtain ⟨l, h⟩ := clearAttempted_eq s
  rw [h]
  exact setQueue_balance s l

theorem openCycle_balance : BalanceKept s (openCycle s) := setSeq_balance s _

theorem beginPolls_balance : BalanceKept s (beginPolls s) := by
  simp only [beginPolls]
  split <;> exact .of_eq rfl rfl

theorem beginPollSlot_balance (n : Fin 48) (rest : List (Fin 48)) : BalanceKept s (beginPollSlot n rest s) := setSeq_balance s _

theorem beginCommandSlot_balance : BalanceKept s (beginCommandSlot s) := by
  have sent (t : State) (i : Nat) : BalanceKept t (sendPass i t) := by
    unfold sendPass
    split
    · exact .of_eq rfl rfl
    · exact .refl t
  have begun := setSeq_balance s
    { s.seq with phase := .commands, position := s.seq.nextSlot, nextSlot := s.seq.nextSlot + 160 }
  simp only [beginCommandSlot]
  split
  · exact begun.trans (setSeq_balance _ _)
  · exact begun.trans (setSeq_balance _ _)
  · exact begun.trans (sent _ _)
  · exact begun

theorem commandEnds_balance (v : Fin 32) (k : CommandKind) (d a : Bool) : BalanceKept s (commandEnds v k d a s) := by
  have left (t : State) : BalanceKept t (commandLeaves v k t) := by
    refine .of_eq (commandLeaves_frame t v k).beds ?_
    cases k
    · exact setFifo_bedLive _ _
    · rfl
  have stayed (t : State) : BalanceKept t (commandStays v k t) := by
    refine .of_eq (commandStays_frame t v k).beds ?_
    cases k
    · rfl
    · simp only [commandStays]
      split <;> rfl
  have idle : BalanceKept s (echoGood (s.setSeq { s.seq with tx := .idle })) := (setSeq_balance s _).trans (echoGood_balance _)
  simp only [commandEnds]
  exact .ite (fun _ => idle) fun _ => (idle.trans (.ite (fun _ => left _) fun _ => stayed _)).trans (valveOutcome_balance _ v k a)

theorem passEnds_balance (a : Byte) (x : Option (List Byte)) : BalanceKept s (passEnds a x s) := by
  rw [passEnds_eq]
  exact ((setSeq_balance s _).trans (dropPass_balance _)).trans (offerPassReply_balance _ _)

/-! ## Bed records and swaps -/

/-- One bed's entry is written with its live balance. -/
theorem setBed_balance {t : State} (b : Fin 24) (e : Entry BedRec) (l : Option BedLive)
    (beds : t.beds = s.beds.set b e) (live : t.bedLive = s.bedLive.set b l)
    (h : BalancesSound s → (e.active.bounded ∧ (∀ r, e.pending = some r → r.bounded) ∧ (l.isSome = true → e.active.used = true)) ∧
      ∀ x, l = some x → x.sound) : BalanceKept s t := by
  refine ⟨fun k => ⟨fun c x hx => ?_, fun c => ?_⟩⟩
  · rw [live] at hx
    by_cases hc : c = b
    · subst hc
      exact (h k).2 x (by simpa using hx)
    · rw [getElem_set_other _ hc] at hx
      exact k.1 c x hx
  · rw [beds, live]
    by_cases hc : c = b
    · subst hc
      simpa using (h k).1
    · rw [getElem_set_other _ hc, getElem_set_other _ hc]
      exact k.2 c

/-- An operation on a bed's entry that keeps its active copy and takes no new pending record. -/
theorem setBedEntry_balance (b : Fin 24) (e : Entry BedRec) (active : e.active = s.beds[b].active)
    (pending : BalancesSound s → ∀ r, e.pending = some r → r.bounded) : BalanceKept s { s with beds := s.beds.set b e } := by
  refine setBed_balance s b e s.bedLive[b] rfl (by simp) fun k => ⟨⟨?_, pending k, ?_⟩, fun x hx => k.1 b x hx⟩
  · rw [active]
    exact (k.2 b).1
  · rw [active]
    exact (k.2 b).2.2

/-- An operation of a table's entries that takes no new record. -/
theorem onSlot_balance (f : EntryOp) (x : Slot) (active : ∀ e : Entry BedRec, (f.run e).active = e.active)
    (pending : ∀ e : Entry BedRec, (f.run e).pending = e.pending ∨ (f.run e).pending = none) : BalanceKept s (onSlot f x s) := by
  cases x with
  | bed b =>
    refine setBedEntry_balance s b _ (active _) fun k r hr => ?_
    rcases pending s.beds[b] with h | h
    · rw [h] at hr
      exact (k.2 b).2.1 r hr
    · rw [h] at hr
      cases hr
  | _ => exact .of_eq rfl rfl

theorem markDue_balance (x : Slot) : BalanceKept s (markDue x s) := onSlot_balance s _ x (fun _ => rfl) fun _ => .inl rfl
theorem discardSlot_balance (x : Slot) : BalanceKept s (discardSlot x s) := onSlot_balance s _ x (fun _ => rfl) fun _ => .inr rfl

/-- A record that is not a bed's becomes active. -/
theorem swapEntry_balance (x : Slot) (h : ∀ b, x ≠ .bed b) : BalanceKept s (onSlot ⟨Entry.swap⟩ x s) := by
  cases x with
  | bed b => exact absurd rfl (h b)
  | _ => exact .of_eq rfl rfl

/-- A bed's balance after its swap is in range, and only a used bed has one (05 R87 to R89). -/
theorem BedLive.afterSwap_sound {old new : BedRec} {now : Nat} {l : Option BedLive} (h : ∀ x, l = some x → x.sound) :
    ((BedLive.afterSwap old new now l).isSome = true → new.used = true) ∧
      ∀ x, BedLive.afterSwap old new now l = some x → x.sound := by
  unfold BedLive.afterSwap
  split
  · exact ⟨nofun, nofun⟩
  next hu =>
    have used : new.used = true := by simpa using hu
    split
    next b _ =>
      refine ⟨fun _ => used, fun x hx => ?_⟩
      cases hx
      exact h b rfl
    · refine ⟨fun _ => used, fun x hx => ?_⟩
      cases hx
      exact ⟨Nat.zero_le _, Nat.zero_le _⟩

theorem bedSwapped_balance (b : Fin 24) (old : BedRec) : BalanceKept s (bedSwapped b old (s.beds[b].pending.getD s.beds[b].active) s) := by
  have accrued := accrue_balance s b
  have same : (accrue b s).beds = s.beds := (accrue_frame s b).beds
  refine .trans (accrued.trans (setBed_balance _ b (s.beds[b].swap) (BedLive.afterSwap old
    (s.beds[b].pending.getD s.beds[b].active) s.partTime (accrue b s).bedLive[b]) ?_ rfl ?_)) (demandCheck_balance _ b)
  · simp only [activate, onSlot, State.setBedLive_beds, same]
  · intro k
    obtain ⟨active, pending, -⟩ := k.2 b
    rw [same] at active pending
    obtain ⟨used, live⟩ := BedLive.afterSwap_sound (old := old) (new := s.beds[b].pending.getD s.beds[b].active)
      (now := s.partTime) (k.1 b)
    refine ⟨⟨?_, nofun, used⟩, live⟩
    show (s.beds[b].pending.getD s.beds[b].active).bounded
    cases hp : s.beds[b].pending with
    | none => exact active
    | some r => exact pending r hp

theorem lineSwapped_balance : BalanceKept s (lineSwapped s) := by
  simp only [lineSwapped]
  exact .ite (fun _ => .of_eq rfl rfl) fun _ => judgeMeasure_balance s

theorem setMonitor_balance (m : SupplyMonitor) : BalanceKept s (s.setMonitor m) := .of_eq rfl rfl

theorem swapEffects_balance (x : Slot) : BalanceKept s (swapEffects x s) := by
  cases x with
  | bed b =>
    have new : (activate (.bed b) s).beds[b].active = s.beds[b].pending.getD s.beds[b].active := by
      simp [activate, onSlot, Entry.swap]
    simp only [swapEffects, new]
    exact bedSwapped_balance s b _
  | node n => exact (swapEntry_balance s (.node n) nofun).trans (nodeSwapped_balance _ n _ _)
  | poll p => exact swapEntry_balance s (.poll p) nofun
  | valve v => exact (swapEntry_balance s (.valve v) nofun).trans (valveSwapped_balance _ v _ _)
  | supply =>
    exact (swapEntry_balance s .supply nofun).trans
      (((setMonitor_balance _ _).trans (setCondition_balance _ _ _)).trans (pass_balance _))
  | line => exact (swapEntry_balance s .line nofun).trans (lineSwapped_balance _)
  | weather => exact (swapEntry_balance s .weather nofun).trans (weatherRecSwapped_balance _ _ _)
  | drying => exact (swapEntry_balance s .drying nofun).trans (recomputeRate_balance _)
  | lock i => exact (swapEntry_balance s (.lock i) nofun).trans ((setLocks_balance _ _).trans (recomputeLock_balance _))

theorem swapSlot_balance (x : Slot) : BalanceKept s (swapSlot x s) := by
  simp only [swapSlot]
  exact .ite (fun _ => (swapEffects_balance s x).trans (setFlag_balance _ _)) fun _ => swapEffects_balance s x

theorem sweepTurn_balance : BalanceKept s (sweepTurn s) := by
  unfold sweepTurn
  split
  · exact swapSlot_balance s _
  · exact setWork_balance s _

theorem settleTurns_balance (n : Nat) : BalanceKept s (settleTurns n s) := by
  induction n generalizing s with
  | zero => exact .refl s
  | succ n ih =>
    have granted (w : Work) : BalanceKept s (settleTurns n (pass (s.setWork w))) :=
      ((setWork_balance s w).trans (pass_balance _)).trans (ih _)
    unfold settleTurns
    refine .ite (fun _ => (examineStop_balance s).trans (ih _)) fun _ => .ite (fun _ => granted _) fun _ =>
      .ite (fun _ => (sweepTurn_balance s).trans (ih _)) fun _ => .ite (fun _ => granted _) fun _ => .refl s

theorem settle_balance : BalanceKept s (settle s) := (settleTurns_balance s 1024).trans (.of_eq rfl rfl)

theorem firstSweep_balance (n : Nat) : BalanceKept s (firstSweep n s) := by
  induction n generalizing s with
  | zero => exact .refl s
  | succ n ih =>
    unfold firstSweep
    split
    · exact (swapSlot_balance s _).trans (ih _)
    · exact .refl s

end

end Sys2Proof.Machine
end

section
/-! PROOF. Balances in their range: the Port's rules and every command keep it. -/

namespace Sys2Proof.Machine

section
variable (s : State)

/-! ## The port -/

theorem arbitrate_balance : BalanceKept s (arbitrate s) := .of_eq (by rw [arbitrate_eq]) (arbitrate_granted s).bedLive

theorem completed_balance {s t : State} (h : BalanceKept s t) : BalanceKept s (complete t) :=
  (h.trans (settle_balance t)).trans (arbitrate_balance _)

theorem takeRequest_balance (kind : Byte) (lengths : Nat → Bool) (rule : List Byte → State → Ruling) (body : List Byte)
    (h : ∀ t, BalanceKept t (rule body t).state) : BalanceKept s (takeRequest kind lengths rule body s) := by
  have head (f : HubFrame) : BalanceKept s (atHead f s) := by
    unfold atHead
    exact .ite (fun _ => setHub_balance s _) fun _ => .refl s
  have answer (t : State) (r : Ruling) (k : BalanceKept t r.state) : BalanceKept t (answerRuling kind r) :=
    ((k.trans (settle_balance _)).trans (setHub_balance _ _)).trans (arbitrate_balance _)
  simp only [takeRequest]
  refine .ite (fun _ => (head { kind := kind, body := body }).trans (answer (atHead { kind := kind, body := body } s) _ ?_)) fun _ => .refl s
  split
  · exact h _
  · exact .refl _

theorem framerByte_balance (b : Byte) : BalanceKept s (framerByte b s) := by
  have taken (t : State) (f : HubFrame) : BalanceKept t (intake f t) := by
    unfold intake
    exact .ite (fun _ => .refl t) fun _ => .ite (fun _ => setFlag_balance t _) fun _ => setHub_balance t _
  unfold framerByte
  split
  · exact .ite (fun _ => setHub_balance s _) fun _ => .refl s
  · exact .ite (fun _ => setHub_balance s _) fun _ => setHub_balance s _
  · simp only [checkFrame]
    exact .ite (fun _ => (setHub_balance s _).trans (.ite (fun _ => taken _ _) fun _ => .refl _)) fun _ => setHub_balance s _

/-- The two laws hold at a reset (05 R68, R70). -/
theorem blocksReset_balance (now : Nat) (micros : Micros) (clock : Clock) : BalanceKept s (blocksReset now micros clock s) :=
  ⟨fun _ => ⟨fun b l h => by simp [blocksReset, judgeMeasure, State.reset] at h, fun b =>
    by simp [blocksReset, judgeMeasure, State.reset, Entry.atReset, BedRec.reset, BedRec.bounded]⟩⟩

/-! ## The rules of the requests -/

theorem seqRunRule_balance (body : List Byte) : BalanceKept s (seqRunRule body s).state := by
  unfold seqRunRule
  split
  iterate 2 exact enterRunning_balance s 0
  iterate 3 exact .refl s
  · exact setSeq_balance s _
  · exact .refl s

theorem seqStopRule_balance (body : List Byte) : BalanceKept s (seqStopRule body s).state := by
  unfold seqStopRule
  split
  · exact enterStopping_balance s
  iterate 3 exact .refl s
  · exact quiet_balance s _
  · exact setSeq_balance s _
  · exact .refl s

theorem seqStepRule_balance (body : List Byte) : BalanceKept s (seqStepRule body s).state := by
  unfold seqStepRule
  split
  · exact enterStep_balance s
  all_goals exact .refl s

theorem lineRestoreRule_balance (body : List Byte) : BalanceKept s (lineRestoreRule body s).state := by
  unfold lineRestoreRule
  split
  · exact restoreLine_balance s
  all_goals exact .refl s

theorem passRule_balance (body : List Byte) : BalanceKept s (passRule body s).state := by
  simp only [passRule]
  split
  · exact .refl s
  · split
    · exact .refl s
    · split
      · exact .refl s
      · exact .of_eq (setFifo_frame s _).beds (setFifo_bedLive s _)

theorem setClock_balance (k : Clock) : BalanceKept s { s with clock := k } := .of_eq rfl rfl

theorem windowCloses_balance (b : Fin 24) : BalanceKept s (windowCloses b s) := by
  unfold windowCloses
  split
  · exact .refl s
  · exact .ite (fun _ => .refl s) fun _ => .ite (fun _ => putRun_balance s _) fun _ => dropRun_balance s b

theorem timeSetRule_balance (body : List Byte) : BalanceKept s (timeSetRule body s).state := by
  unfold timeSetRule
  split
  · exact .refl s
  · exact ((setClock_balance s _).trans (forBeds_balance _ _ fun b t => windowCloses_balance t b)).trans
      (demandAll_balance _)

theorem runStartRule_balance (body : List Byte) : BalanceKept s (runStartRule body s).state := by
  simp only [runStartRule]
  split
  · exact .refl s
  · iterate 4
      split
      · exact .refl s
    split
    · exact .refl s
    · iterate 2
        split
        · exact .refl s
      split
      · split
        · exact accrue_balance s _
        · exact (accrue_balance s _).trans (createRun_balance _ _)
      · exact createRun_balance s _

theorem runStopRule_balance (body : List Byte) : BalanceKept s (runStopRule body s).state := by
  unfold runStopRule
  split
  · exact .refl s
  · split
    · exact .refl s
    · exact removeRun_balance s _

theorem runAdjustRule_balance (body : List Byte) : BalanceKept s (runAdjustRule body s).state := by
  unfold runAdjustRule
  split
  · exact .refl s
  · split
    · exact .refl s
    · split
      · exact .refl s
      · exact putRun_balance s _

theorem bedStateRule_balance (body : List Byte) : BalanceKept s (bedStateRule body s).state := by
  unfold bedStateRule
  split
  · exact .refl s
  · split
    · exact .refl s
    · exact accrue_balance s _

theorem valveModeRule_balance (body : List Byte) : BalanceKept s (valveModeRule body s).state := by
  unfold valveModeRule
  split
  · exact .refl s
  · split
    · exact .refl s
    · iterate 2
        split
        · exact .refl s
      exact setValveMode_balance s _ _

theorem clearFlags_balance (x : BitVec 32) : BalanceKept s (clearFlags x s) := .of_eq rfl rfl

theorem clearChanges_balance : BalanceKept s (clearChanges s) := .of_eq (by simp only [clearChanges]) (by simp only [clearChanges])
theorem clearLatches_balance : BalanceKept s (clearLatches s) := .of_eq (by simp only [clearLatches]) (by simp only [clearLatches])

theorem flagsClearRule_balance (body : List Byte) : BalanceKept s (flagsClearRule body s).state := by
  have flags := clearFlags_balance s (flagSet body)
  have unchanged : BalanceKept s
      (if namesFlag (flagSet body) .nodeChange then clearChanges (clearFlags (flagSet body) s) else clearFlags (flagSet body) s) :=
    .ite (fun _ => flags.trans (clearChanges_balance _)) fun _ => flags
  have unlatched {t : State} (h : BalanceKept s t) :
      BalanceKept s (if namesFlag (flagSet body) .valveFault then clearLatches t else t) :=
    .ite (fun _ => h.trans (clearLatches_balance t)) fun _ => h
  simp only [flagsClearRule]
  split
  · exact .refl s
  · exact .ite (fun _ => (unlatched unchanged).trans (setCondition_balance _ _ _)) fun _ => unlatched unchanged

theorem resetPartRule_balance (body : List Byte) : BalanceKept s (resetPartRule body s).state := by
  unfold resetPartRule
  split
  iterate 3 exact setHub_balance s _
  all_goals exact .refl s

/-- LOAD takes a bed record only within the ranges of 10 R166. -/
theorem loadRule_balance (body : List Byte) : BalanceKept s (loadRule body s).state := by
  have loaded {t : State} (x : Slot) (bs : List Byte) (h : loadRecord x bs s = some t) : BalanceKept s t := by
    cases x with
    | bed b =>
      obtain ⟨r, hr, rfl⟩ := Option.map_eq_some_iff.1 h
      refine setBedEntry_balance s b _ rfl fun _ q hq => ?_
      cases hq
      exact BedRec.bounded_of_parse hr
    | _ =>
      obtain ⟨r, -, rfl⟩ := Option.map_eq_some_iff.1 h
      exact .of_eq rfl rfl
  unfold loadRule
  split
  · exact .refl s
  · split
    · exact .refl s
    · split
      · exact .refl s
      · split
        · exact .refl s
        next h =>
          split
          · exact .refl s
          · exact loaded _ _ h

theorem updateRule_balance (body : List Byte) : BalanceKept s (updateRule body s).state := by
  simp only [updateRule]
  split
  · exact .refl s
  · split
    · exact .refl s
    · split
      · exact .refl s
      · split
        · exact .refl s
        · exact ((BalanceKept.foldl (fun t x => markDue_balance t x) _ s).trans (setWork_balance _ _)).trans
            (firstSweep_balance _ 145)

theorem discardRule_balance (body : List Byte) : BalanceKept s (discardRule body s).state := by
  unfold discardRule
  split
  · exact .refl s
  · exact .foldl (fun t x => discardSlot_balance t x) _ s

/-! ## The events -/

theorem advance_balance (m : Micros) : BalanceKept s (advance m s) := .of_eq rfl rfl

theorem judgeEdge_balance (x : InputId) : BalanceKept s (judgeEdge x s) := by
  simp only [judgeEdge]
  exact .ite (fun _ => setMonitor_balance s _) fun _ => setMonitor_balance s _

theorem judgeWindow_balance (w : WindowResult) : BalanceKept s (judgeWindow w s) := by
  have flagged (b : Bool) (f : Flag) {t : State} (h : BalanceKept s t) : BalanceKept s (if b then setFlag f t else t) :=
    .ite (fun _ => h.trans (setFlag_balance _ _)) fun _ => h
  simp only [judgeWindow]
  refine .ite (fun _ => .ite (fun _ => ?_) fun _ => ?_) fun _ => setMonitor_balance s _
  · exact ((flagged _ _ (flagged _ _ (setMonitor_balance s _))).trans (setFlag_balance _ _)).trans (raiseSupply_balance _)
  · exact flagged _ _ (flagged _ _ (setMonitor_balance s _))

theorem windowTransition_balance (old : Nat) (b : Fin 24) : BalanceKept s (windowTransition old b s) := by
  unfold windowTransition
  exact .ite (fun _ => demandCheck_balance s b) fun _ => .ite (fun _ => windowCloses_balance s b) fun _ => .refl s

/-- Every command keeps the balances in their range. -/
theorem exec_balance (c : Instr) (t : State) (h : exec c s = .next t) : BalanceKept s t := by
  cases c <;> simp only [exec] at h <;> cases h
  case powerOnReset => exact (blocksReset_balance s _ _ _).trans (arbitrate_balance _)
  case receiveFrame b => exact .ite (fun _ => completed_balance (framerByte_balance s b)) fun _ => .refl s
  case frameGapTimeout =>
    split
    · exact .refl s
    · exact setHub_balance s _
  case breakBegin => exact .ite (fun _ => .refl s) fun _ => setHub_balance s _
  case breakEnd => exact .ite (fun _ => (setHub_balance s _).trans (arbitrate_balance _)) fun _ => .refl s
  case load body => exact takeRequest_balance s _ _ _ _ fun t => loadRule_balance t body
  case read body => exact takeRequest_balance s _ _ _ _ fun t => by rw [readRule_state]; exact .refl t
  case update body => exact takeRequest_balance s _ _ _ _ fun t => updateRule_balance t body
  case discard body => exact takeRequest_balance s _ _ _ _ fun t => discardRule_balance t body
  case seqRun body => exact takeRequest_balance s _ _ _ _ fun t => seqRunRule_balance t body
  case seqStop body => exact takeRequest_balance s _ _ _ _ fun t => seqStopRule_balance t body
  case seqStep body => exact takeRequest_balance s _ _ _ _ fun t => seqStepRule_balance t body
  case lineRestore body => exact takeRequest_balance s _ _ _ _ fun t => lineRestoreRule_balance t body
  case timeSet body => exact takeRequest_balance s _ _ _ _ fun t => timeSetRule_balance t body
  case timeRead body => exact takeRequest_balance s _ _ _ _ fun t => .refl t
  case runStart body => exact takeRequest_balance s _ _ _ _ fun t => runStartRule_balance t body
  case runStop body => exact takeRequest_balance s _ _ _ _ fun t => runStopRule_balance t body
  case runStopAll body =>
    exact takeRequest_balance s _ _ _ _ fun t => BalanceKept.foldl (fun u b => removeRun_balance u b) _ t
  case runAdjust body => exact takeRequest_balance s _ _ _ _ fun t => runAdjustRule_balance t body
  case runList body => exact takeRequest_balance s _ _ _ _ fun t => by rw [runListRule_state]; exact .refl t
  case bedState body => exact takeRequest_balance s _ _ _ _ fun t => bedStateRule_balance t body
  case valveMode body => exact takeRequest_balance s _ _ _ _ fun t => valveModeRule_balance t body
  case lockSet body => exact takeRequest_balance s _ _ _ _ fun t => setCondition_balance t .hub true
  case lockClear body => exact takeRequest_balance s _ _ _ _ fun t => setCondition_balance t .hub false
  case status body => exact takeRequest_balance s _ _ _ _ fun t => .refl t
  case flagsClear body => exact takeRequest_balance s _ _ _ _ fun t => flagsClearRule_balance t body
  case noticeMask body =>
    refine takeRequest_balance s _ _ _ _ fun t => ?_
    unfold noticeMaskRule
    split
    · exact .refl t
    · exact .of_eq rfl rfl
  case pass body =>
    refine .ite (fun _ => .ite (fun _ => ?_) fun _ => .refl s) fun _ => takeRequest_balance s _ _ _ _ fun t => passRule_balance t body
    unfold atHead
    exact .ite (fun _ => setHub_balance s _) fun _ => .refl s
  case resetPart body => exact takeRequest_balance s _ _ _ _ fun t => resetPartRule_balance t body
  case unknownKind kind body => exact .ite (fun _ => takeRequest_balance s _ _ _ _ fun t => .refl t) fun _ => .refl s
  case answerEnd =>
    split
    · refine .trans ?_ (arbitrate_balance _)
      exact .ite (fun _ => (setHub_balance s _).trans (blocksReset_balance _ _ _ _)) fun _ => setHub_balance s _
    all_goals exact .refl s
  case upstreamFrameEnd =>
    split
    iterate 2 exact (setHub_balance s _).trans (arbitrate_balance _)
    all_goals exact .refl s
  case cycleMark =>
    refine .ite (fun _ => completed_balance ?_) fun _ => .refl s
    have swept : BalanceKept s (sweepAtMark (settleMark s)) :=
      ((settleMark_balance s).trans (setWork_balance _ _)).trans (settle_balance _)
    exact .ite (fun _ => (swept.trans (clearAttempted_balance _)).trans (openCycle_balance _)) fun _ => swept
  case pollPartStart =>
    exact .ite (fun _ => completed_balance ((settleMark_balance s).trans (beginPolls_balance _))) fun _ => .refl s
  case pollSlotStart =>
    refine .ite (fun _ => ?_) fun _ => .refl s
    split
    · exact .refl s
    · exact completed_balance (beginPollSlot_balance s _ _)
  case commandSlotStart => exact .ite (fun _ => completed_balance (beginCommandSlot_balance s)) fun _ => .refl s
  case pollOutcome r =>
    split
    · exact completed_balance ((((setSeq_balance s { s.seq with tx := .idle }).trans (echoGood_balance _)).trans
        (pollDelivered_balance _ _ _ _)).trans (payClearing_balance _ _))
    all_goals exact .refl s
  case commandOutcome r =>
    split
    · exact completed_balance ((commandEnds_balance s _ _ _ _).trans (payClearing_balance _ _))
    all_goals exact .refl s
  case passOutcome r =>
    split
    · exact completed_balance ((passEnds_balance s _ _).trans (payClearing_balance _ _))
    all_goals exact .refl s
  case echoMismatch =>
    exact .ite (fun _ => .refl s) fun _ =>
      completed_balance (((abandonTx_balance s).trans (countMismatch_balance _)).trans (payClearing_balance _ _))
  case stepEnd =>
    exact .ite (fun h => completed_balance (enterStopped_balance s)) fun _ => .refl s
  case overcurrent => exact .ite (fun _ => completed_balance (trip_balance s)) fun _ => .refl s
  case backoffExpiry => exact .ite (fun _ => completed_balance (backoffEnds_balance s)) fun _ => .refl s
  case beaconSilenceExpiry => exact .ite (fun _ => completed_balance (beaconExpires_balance s)) fun _ => .refl s
  case pulseExpiry b =>
    exact .ite (fun _ => completed_balance (pulseExpires_balance s b)) fun _ => .refl s
  case soakExpiry b =>
    exact .ite (fun _ => completed_balance (soakExpires_balance s b)) fun _ => .refl s
  case evaluationExpiry b =>
    exact .ite (fun _ => completed_balance
      ((evaluate_balance s b).trans (demandCheck_balance _ b))) fun _ => .refl s
  case weatherStalenessExpiry =>
    exact .ite (fun _ => completed_balance ((setFlag_balance s _).trans (setWeather_balance _ _))) fun _ => .refl s
  case rainHoldExpiry =>
    exact .ite (fun _ => completed_balance ((setLocks_balance s _).trans (setCondition_balance _ _ _))) fun _ => .refl s
  case inputLevelChange a l =>
    exact .ite (fun _ => advance_balance s _) fun _ => (advance_balance s _).trans (setMonitor_balance _ _)
  case rainTip a =>
    exact .ite (fun _ => completed_balance (((advance_balance s _).trans (setMonitor_balance _ _)).trans
      (localTip_balance _))) fun _ => advance_balance s _
  case contactStable a =>
    exact .ite (fun _ => completed_balance (((advance_balance s _).trans (setMonitor_balance _ _)).trans
      (setCondition_balance _ _ _))) fun _ => advance_balance s _
  case flowEdge a =>
    refine .ite (fun _ => ?_) fun _ => advance_balance s _
    split
    · exact ((advance_balance s _).trans (setMonitor_balance _ _)).trans (judgeEdge_balance _ _)
    · exact .ite (fun _ => (advance_balance s _).trans (judgeEdge_balance _ _)) fun _ => advance_balance s _
  case flowWindowEnd =>
    split
    · exact .ite (fun _ => completed_balance ((judgeWindow_balance s _).trans (setMonitor_balance _ _))) fun _ => .refl s
    · exact .refl s
  case minuteTransition =>
    exact .ite (fun _ => completed_balance ((setClock_balance s _).trans
      (forBeds_balance _ _ fun b t => windowTransition_balance t _ b))) fun _ => .refl s
  case hubByteReceived b e =>
    exact .ite (fun _ => .refl s) fun _ => .ite (fun _ => setHub_balance s _) fun _ => completed_balance (framerByte_balance s b)
  case sensedCurrentChange ma => exact .of_eq rfl rfl

theorem idle_balance : BalanceKept s (idle s) := by
  have ticked (t : State) : BalanceKept t (tick t) := by
    simp only [tick]
    exact .ite (fun _ => .ite (fun _ => .of_eq rfl rfl) fun _ => .of_eq rfl rfl) fun _ => .of_eq rfl rfl
  have raised (t : State) (cs : List Instr) : BalanceKept t { t with pending := cs } := .of_eq rfl rfl
  simp only [idle]
  split
  · exact (arbitrate_balance s).trans (ticked _)
  · exact (arbitrate_balance s).trans (raised _ _)

theorem step_balance {s t : State} (h : step s = .next t) : BalanceKept s t := by
  unfold step at h
  split at h
  · cases h; exact idle_balance s
  next c rest _ =>
    have taken : BalanceKept s { s with pending := rest } := .of_eq rfl rfl
    exact taken.trans (exec_balance _ c t h)

end

/-- Settles O55: each operation keeps the balances and the bed records in their ranges, so every command and every step does. -/
theorem stepKeepsBalancesInRange : Obligations.StepKeepsBalancesInRange := by
  intro s t hb hr h
  exact (step_balance h).kept ⟨hb, hr⟩

end Sys2Proof.Machine
end

section
/-! PROOF. A demand check asks for a run exactly under its conditions. -/

namespace Sys2Proof.Machine

/-- A bed that does not ask is left alone (05 R83). -/
theorem demandCheck_of_not_asks {s : State} {b : Fin 24} (h : ∀ l, s.bedLive[b] = some l → ¬ Asks s b l) : demandCheck b s = s := by
  unfold demandCheck
  cases hv : demandValve s b with
  | none => rfl
  | some v =>
    obtain ⟨-, l, hl, ha⟩ := (demandValve_eq_some s b v).1 hv
    exact absurd ha (h l hl)

/-- Settles O34: `demandValve` is the conjunction of 05 R83, and a check that finds it asks for the run of 05 R84. -/
theorem demandCheckAsksForARun : Obligations.DemandCheckAsksForARun := by
  intro b s
  refine ⟨fun hn => demandCheck_of_not_asks fun l hl => ?_,
    fun l hl => ⟨fun ha => demandCheck_of_not_asks fun k hk => ?_, fun ha => ?_⟩⟩
  · rw [hn] at hl
    cases hl
  · rw [hl] at hk
    cases hk
    exact ha
  · obtain ⟨added, hadded, hnodup, hmem⟩ := demandCheck_added s b
    refine hadded.demandsMade hnodup fun c => (hmem c).trans ?_
    constructor
    · rintro ⟨k, hk, e, -⟩
      exact ⟨k, hk, e⟩
    · rintro ⟨k, hk, rfl⟩
      rw [hl] at hk
      cases hk
      exact ⟨l, hl, rfl, ha⟩

end Sys2Proof.Machine
end

section
/-! SUPPORT. What grant passes and the end of a step spare: every run that is neither QUEUED nor HELD, a HELD one too where no two runs
share a valve, and every valve that is not CLOSED or that no run of the queue waters with (06 R98, R99, R105). -/

namespace Sys2Proof.Machine

/-- No two beds with a run have the same valve (10 R170, 06 R93). -/
def OwnValves (s : State) : Prop :=
  ∀ b ∈ runBeds s, ∀ c ∈ runBeds s, ∀ v, valveOf s b = some v → valveOf s c = some v → b = c

theorem OwnValves.congr {s t : State} (h : OwnValves s) (beds : ∀ b ∈ runBeds t, b ∈ runBeds s) (recs : t.beds = s.beds) : OwnValves t := by
  intro b hb c hc v
  unfold valveOf
  rw [recs]
  exact h b (beds b hb) c (beds c hc) v

/-- Between `s` and `t` grants and the release checks of the granted valves have acted: they spare the runs that neither wait for a
grant nor are HELD by a shared valve, and the valves that are not CLOSED or that no run's bed names. -/
structure Spared (s t : State) : Prop where
  granted : Granted s t
  bedRecs : t.beds = s.beds
  run : ∀ b r, findRun s b = some r → r.state ≠ .queued → (r.state = .held → OwnValves s) → findRun t b = some r
  valve : ∀ v : Fin 32, s.valveLive[v].state ≠ .closed ∨ (∀ b ∈ runBeds s, valveOf s b ≠ some v) → SameValve v s t

namespace Spared
variable {s t u : State}

theorem trans (h : Spared s t) (k : Spared t u) : Spared s u where
  granted := h.granted.trans k.granted
  bedRecs := k.bedRecs.trans h.bedRecs
  run b r hr hq hh := k.run b r (h.run b r hr hq hh) hq fun e =>
    (hh e).congr (fun c hc => by rwa [← h.granted.beds]) h.bedRecs
  valve v hv := by
    have same := h.valve v hv
    refine same.trans (k.valve v ?_)
    rw [same.live, h.granted.beds]
    simpa only [valveOf, h.bedRecs] using hv

theorem of_eq (g : Granted s t) (beds : t.beds = s.beds) (runs : t.runs = s.runs) (live : t.valveLive = s.valveLive)
    (lcq : t.lcq = s.lcq) : Spared s t :=
  ⟨g, beds, fun b r hr _ _ => by rwa [findRun_congr runs], fun _ _ => .of_eq live lcq⟩

theorem refl (s : State) : Spared s s := of_eq (.refl s) rfl rfl rfl rfl

end Spared

section
variable (s : State)

/-! ## One grant -/

theorem writeValve_lcq (v : Fin 32) (l : ValveLive) : (writeValve v l s).lcq = s.lcq := by
  have released (b : Fin 24) (t : State) : (releaseCheck b t).lcq = t.lcq := by
    rcases releaseCheck_cases t b with e | ⟨r, f, q, -, -, -, e⟩ <;> rw [e]
    rfl
  have noted : (oweReport (if s.valveLive[v].state ≠ l.state then noteValveChange (s.setValveLive v l)
      else s.setValveLive v l)).lcq = s.lcq := by
    split <;> rfl
  simp only [writeValve]
  split
  · split
    · rw [released, noted]
    · exact noted
  · split <;> rfl

/-- Writing one valve leaves the others. -/
theorem writeValve_other {v w : Fin 32} (l : ValveLive) (h : w ≠ v) : SameValve w s (writeValve v l s) := by
  have lcq := writeValve_lcq s v l
  exact ⟨by rw [writeValve_valveLive, getElem_set_other _ h], by rw [lcq], by rw [lcq]⟩

/-- An open request touches the commands of its own valve alone. -/
theorem openRequest_other {v w : Fin 32} (h : w ≠ v) : SameValve w s (openRequest v s) := by
  have freed : (if flying s v .closeValve then detach v s else s).lcq = s.lcq := by split <;> simp
  have joins (q : LineQueue) : openMarksIn (q.fifo ++ [.openValve v .fresh]) w = openMarksIn q.fifo w :=
    openMarksIn_congr (by simp [Ne.symm h])
  have joined (t : State) (closes : t.lcq.closes[w] = s.lcq.closes[w]) (fifo : t.lcq.fifo = s.lcq.fifo)
      (live : t.valveLive = s.valveLive) : SameValve w s (appendOpen v t) := by
    refine ⟨by simp [appendOpen, live], by simpa [appendOpen] using closes, ?_⟩
    simp only [appendOpen, setFifo_lcq, LineQueue.openMarks, joins, fifo]
  simp only [openRequest]
  split
  iterate 2 exact .refl w s
  split
  · refine joined _ ?_ (by simp [freed]) (by split <;> simp)
    simp only [setClose_lcq, freed]
    exact (s.lcq.withClose_move v none (.inl rfl)).closes w h
  · exact joined _ (by rw [freed]) (by rw [freed]) (by split <;> simp)

/-- A grant leaves every other valve. -/
theorem grant_other (r : Run) {v w : Fin 32} (h : w ≠ v) : SameValve w s (grant r v s) := by
  have put : SameValve w s (putRun s { r with state := .on, skips := 0 }) := .of_eq rfl rfl
  exact (put.trans (openRequest_other _ h)).trans (writeValve_other _ _ h)

theorem grant_bedRecs (r : Run) (v : Fin 32) : (grant r v s).beds = s.beds := (grant_frame s r v).beds

/-! ## The grant pass -/

variable {s} in
/-- A run that a scan finds QUEUED is not one that is spared. -/
theorem bed_ne_of_queued {b b' : Fin 24} {r q : Run} (h : findRun s b = some r) (hr : r.state ≠ .queued)
    (hq : findRun s b' = some q) (hs : q.state = .queued) : b' ≠ b := by
  rintro rfl
  rw [h] at hq
  cases hq
  exact hr hs

variable {s} in
theorem mem_runBeds {b : Fin 24} {r : Run} (h : findRun s b = some r) : b ∈ runBeds s := by
  obtain ⟨hm, hb⟩ := findRun_mem s h
  exact hb ▸ List.mem_map_of_mem hm

variable {s} in
/-- Writing a valve changes at most the HELD run of a bed that it waters (06 R105). -/
theorem findRun_writeValve_spared {b : Fin 24} {r : Run} (v : Fin 32) (l : ValveLive) (h : findRun s b = some r)
    (hv : r.state = .held → valveOf s b ≠ some v) : findRun (writeValve v l s) b = some r := by
  by_cases hh : r.state = .held
  · rcases writeValve_runs s v l with e | ⟨c, u, hc, hu, e⟩
    · rwa [findRun_congr e]
    · have hne : c ≠ b := by
        rintro rfl
        exact hv hh hc
      rw [findRun_congr e]
      rcases releaseCheck_cases u c with e' | ⟨p, f, q, hp, -, -, e'⟩
      · rwa [e', findRun_congr hu]
      · rwa [e', findRun_putRun_other u (by rw [(findRun_mem u hp).2]; exact hne), findRun_congr hu]
  · exact findRun_writeValve s v l h hh

variable {s} in
/-- A grant spares every other run but a HELD one of the same valve. -/
theorem findRun_grant_spared {b : Fin 24} {r p : Run} {v : Fin 32} (hp : p.bed ≠ b) (h : findRun s b = some r)
    (hv : r.state = .held → valveOf s b ≠ some v) : findRun (grant p v s) b = some r := by
  have frame := (putRun_frame s { p with state := .on, skips := 0 }).trans (openRequest_frame _ v)
  refine findRun_writeValve_spared v _ ?_ fun e => ?_
  · rw [findRun_congr (openRequest_runs _ v), findRun_putRun_other s (by exact hp), h]
  · unfold valveOf
    rw [frame.beds]
    exact hv e

variable {s} in
theorem grantScan_spares_run {b : Fin 24} {r : Run} (hq : r.state ≠ .queued) (bs passed bumped : List (Fin 24)) (hp : b ∉ passed)
    (hb : b ∉ bumped) (h : findRun s b = some r) (own : r.state = .held → OwnValves s) :
    findRun (grantScan bs passed bumped s) b = some r := by
  induction bs generalizing passed bumped s with
  | nil => rw [grantScan, findRun_bumpSkips s _ hb, h]
  | cons b' bs ih =>
    simp only [grantScan]
    split
    · exact ih passed bumped hp hb h own
    next e =>
      obtain ⟨p, hp', hs⟩ := scanStep_passed s e
      exact ih _ bumped (by simp [hp, (bed_ne_of_queued h hq hp' hs).symm]) hb h own
    · rw [findRun_bumpSkips s _ hb, h]
    next p v e =>
      obtain ⟨hp', hv, hs, -⟩ := scanStep_granted s e
      have hne : b' ≠ b := bed_ne_of_queued h hq hp' hs
      refine ih [] _ (by simp) (by simp [hp, hb]) (findRun_grant_spared ?_ h fun k hbv => ?_) fun k => ?_
      · rwa [(findRun_mem s hp').2]
      · exact hne (own k b' (mem_runBeds hp') b (mem_runBeds h) v hv hbv)
      · exact (own k).congr (fun c hc => by rwa [grant_beds] at hc) (grant_frame s p v).beds

theorem grantScan_spares_valve {v : Fin 32} (bs passed bumped : List (Fin 24))
    (hv : s.valveLive[v].state ≠ .closed ∨ (∀ b ∈ runBeds s, valveOf s b ≠ some v)) :
    SameValve v s (grantScan bs passed bumped s) := by
  induction bs generalizing passed bumped s with
  | nil => exact .of_eq rfl rfl
  | cons b bs ih =>
    unfold grantScan
    split
    · exact ih s _ _ hv
    · exact ih s _ _ hv
    · exact .of_eq rfl rfl
    next r w e =>
      obtain ⟨hr, hw, hs, hc, -, -⟩ := scanStep_granted s e
      have hne : v ≠ w := by
        rintro rfl
        rcases hv with hv | hv
        · exact hv hc
        · exact hv b (mem_runBeds hr) hw
      have same := grant_other s r hne
      refine same.trans (ih _ _ _ ?_)
      rw [same.live, (grant_granted s (by rw [(findRun_mem s hr).2, hr]) hs hc).beds]
      simpa only [valveOf, grant_bedRecs] using hv

theorem grantPass_spares : Spared s (grantPass s) := by
  refine ⟨grantPass_granted s, (grantPass_frame s).beds, fun b r hr hq hh => ?_, fun v hv => ?_⟩ <;> unfold grantPass <;> split
  · exact grantScan_spares_run hq _ [] [] (by simp) (by simp) hr hh
  · exact hr
  · exact grantScan_spares_valve s _ _ _ hv
  · exact .refl v s

theorem pass_spares : Spared s (pass s) := by
  have chosen : Spared s { s with choice := s.choice + 1 } := .of_eq (.of_eq rfl rfl rfl rfl (.of_monitor rfl rfl)) rfl rfl rfl rfl
  have owed (t : State) : Spared t (owePass t) := .of_eq (.of_eq rfl rfl rfl rfl (.of_monitor rfl rfl)) rfl rfl rfl rfl
  simp only [pass]
  split
  · split
    · exact chosen.trans (owed _)
    · exact chosen.trans (grantPass_spares _)
  · exact grantPass_spares s

theorem setWork_spares (w : Work) : Spared s (s.setWork w) := .of_eq (setWork_granted s w) rfl rfl rfl rfl

variable {s} in
/-- Outside RUNNING, with no entry SWAP_DUE and no STOPPING examination owed, the end of a step drops what is owed and judges MV. -/
theorem settle_unexamined (hd : NoSwapDue s) (hr : s.seq.state ≠ .running) (hs : s.work.stop = false) :
    settle s = judgeMv (s.setWork { pass := false, free := false, sweep := false, stop := false, mark := false }) := by
  have turns (n : Nat) (w : Work) (hw : w.stop = false) : ∃ w', settleTurns n (s.setWork w) = s.setWork w' := by
    induction n generalizing w with
    | zero => exact ⟨w, rfl⟩
    | succ n ih =>
      have passed (w' : Work) (hw' : w'.stop = false) : ∃ w'', settleTurns n (pass ((s.setWork w).setWork w')) = s.setWork w'' := by
        rw [pass_idle (s := (s.setWork w).setWork w') hr]
        exact ih w' hw'
      unfold settleTurns
      rw [if_neg (by simp [hw])]
      split
      · exact passed _ hw
      · split
        · rw [sweepTurn_idle (s := s.setWork w) hd]
          exact ih _ hw
        · split
          · exact passed _ hw
          · exact ⟨w, rfl⟩
  obtain ⟨w, hw⟩ := turns 1024 s.work hs
  have same : s.setWork s.work = s := rfl
  rw [same] at hw
  simp only [settle, hw]
  rfl

/-- The end of a step finds no STOPPING examination that could act: the state is not STOPPING, or no examination is owed. -/
def Unexamined (s : State) : Prop := s.seq.state ≠ .stopping ∨ s.work.stop = false

theorem WorkLaw.unexamined {s : State} (h : WorkLaw s) : Unexamined s := .inr (by rw [h])

variable {s} in
/-- With no entry SWAP_DUE and no examination, the end of a step is grants alone. -/
theorem settle_spares (hd : NoSwapDue s) (hu : Unexamined s) : Spared s (settle s) := by
  have judged (t : State) (w : Work) : Spared t (judgeMv (t.setWork w)) :=
    .of_eq (.of_eq rfl rfl rfl rfl (.of_monitor rfl rfl)) rfl rfl rfl rfl
  by_cases hs : s.seq.state = .stopping
  · rw [settle_unexamined hd (by rw [hs]; nofun) (hu.resolve_left (not_not.2 hs))]
    exact judged s _
  · have h : Spared s (settleTurns 1024 s) ∧ (settleTurns 1024 s).seq.state = s.seq.state := by
      refine settleTurns_induction (P := fun t => Spared s t ∧ t.seq.state = s.seq.state) (fun t _ h => ?_) (fun t _ h => ?_)
        (fun t w h => ⟨h.1.trans (setWork_spares t w), h.2⟩) 1024 hd ⟨.refl s, rfl⟩
      · rw [examineStop_idle (by rw [h.2]; exact hs)]
        exact ⟨h.1.trans (setWork_spares t _), h.2⟩
      · exact ⟨h.1.trans (pass_spares t), (pass_frame t).field.march.state.trans h.2⟩
    exact h.1.trans (judged _ _)

variable {s} in
/-- A whole completion, the arbiter's choice included, does no more. -/
theorem complete_spares (hd : NoSwapDue s) (hu : Unexamined s) : Spared s (complete s) := by
  have chosen (t : State) : Spared t (arbitrate t) :=
    .of_eq (arbitrate_granted t) (by rw [arbitrate_eq]) (by simp) (by simp) (by simp)
  exact (settle_spares hd hu).trans (chosen _)

variable {s} in
/-- What a water move leaves, the end of its step leaves too. -/
theorem WaterFrame.settled {t : State} (h : WaterFrame s t) (hd : NoSwapDue s) (hu : Unexamined t) :
    OnlyWaterChanges s (settle t) := by
  by_cases hs : t.seq.state = .stopping
  · rw [settle_unexamined (h.field.line.noSwapDue hd) (by rw [hs]; nofun) (hu.resolve_left (not_not.2 hs))]
    exact (h.trans (setWork_frame t _)).onlyWater
  · obtain ⟨w, hw, e⟩ := settle_water (h.field.line.noSwapDue hd) hs
    rw [e]
    exact (h.trans hw).onlyWater

end

end Sys2Proof.Machine
end

section
/-! SUPPORT. Pulse ends and removals: what they leave of the run, its bed and its valve (06 R96, R102, 07 R126). -/

namespace Sys2Proof.Machine

/-- A pulse end moves its open seconds to done and takes the pending plan (06 R102). -/
def Run.pulseEnded (now : Nat) (r : Run) : Run :=
  { r.applyPlan with delivered := r.delivered + openSeconds now r, pulseStart := none, expiry := none }

/-- A bed's balance with the water of a pulse credited (05 R79). -/
def BedLive.watered (s : State) (b : Fin 24) (v : Fin 32) (seconds : Nat) (l : BedLive) : BedLive :=
  BedLive.water seconds (flowOf s v) s.beds[b].active.area
    (BedLive.accrue (effectiveRate s b) s.beds[b].active.dryingExposure s.partTime l)

/-- A pulse end, before its valve is stopped: the run put back and its bed credited. -/
def pulseCredited (b : Fin 24) (r : Run) (v : Fin 32) (s : State) : State :=
  (putRun s (r.pulseEnded s.partTime)).setBedLive b (s.bedLive[b].map (BedLive.watered s b v (openSeconds s.partTime r)))

theorem Run.pulseEnded_bed (now : Nat) (r : Run) : (r.pulseEnded now).bed = r.bed := r.applyPlan_bed
theorem Run.pulseEnded_state (now : Nat) (r : Run) : (r.pulseEnded now).state = r.state := r.applyPlan_state

theorem Run.applyPlan_eq (r : Run) : r.applyPlan = { r with
    plan := none, pulseOn := (r.plan.getD (r.pulseOn, r.soak)).1, soak := (r.plan.getD (r.pulseOn, r.soak)).2 } := by
  obtain ⟨bed, origin, state, planned, delivered, volume, pulseOn, soak, plan, skips, reasons, stop, start, expiry⟩ := r
  cases plan <;> rfl

/-- A water credit is the whole litres of the water given, and no deficit falls below 0 (05 R79). -/
theorem BedLive.water_eq (seconds flow area : Nat) (l : BedLive) : BedLive.water seconds flow area l = { l with
    deficit := if (flow * seconds + l.waterResidue) / (6 * area) ≤ l.deficit
      then l.deficit - (flow * seconds + l.waterResidue) / (6 * area) else 0
    waterResidue := (flow * seconds + l.waterResidue) % (6 * area) } := by
  have floor (x y : Nat) : y - x = if x ≤ y then y - x else 0 := by split <;> omega
  rw [← floor]
  rfl

section
variable {s t : State} {b : Fin 24} {r : Run} {v : Fin 32}

/-! ## The stop of a valve -/

/-- A stop changes at most the HELD run of a bed that the valve waters. -/
theorem findRun_valveStop (v : Fin 32) (h : findRun s b = some r) (hv : r.state = .held → valveOf s b ≠ some v) :
    findRun (valveStop v s) b = some r := by
  have closed (l : ValveLive) : findRun (writeValve v l (closeRequest v s)) b = some r := by
    refine findRun_writeValve_spared v l (by rwa [findRun_congr (closeRequest_runs s v)]) ?_
    unfold valveOf
    rw [(closeRequest_frame s v).beds]
    exact hv
  simp only [valveStop]
  split
  · split <;> exact closed _
  · exact closed _
  all_goals exact findRun_writeValve_spared v _ h hv

theorem valveStop_of_opened (h : s.valveLive[v].state = .opened) : valveStop v s =
    writeValve v { s.valveLive[v] with state := .closing, owner := none, attempts := 0 } (closeRequest v s) := by
  simp only [valveStop, h]

/-- A close for which nothing waits is placed fresh (01 R13). -/
theorem closeRequest_fresh (h : commandWaits s v = false) :
    (closeRequest v s).lcq.closes[v] = some { attempted := false, sent := false } := by
  simp only [commandWaits, Bool.or_eq_false_iff, Option.isSome_eq_false_iff, Option.isNone_iff_eq_none] at h
  obtain ⟨hc, ho⟩ := h
  have placed : closeResult s v = .placed := by rw [closeResult, hc, ho]
  simp only [closeRequest, placed, setClose_lcq, Marks.fresh]
  exact LineQueue.withClose_closes_self v _ _

/-! ## The end of a pulse -/

theorem endPulse_eq (hr : findRun s b = some r) (hv : valveOf s b = some v) : endPulse b true s = valveStop v (pulseCredited b r v s) := by
  have credit (t : State) (secs flow : Nat) : waterCredit b secs flow t = t.setBedLive b ((t.bedLive[b].map
      (BedLive.accrue (effectiveRate t b) t.beds[b].active.dryingExposure t.partTime)).map
        (BedLive.water secs flow t.beds[b].active.area)) := by
    simp [waterCredit, onBed_eq, accrue_eq, State.setBedLive]
  simp only [endPulse, hr, hv, if_true, credit, Option.map_map]
  rfl

theorem findRun_pulseCredited (hr : findRun s b = some r) : findRun (pulseCredited b r v s) b = some (r.pulseEnded s.partTime) := by
  have hb : (r.pulseEnded s.partTime).bed = b := (r.pulseEnded_bed _).trans (findRun_mem s hr).2
  have put := findRun_putRun_self s (r := r.pulseEnded s.partTime) (p := r) (by rw [hb, hr])
  rw [hb] at put
  exact put

theorem findRun_pulseCredited_other {c : Fin 24} (hr : findRun s b = some r) (hc : c ≠ b) :
    findRun (pulseCredited b r v s) c = findRun s c :=
  findRun_putRun_other s (by rw [r.pulseEnded_bed, (findRun_mem s hr).2]; exact hc.symm)

/-- What the end of a pulse leaves: the run put back with its seconds, its bed credited, and every other run, but for a HELD one of the
same valve, and every other balance as they were. -/
structure PulseEnded (b : Fin 24) (r : Run) (v : Fin 32) (s u : State) : Prop where
  frame : WaterFrame s u
  run : findRun u b = some (r.pulseEnded s.partTime)
  others : ∀ c q, c ≠ b → findRun s c = some q → (q.state = .held → valveOf s c ≠ some v) → findRun u c = some q
  bedLive : u.bedLive = s.bedLive.set b (s.bedLive[b].map (BedLive.watered s b v (openSeconds s.partTime r)))

theorem endPulse_ended (hr : findRun s b = some r) (hh : r.state ≠ .held) (hv : valveOf s b = some v) :
    PulseEnded b r v s (endPulse b true s) where
  frame := endPulse_frame s b true
  run := by
    rw [endPulse_eq hr hv]
    exact findRun_valveStop v (findRun_pulseCredited hr) fun e => absurd (r.pulseEnded_state _ ▸ e) hh
  others c q hc hq hqv := by
    rw [endPulse_eq hr hv]
    exact findRun_valveStop v (by rwa [findRun_pulseCredited_other hr hc]) hqv
  bedLive := by
    rw [endPulse_eq hr hv, valveStop_bedLive]
    rfl

/-- The open valve of a pulse that ends is CLOSING without owner (07 R126). -/
theorem endPulse_closing (hr : findRun s b = some r) (hv : valveOf s b = some v) (ho : s.valveLive[v].state = .opened) :
    (endPulse b true s).valveLive[v] = { s.valveLive[v] with state := .closing, owner := none, attempts := 0 } ∧
      (commandWaits s v = false → (endPulse b true s).lcq.closes[v] = some { attempted := false, sent := false }) := by
  rw [endPulse_eq hr hv, valveStop_of_opened (s := pulseCredited b r v s) ho]
  refine ⟨?_, fun hw => ?_⟩
  · rw [writeValve_valveLive]
    simp [pulseCredited]
  · rw [writeValve_lcq]
    exact closeRequest_fresh hw

/-! ## A removal -/

theorem findRun_filter_self (h : t.runs = s.runs.filter fun q => q.bed != b) : findRun t b = none := by
  rw [findRun, h, List.find?_eq_none]
  intro q hq
  simpa using (List.mem_filter.1 hq).2

theorem findRun_filter_other {c : Fin 24} (h : t.runs = s.runs.filter fun q => q.bed != b) (hc : c ≠ b) :
    findRun t c = findRun s c := by
  rw [findRun, h, List.find?_filter, findRun]
  congr 1
  funext q
  by_cases e : q.bed = c
  · simp [e, hc]
  · simp [e]

/-- A removal starts the hold of 1800 s at its bed and leaves every other balance (05 R74, 06 R96). -/
theorem takeOut_bedLive (b : Fin 24) (r : Run) (s : State) : (takeOut b r s).bedLive =
    s.bedLive.set b (s.bedLive[b].map fun l => { l with holdEnd := some (s.partTime + 1800) }) := by
  simp only [takeOut, setHoldEnd, onBed_eq]
  split <;> rfl

theorem takeOut_runDone (h : r.delivered = r.planned) : (takeOut b r s).notice.isSet .runDone = true := by
  simp only [takeOut, h, if_true]
  simp [oweSweep, setFlag, NoticeUnit.isSet_raise]

/-- A removal is the run's record out of the queue and a grant pass. -/
theorem dropRun_spares (hr : findRun s b = some r) : Spared (takeOut b r s) (dropRun b s) := by
  simp only [dropRun, hr]
  exact pass_spares _

end

end Sys2Proof.Machine
end

section
/-! PROOF. A pulse's expiry credits the pulse, stops its valve, and removes, holds or soaks the run (06 R102, R103). -/

namespace Sys2Proof.Machine

section
variable {s t u w : State} {b : Fin 24} {r q : Run} {v : Fin 32} {l : BedLive}

/-! ## The branches of an expiry -/

/-- Whether a run leaves the queue at its pulse's end (06 R103). -/
def LeavesAtPulseEnd (s : State) (q : Run) : Prop :=
  q.delivered = q.planned ∨ q.stopAtPulseEnd = true ∨ ∃ i, s.locks.effective = some (.cancel, i)

theorem pulseExpires_leaves (hq : findRun (endPulse b true s) b = some q) (h : LeavesAtPulseEnd (endPulse b true s) q) :
    pulseExpires b s = dropRun b (endPulse b true s) := by
  simp only [pulseExpires, hq]
  split
  · rfl
  next hn =>
    rcases h with h | h | ⟨i, h⟩
    · exact absurd (.inl h) hn
    · exact absurd (.inr h) hn
    · rw [h]

theorem pulseExpires_pauses (hq : findRun (endPulse b true s) b = some q) (hd : q.delivered ≠ q.planned) (hs : q.stopAtPulseEnd = false)
    {i : LockTiming} (h : (endPulse b true s).locks.effective = some (.pause, i)) :
    pulseExpires b s = leaveOn { q with state := .held, reasons := .onlyLock } (endPulse b true s) := by
  simp only [pulseExpires, hq, hd, hs, h, false_or, if_false, Bool.false_eq_true]

theorem pulseExpires_soaks (hq : findRun (endPulse b true s) b = some q) (hd : q.delivered ≠ q.planned) (hs : q.stopAtPulseEnd = false)
    (h : (endPulse b true s).locks.effective = none) : pulseExpires b s =
      leaveOn { q with state := .soak, expiry := some ((endPulse b true s).partTime + q.soak) } (endPulse b true s) := by
  simp only [pulseExpires, hq, hd, hs, h, false_or, if_false, Bool.false_eq_true]

/-! ## What follows the end of the pulse -/

/-- After its pulse has ended, `w` is the state in which the run has left the queue or been put into its next state: valves
and commands, the other runs and the other balances stand. -/
structure RunMoved (b : Fin 24) (u w : State) : Prop where
  live : w.valveLive = u.valveLive
  lcq : w.lcq = u.lcq
  others : ∀ c, c ≠ b → findRun w c = findRun u c
  balances : ∀ c : Fin 24, c ≠ b → w.bedLive[c] = u.bedLive[c]

theorem takeOut_moved (b : Fin 24) (q : Run) (u : State) : RunMoved b u (takeOut b q u) where
  live := by
    simp only [takeOut, setHoldEnd, onBed_eq]
    split <;> rfl
  lcq := by
    simp only [takeOut, setHoldEnd, onBed_eq]
    split <;> rfl
  others c hc := findRun_filter_other (takeOut_runs u b q) hc
  balances c hc := by rw [takeOut_bedLive, getElem_set_other _ hc]

theorem putRun_moved (q : Run) (u : State) : RunMoved q.bed u (oweSweep (putRun u q)) where
  live := rfl
  lcq := rfl
  others _ hc := findRun_putRun_other u hc.symm
  balances _ _ := rfl

/-- Every branch is such a move and grants after it. -/
theorem pulseExpires_moved (hq : findRun (endPulse b true s) b = some q) :
    ∃ w, RunMoved b (endPulse b true s) w ∧ Spared w (pulseExpires b s) := by
  have left (x : Run) (hx : x.bed = b) : ∃ w, RunMoved b (endPulse b true s) w ∧ Spared w (leaveOn x (endPulse b true s)) :=
    ⟨_, hx ▸ putRun_moved x _, pass_spares _⟩
  have gone : ∃ w, RunMoved b (endPulse b true s) w ∧ Spared w (dropRun b (endPulse b true s)) :=
    ⟨_, takeOut_moved b q _, dropRun_spares hq⟩
  have hb := (findRun_mem _ hq).2
  simp only [pulseExpires, hq]
  split
  · exact gone
  · split
    · exact gone
    · exact left _ hb
    · exact left _ hb

/-! ## The pulse whose timer expires -/

theorem exec_pulseExpiry {e : Nat} (hr : findRun s b = some r) (hon : r.state = .on) (he : r.expiry = some e) (hes : e ≤ s.partTime) :
    exec (.pulseExpiry b) s = .next (complete (pulseExpires b s)) := by
  have hdue : runDue s b .on = true := by simp [runDue, hr, hon, he, due, hes]
  simp only [exec, execPulseExpiry, hdue, if_true]

theorem Run.pulseEnded_expired {p e : Nat} (hp : r.pulseStart = some p) (he : r.expiry = some e) (hes : e ≤ s.partTime) :
    r.pulseEnded s.partTime = { r with
      delivered := r.delivered + (e - p), pulseStart := none, plan := none, expiry := none
      pulseOn := (r.plan.getD (r.pulseOn, r.soak)).1, soak := (r.plan.getD (r.pulseOn, r.soak)).2 } := by
  have secs : openSeconds s.partTime r = e - p := by simp only [openSeconds, hp, he, Nat.min_eq_right hes]
  rw [Run.pulseEnded, Run.applyPlan_eq, secs]

/-- A removal by `dropRun`, and the end of its step. -/
theorem dropRun_completed (hq : findRun u b = some q) (hl : u.bedLive[b] = some l) (hd : NoSwapDue u) (hs : u.seq.state ≠ .stopping) :
    findRun (complete (dropRun b u)) b = none ∧
      (complete (dropRun b u)).bedLive[b] = some { l with holdEnd := some (u.partTime + 1800) } ∧
      (q.delivered = q.planned → (complete (dropRun b u)).notice.isSet .runDone = true) := by
  have frame := dropRun_frame u b
  have spared : Spared (takeOut b q u) (complete (dropRun b u)) :=
    (dropRun_spares hq).trans (complete_spares (frame.field.line.noSwapDue hd) (.inl (by rwa [frame.field.march.state])))
  refine ⟨?_, ?_, fun hdone => ?_⟩
  · rw [spared.granted.findRun_none]
    exact findRun_filter_self (takeOut_runs u b q)
  · rw [spared.granted.bedLive, takeOut_bedLive]
    simp [hl]
  · refine complete_flags _ ?_
    simp only [dropRun, hq]
    exact (pass_frame _).flags _ (takeOut_runDone hdone)

/-- A run that leaves ON and stays in the queue, with the end of its step: while a lock is in force it stays as it was put, and so
does one that soaks. -/
theorem leaveOn_completed (hq : findRun u q.bed = some r) (hd : NoSwapDue u) (hs : u.seq.state ≠ .stopping)
    (h : u.locks.effective ≠ none ∨ q.state = .soak) :
    findRun (complete (leaveOn q u)) q.bed = some q ∧ (complete (leaveOn q u)).bedLive = u.bedLive := by
  have frame := leaveOn_frame u q
  have spared : Spared (oweSweep (putRun u q)) (complete (leaveOn q u)) :=
    (pass_spares _).trans (complete_spares (s := leaveOn q u) (frame.field.line.noSwapDue hd) (.inl (by rwa [frame.field.march.state])))
  have put : findRun (oweSweep (putRun u q)) q.bed = some q := findRun_putRun_self u hq
  refine ⟨?_, spared.granted.bedLive⟩
  rcases h with h | h
  · have closed : passOpen (oweSweep (putRun u q)) = false := passOpen_locked h
    have still : leaveOn q u = oweSweep (putRun u q) := pass_closed closed
    have runs : (complete (oweSweep (putRun u q))).runs = (oweSweep (putRun u q)).runs := by
      rw [complete, arbitrate_runs, settle_closed (s := oweSweep (putRun u q)) hd hs closed]
      rfl
    rwa [still, findRun_congr runs]
  · exact spared.run _ _ put (by rw [h]; nofun) (by rw [h]; nofun)

end

/-- Settles O30: the pulse's end leaves the run, its bed and its valve as `PulseEnded` says, each branch of the expiry then moves the
run alone, and the grants that follow spare what the statement names. -/
theorem pulseExpiryEndsThePulse : Obligations.PulseExpiryEndsThePulse := by
  refine ⟨BedLive.water_eq, fun b r v p e l s hr hon hp he hpe hes hv hopen hl hq hd hs => ?_⟩
  intro r' credited gone stays
  have hb := (findRun_mem s hr).2
  have ended : PulseEnded b r v s (endPulse b true s) := endPulse_ended hr (by rw [hon]; nofun) hv
  obtain ⟨closing, placed⟩ := endPulse_closing hr hv hopen
  have hrun : findRun (endPulse b true s) b = some { r' with expiry := none } := by
    rw [ended.run, Run.pulseEnded_expired hp he hes]
  have hcredit : (endPulse b true s).bedLive[b] = some credited := by
    have secs : openSeconds s.partTime r = e - p := by simp only [openSeconds, hp, he, Nat.min_eq_right hes]
    rw [ended.bedLive, secs]
    simp [hl, BedLive.watered, credited]
  have others (c : Fin 24) (hc : c ≠ b) : (endPulse b true s).bedLive[c] = s.bedLive[c] := by
    rw [ended.bedLive, getElem_set_other _ hc]
  have pres := ended.frame.partTime
  have lock := congrArg LockUnit.effective ended.frame.locks
  have hd' := ended.frame.field.line.noSwapDue hd
  have hs' : (endPulse b true s).seq.state ≠ .stopping := by rwa [ended.frame.field.march.state]
  obtain ⟨w, moved, granted⟩ := pulseExpires_moved hrun
  have frame := pulseExpires_frame s b
  have spared : Spared w (complete (pulseExpires b s)) :=
    granted.trans (complete_spares (frame.field.line.noSwapDue hd) (.inl (by rwa [frame.field.march.state])))
  have valve := spared.valve v (.inl (by rw [moved.live, closing]; simp))
  have leaves (h : LeavesAtPulseEnd (endPulse b true s) { r' with expiry := none }) : gone (complete (pulseExpires b s)) ∧
      (r'.delivered = r.planned → (complete (pulseExpires b s)).notice.isSet .runDone = true) := by
    rw [pulseExpires_leaves hrun h]
    obtain ⟨hnone, hold, hdone⟩ := dropRun_completed hrun hcredit hd' hs'
    exact ⟨⟨hnone, hold.trans (by rw [pres])⟩, hdone⟩
  refine ⟨_, exec_pulseExpiry hr hon he hes, frame.completed hd (.inl hs), ?_, fun hw => ?_, fun hdone => ?_, fun _ hstop => ?_,
    fun hdone hstop => ⟨fun i hi => ?_, fun i hi => ?_, fun hi => ?_⟩, fun c hc => ?_, fun q hqm hqb hqs => ?_⟩
  · rw [valve.live, moved.live, closing]
  · rw [valve.close, moved.lcq, placed hw]
  · obtain ⟨hgone, hflag⟩ := leaves (.inl hdone)
    exact ⟨hgone, hflag hdone⟩
  · exact (leaves (.inr (.inl hstop))).1
  · exact (leaves (.inr (.inr ⟨i, lock.trans hi⟩))).1
  · have locked := lock.trans hi
    rw [pulseExpires_pauses hrun hdone hstop locked]
    obtain ⟨hput, hbal⟩ := leaveOn_completed (q := { r' with state := .held, expiry := none, reasons := .onlyLock })
      (by rw [hb, hrun]) hd' hs' (.inl (by rw [locked]; nofun))
    exact ⟨hb ▸ hput, by rw [hbal, hcredit]⟩
  · rw [pulseExpires_soaks hrun hdone hstop (lock.trans hi), pres]
    obtain ⟨hput, hbal⟩ := leaveOn_completed (q := { r' with state := .soak, expiry := some (s.partTime + r'.soak) })
      (by rw [hb, hrun]) hd' hs' (.inr rfl)
    exact ⟨hb ▸ hput, by rw [hbal, hcredit]⟩
  · rw [spared.granted.bedLive, moved.balances c hc, others c hc]
  · have found := ended.others q.bed q hqb ((findRun_iff_mem hq).2 ⟨hqm, rfl⟩) (by rw [hqs]; nofun)
    exact (findRun_mem _ (spared.run q.bed q (by rw [moved.others q.bed hqb, found]) (by rw [hqs]; nofun) (by rw [hqs]; nofun))).1

end Sys2Proof.Machine
end

section
/-! SUPPORT. Requests that only water: what the end of their step and their answer leave (11 R182). -/

namespace Sys2Proof.Machine

section
variable {s t u : State} {kind : Byte}

theorem HubPort.headed_eq (f : HubFrame) (h : HubPort) : h.headed f = { h with requests := (h.headed f).requests } := by
  unfold headed
  split <;> rfl

/-- Where the request stands makes no difference to what only waters. -/
theorem OnlyWaterChanges.of_atHead {f : HubFrame} (h : OnlyWaterChanges (atHead f s) t) : OnlyWaterChanges s t := by
  refine h.trans ?_
  rw [atHead_eq, HubPort.headed_eq]
  rfl

theorem OnlyWaterChanges.putAnswer {r : Result} {tail : List Byte} (h : OnlyWaterChanges s t) :
    OnlyWaterChanges s (putAnswer kind r tail t) := by
  unfold OnlyWaterChanges at h
  rw [h]
  rfl

theorem answerRuling_waters {r : Ruling} (h : WaterFrame u r.state) (hd : NoSwapDue u) (hu : Unexamined r.state) :
    OnlyWaterChanges u (answerRuling kind r) := .arbitrate (.putAnswer (h.settled hd hu))

theorem answerRuling_spares {r : Ruling} (hd : NoSwapDue r.state) (hu : Unexamined r.state) :
    Spared r.state (answerRuling kind r) := by
  obtain ⟨h, b, e⟩ := answerRuling_eq kind r
  rw [e]
  exact (settle_spares hd hu).trans (.of_eq (.of_eq rfl rfl rfl rfl (.of_monitor rfl rfl)) rfl rfl rfl rfl)

theorem answerRuling_flags {r : Ruling} {f : Flag} (h : r.state.notice.isSet f = true) :
    (answerRuling kind r).notice.isSet f = true := by
  rw [answerRuling, arbitrate_isSet]
  exact (settle_settle r.state).flags f h

/-- The request at the head of its queue, nothing is due for a swap that was not. -/
theorem atHead_noSwapDue (f : HubFrame) (h : NoSwapDue s) : NoSwapDue (atHead f s) := by
  rw [atHead_eq]
  exact h

end

end Sys2Proof.Machine
end

section
/-! PROOF. RUN_START is judged in the order of 06 R109, and an accepted one puts its run behind the last HUB run (06 R94, R110). -/

namespace Sys2Proof.Machine

theorem bedRef_eq_none {n : Nat} (h : 24 ≤ n) : bedRef n = none := dif_neg (by omega)

theorem bedRef_eq_some {n : Nat} {b : Fin 24} (h : n = b.val) : bedRef n = some b := by
  subst h
  exact dif_pos b.isLt

/-! ## The tests -/

section
variable {s : State} {b : Fin 24} {v : Fin 32} {body : List Byte}

theorem runStartRule_badIndex (h : bedRef (get1 body 0) = none) : runStartRule body s = refuse .badIndex s := by
  simp only [runStartRule, h]

section
variable (hb : bedRef (get1 body 0) = some b)
include hb

theorem runStartRule_badValue (h : 7200 < get2 body 1) : runStartRule body s = refuse .badValue s := by
  simp only [runStartRule, hb, h, if_true]

variable (hsecs : get2 body 1 ≤ 7200)
include hsecs

theorem runStartRule_notFound (h : s.beds[b].active.used = false) : runStartRule body s = refuse .notFound s := by
  simp only [runStartRule, hb, Nat.not_lt.2 hsecs, h, if_true, if_false]

variable (hu : s.beds[b].active.used = true)
include hu

theorem runStartRule_wrongMode (h : s.beds[b].active.takesHubRuns = false) : runStartRule body s = refuse .refusedState s := by
  simp only [runStartRule, hb, Nat.not_lt.2 hsecs, hu, h, if_true, if_false, Bool.true_eq_false]

variable (hm : s.beds[b].active.takesHubRuns = true)
include hm

theorem runStartRule_cannotStart (h : (findRun s b).isSome = true ∨ valveOf s b = none) :
    runStartRule body s = refuse .refusedState s := by
  rcases h with h | h
  · simp only [runStartRule, hb, Nat.not_lt.2 hsecs, hu, hm, h, if_true, if_false, Bool.true_eq_false]
  · simp only [runStartRule, hb, Nat.not_lt.2 hsecs, hu, hm, h, if_false, ite_self, Bool.true_eq_false]

variable (hv : valveOf s b = some v)
include hv

theorem runStartRule_notAuto (h : s.valveLive[v].mode ≠ .auto) : runStartRule body s = refuse .refusedState s := by
  simp only [runStartRule, hb, Nat.not_lt.2 hsecs, hu, hm, hv, ne_eq, h, not_false_eq_true, if_true, if_false, ite_self,
    Bool.true_eq_false]

variable (ha : s.valveLive[v].mode = .auto) (hn : findRun s b = none)
include ha hn

theorem runStartRule_locked (h : cancelInForce s = true) : runStartRule body s = refuse .locked s := by
  simp only [runStartRule, hb, Nat.not_lt.2 hsecs, hu, hm, hv, hn, ne_eq, ha, h, not_true_eq_false, if_true, if_false,
    Bool.true_eq_false, Option.isSome_none, Bool.false_eq_true]

variable (hc : cancelInForce s = false)
include hc

omit hsecs in
theorem runStartRule_sized (h : get2 body 1 = 0) : runStartRule body s =
    if deficitOf (accrue b s) b ≤ s.beds[b].active.stopLevel then refuse .badValue (accrue b s)
    else startRun (hubRun (accrue b s) b v (sizedSeconds s.beds[b].active (deficitOf (accrue b s) b) (flowOf s v))) (accrue b s) := by
  simp only [runStartRule, hb, Nat.not_lt_zero, hu, hm, hv, hn, ne_eq, ha, hc, h, not_true_eq_false, if_true, if_false,
    Bool.true_eq_false, Option.isSome_none, Bool.false_eq_true]

theorem runStartRule_timed (h : get2 body 1 ≠ 0) : runStartRule body s = startRun (hubRun s b v (get2 body 1)) s := by
  simp only [runStartRule, hb, Nat.not_lt.2 hsecs, hu, hm, hv, hn, ne_eq, ha, hc, h, not_true_eq_false, if_false,
    Bool.true_eq_false, Option.isSome_none, Bool.false_eq_true]

end

end

/-! ## A HUB run created -/

section
variable {s u : State} {b : Fin 24} {r : Run}

theorem createRun_idleWork (r : Run) (s : State) : IdleWork s (createRun r s) := by
  refine ⟨(createRun_frame s r).field.march.state, fun h => ?_⟩
  rw [createRun, pass_idle (s := s.setRuns (insertRun r s.runs)) h]
  rfl

/-- Where nothing is owed, a move that owes nothing outside RUNNING meets no STOPPING examination. -/
theorem IdleWork.unexamined {t : State} (h : IdleWork s t) (hw : WorkLaw s) : Unexamined t := by
  rcases h.law hw with hs | hw
  · exact .inl (by rwa [h.1])
  · exact hw.unexamined

/-- A new record of a bed without run is the bed's run (06 R93). -/
theorem findRun_insertRun (hn : findRun s r.bed = none) : findRun (s.setRuns (insertRun r s.runs)) r.bed = some r := by
  have absent (p : Run → Bool) : (s.runs.filter p).find? (fun q => q.bed == r.bed) = none :=
    List.find?_eq_none.2 fun q hq => by simpa using (findRun_eq_none s r.bed).1 hn q (List.mem_filter.1 hq).1
  unfold findRun at hn
  simp only [findRun, State.setRuns_runs, insertRun]
  split
  · simp [List.find?_append, absent]
  · simp [List.find?_append, hn]

/-- A run created and granted at most, with everything that follows in its step. -/
theorem createRun_found {t : State} (hn : findRun s r.bed = none) (hq : r.state = .queued)
    (k : Spared (createRun r s) t) : ∃ q, findRun t r.bed = some q ∧ (q.state = .queued ∨ q.state = .on) ∧
      q = { r with state := q.state, skips := q.skips } := by
  have spared : Spared (s.setRuns (insertRun r s.runs)) t := (pass_spares _).trans k
  obtain ⟨q, hqf, granted⟩ := spared.granted.found r.bed r (findRun_insertRun hn)
  obtain ⟨reasons, state⟩ := granted.waiting (by rw [hq]; nofun)
  refine ⟨q, hqf, ?_, ?_⟩
  · rcases state with e | ⟨-, e⟩
    · exact .inl (e.trans hq)
    · exact .inr e
  · have same := granted.same
    rwa [reasons] at same

/-! ## An accepted RUN_START -/

/-- The answer to an accepted RUN_START, the place of its run and the run (06 R94, R110); `w` is the state that the ruling is made in,
the bed's balance accrued where its deficit is asked. -/
theorem startRun_started {w : State} {f : HubFrame} {v : Fin 32} {planned : Nat} (hd : NoSwapDue s) (hw : WorkLaw w)
    (water : WaterFrame (atHead f s) w) (runs : w.runs = s.runs) (free : ∀ g, s.hub.htx ≠ .answer g) (hn : findRun s b = none) :
    let t := answerRuling 0x0B (startRun (hubRun w b v planned) w)
    OnlyWaterChanges s t ∧
      answerOf t = some { kind := 0x8B, body := 0 :: (put2 planned ++ put2 (min (flowOf s v * planned / 60) 65535)) } ∧
      runBeds t = (s.runs.filter fun r => r.origin == .hub).map (·.bed) ++ b ::
        (s.runs.filter fun r => r.origin != .hub).map (·.bed) ∧
      (∃ q ∈ t.runs, (q.state = .queued ∨ q.state = .on) ∧
        q = { bed := b, origin := .hub, state := q.state, planned := planned, delivered := 0
              volume := min (flowOf s v * planned / 60) 65535
              pulseOn := s.beds[b].active.pulseOn, soak := s.beds[b].active.soak, plan := none, skips := q.skips
              reasons := { lock := false, line := false, valve := false }, stopAtPulseEnd := false
              pulseStart := none, expiry := none }) ∧
      t.bedLive = w.bedLive := by
  intro t
  have flow : flowOf w v = flowOf s v := by
    rw [flowOf, water.valves, atHead_eq]
    rfl
  have beds : w.beds = s.beds := by
    rw [water.beds, atHead_eq]
    rfl
  have created := createRun_idleWork (hubRun w b v planned) w
  have frame : WaterFrame (atHead f s) (createRun (hubRun w b v planned) w) := water.trans (createRun_frame w _)
  have hd' : NoSwapDue (atHead f s) := atHead_noSwapDue f hd
  have spared : Spared (createRun (hubRun w b v planned) w) t :=
    answerRuling_spares (r := startRun (hubRun w b v planned) w) (frame.field.line.noSwapDue hd') (created.unexamined hw)
  have hn' : findRun w b = none := by rwa [findRun_congr runs]
  obtain ⟨q, hq, hs, e⟩ := createRun_found (r := hubRun w b v planned) hn' rfl spared
  refine ⟨.of_atHead (answerRuling_waters frame hd' (created.unexamined hw)), ?_, ?_, ⟨q, (findRun_mem _ hq).1, hs, ?_⟩, ?_⟩
  · refine (answerOf_answerRuling _ fun g => ?_).trans ?_
    · show (createRun (hubRun w b v planned) w).hub.htx ≠ _
      rw [frame.hub, atHead_eq]
      show (s.hub.headed f).htx ≠ _
      rw [HubPort.headed_htx]
      exact free g
    · simp only [startRun, hubRun, newRun, flow]
      rfl
  · rw [spared.granted.beds, createRun, (pass_granted _).beds]
    simp [runBeds, insertRun, hubRun, newRun, runs]
  · rw [e]
    simp only [hubRun, newRun, flow, beds]
    rfl
  · rw [spared.granted.bedLive, createRun, (pass_granted _).bedLive]
    rfl

end

/-- Settles O32: the ruling is spelled test by test, and an accepted one is `startRun`. -/
theorem runStartIsJudgedInOrder : Obligations.RunStartIsJudgedInOrder := by
  intro i lo hi s body secs htake hrest hd refused started
  have refusal (r : Result) (h : runStartRule body (atHead { kind := 0x0B, body := body } s) =
      refuse r (atHead { kind := 0x0B, body := body } s)) : refused r s :=
    congrArg Host.Outcome.next (takeRequest_refused 0x0B (fun n => n == 3) runStartRule body s r htake rfl hrest h)
  have taken : exec (.runStart body) s = .next (answerRuling 0x0B (runStartRule body (atHead { kind := 0x0B, body := body } s))) :=
    congrArg Host.Outcome.next (takeRequest_taken 0x0B (fun n => n == 3) runStartRule body s htake rfl)
  have start (w : State) (b : Fin 24) (v : Fin 32) (planned : Nat) (hw : WorkLaw w)
      (water : WaterFrame (atHead { kind := 0x0B, body := body } s) w) (runs : w.runs = s.runs) (hn : findRun s b = none)
      (h : runStartRule body (atHead { kind := 0x0B, body := body } s) = startRun (hubRun w b v planned) w) :
      started b planned (min (flowOf s v * planned / 60) 65535) w.bedLive[b] := by
    obtain ⟨only, answer, place, ⟨q, hq, hs, e⟩, balance⟩ :=
      startRun_started (planned := planned) (v := v) hd hw water runs (htx_ne_answer_of_canTake htake) hn
    rw [← h] at only answer place hq balance
    exact ⟨_, q, taken, only, answer, place, hq, hs, e, by rw [balance]⟩
  obtain ⟨p, hp⟩ : ∃ p, p = s.hub.headed { kind := 0x0B, body := body } := ⟨_, rfl⟩
  rw [atHead_eq, ← hp] at refusal start taken
  refine ⟨fun hi => refusal _ (runStartRule_badIndex (bedRef_eq_none hi)), fun b hb => ?_⟩
  intro rec0
  have hb' : bedRef (get1 body 0) = some b := bedRef_eq_some hb
  have hmode : rec0.takesHubRuns = true ↔ rec0.mode = 1 ∨ rec0.mode = 2 := by simp [BedRec.takesHubRuns]
  refine ⟨fun h => refusal _ (runStartRule_badValue hb' h), fun h hu => refusal _ (runStartRule_notFound hb' h hu),
    fun h hu h1 h2 => refusal _ (runStartRule_wrongMode hb' h hu ?_), fun h hu hm => ⟨fun hx => ?_, fun v hv => ⟨fun ha => ?_,
      fun ha hn => ⟨fun i hl => ?_, fun hl => ⟨fun hsecs => ?_, fun hsecs l hlive => ?_⟩⟩⟩⟩⟩
  · exact Bool.eq_false_iff.2 fun k => (hmode.1 k).elim h1 h2
  · refine refusal _ (runStartRule_cannotStart hb' h hu (hmode.2 hm) ?_)
    rcases hx with ⟨r, hr, e⟩ | hx
    · exact .inl (Option.isSome_iff_ne_none.2 fun k => (findRun_eq_none s b).1 k r hr e)
    · exact .inr hx
  · exact refusal _ (runStartRule_notAuto hb' h hu (hmode.2 hm) hv ha)
  · refine refusal _ (runStartRule_locked hb' h hu (hmode.2 hm) hv ha ((findRun_eq_none s b).2 hn) ?_)
    exact Bool.not_eq_false _ ▸ fun k => (cancelInForce_eq_false s).1 k i hl
  · have hn' := (findRun_eq_none s b).2 hn
    have hc := (cancelInForce_eq_false s).2 hl
    exact start (s.setHub p) b v secs hrest.1 (.refl _) rfl hn' (runStartRule_timed hb' h hu (hmode.2 hm) hv ha hn' hc hsecs)
  · have hn' := (findRun_eq_none s b).2 hn
    have hc := (cancelInForce_eq_false s).2 hl
    intro l' litres planned
    have accrued : accrue b (s.setHub p) = (s.setBedLive b (some l')).setHub p := by
      have live : (s.setHub p).bedLive[b] = some l := hlive
      rw [accrue_eq, live]
      rfl
    have balance : ((s.setBedLive b (some l')).setHub p).bedLive[b] = some l' := by simp
    have sized : runStartRule body (s.setHub p) = if l'.deficit ≤ rec0.stopLevel
        then refuse .badValue ((s.setBedLive b (some l')).setHub p)
        else startRun (hubRun ((s.setBedLive b (some l')).setHub p) b v planned) ((s.setBedLive b (some l')).setHub p) := by
      have judged := runStartRule_sized (s := s.setHub p) hb' hu (hmode.2 hm) hv ha hn' hc hsecs
      have deficit : deficitOf ((s.setBedLive b (some l')).setHub p) b = l'.deficit := by rw [deficitOf, balance]
      rw [accrued, deficit] at judged
      exact judged
    refine ⟨fun hle => ?_, fun hlt => ?_⟩
    · rw [if_pos hle] at sized
      have answer := answerRuling_unchanged 0x0B body (s.setBedLive b (some l')) .badValue (fun _ => []) hrest
      rw [atHead_eq, State.setBedLive_hub, ← hp] at answer
      show exec (.runStart body) s = _
      rw [taken, sized]
      exact congrArg Host.Outcome.next answer
    · rw [if_neg (Nat.not_le.2 hlt)] at sized
      have water : WaterFrame (s.setHub p) ((s.setBedLive b (some l')).setHub p) := accrued ▸ accrue_frame _ b
      have k := start ((s.setBedLive b (some l')).setHub p) b v planned hrest.1 water rfl hn' sized
      rwa [balance] at k

end Sys2Proof.Machine
end

section
/-! SUPPORT. A run removed (06 R96): what goes with it, and what stands (05 R74, R79, 06 R102, R104). -/

namespace Sys2Proof.Machine

/-! ## One bed for a valve -/

/-- Used beds of consistent tables have a valve each of their own (10 R170). -/
theorem TableLaw.soleValves {s : State} (h : TableLaw s) {b c : Fin 24} {v : Fin 32} (hb : s.beds[b].active.used = true)
    (hc : s.beds[c].active.used = true) (hbv : valveOf s b = some v) (hcv : valveOf s c = some v) : b = c := by
  have checks : bedValvesConsistent s = true := by
    unfold TableLaw crossChecks at h
    simp only [Bool.and_eq_true] at h
    tauto
  simp only [bedValvesConsistent, Bool.and_eq_true] at checks
  have nodup := List.Nodup.of_map _ (distinct_nodup checks.2)
  rw [List.Nodup, List.pairwise_filterMap, usedBedRecs, List.pairwise_filter, List.pairwise_map, List.pairwise_iff_getElem] at nodup
  have apart (i j : Fin 24) (hi : s.beds[i].active.used = true) (hj : s.beds[j].active.used = true) (hiv : valveOf s i = some v)
      (hjv : valveOf s j = some v) : ¬ i < j := fun hij =>
    nodup i j (by simp) (by simp) hij (by simpa using hi) (by simpa using hj) v (by simpa [valveOf] using hiv) v
      (by simpa [valveOf] using hjv) rfl
  exact Fin.le_antisymm (Fin.not_lt.1 (apart c b hc hb hcv hbv)) (Fin.not_lt.1 (apart b c hb hc hbv hcv))

/-- So the beds with a run do not share a valve (06 R93). -/
theorem OwnValves.of_laws {s : State} (h : TableLaw s) (hr : RunBedLaw s) : OwnValves s := by
  intro b hb c hc v hbv hcv
  obtain ⟨p, hp, rfl⟩ := List.mem_map.1 hb
  obtain ⟨q, hq, rfl⟩ := List.mem_map.1 hc
  exact h.soleValves (hr p hp).1 (hr q hq).1 hbv hcv

section
variable {s t : State} {b c : Fin 24} {r q : Run} {v : Fin 32}

/-! ## The pulse of a run to be removed -/

theorem valveStop_granted (v : Fin 32) (s : State) : Granted s (valveStop v s) := by
  have closed (l : ValveLive) (hm : l.mode = s.valveLive[v].mode) (hf : l.state = .fault ↔ s.valveLive[v].state = .fault) :
      Granted s (writeValve v l (closeRequest v s)) := by
    have live := closeRequest_valveLive s v
    exact (closeRequest_granted s v).trans (writeValve_granted _ v l (by rw [live, hm]) (by rw [live, hf]))
  simp only [valveStop]
  split
  next h => split <;> exact closed _ rfl (by rw [h]; simp)
  next h => exact closed _ rfl (by rw [h]; simp)
  all_goals exact writeValve_granted s v _ rfl Iff.rfl

theorem endPulse_valveless (hr : findRun s b = some r) (hv : valveOf s b = none) :
    endPulse b true s = putRun s (r.pulseEnded s.partTime) := by
  have hv' (q : Run) : valveOf (putRun s q) b = none := hv
  simp only [endPulse, hr, hv]
  rfl

/-- The pulse of the run `r` to be removed is over in `x`: its seconds are done and credited, and the other runs may have been
released by its valve's stop (06 R104, R105). -/
structure PulseOver (b : Fin 24) (r : Run) (s x : State) : Prop where
  frame : WaterFrame s x
  beds : runBeds x = runBeds s
  run : ∃ q, findRun x b = some q ∧ q.delivered = deliveredAtRemoval s r ∧ q.planned = r.planned
  dry : r.state ≠ .on ∨ valveOf s b = none → x.bedLive[b] = s.bedLive[b]
  wet : r.state = .on → ∀ v, valveOf s b = some v → x.bedLive[b] = s.bedLive[b].map (BedLive.watered s b v (openSeconds s.partTime r))
  lives : ∀ c : Fin 24, c ≠ b → x.bedLive[c] = s.bedLive[c]
  found : ∀ c q, c ≠ b → findRun s c = some q → ∃ q', findRun x c = some q' ∧ RunGranted s.locks.effective.isSome q q'
  kept : ∀ c q, c ≠ b → findRun s c = some q → (q.state = .held → OwnValves s) → findRun x c = some q

theorem PulseOver.of_waiting (hr : findRun s b = some r) (hs : r.state ≠ .on) : PulseOver b r s s where
  frame := .refl s
  beds := rfl
  run := ⟨r, hr, by simp [deliveredAtRemoval, hs], rfl⟩
  dry _ := rfl
  wet h := absurd h hs
  lives _ _ := rfl
  found _ q _ h := ⟨q, h, .refl _ q⟩
  kept _ _ _ h _ := h

theorem Run.pulseEnded_done (hs : r.state = .on) : (r.pulseEnded s.partTime).delivered = deliveredAtRemoval s r ∧
    (r.pulseEnded s.partTime).planned = r.planned := by
  rw [Run.pulseEnded, Run.applyPlan_eq]
  exact ⟨by simp [deliveredAtRemoval, hs], rfl⟩

theorem endPulse_over (hr : findRun s b = some r) (hs : r.state = .on) : PulseOver b r s (endPulse b true s) := by
  have hb : (r.pulseEnded s.partTime).bed = b := (r.pulseEnded_bed _).trans (findRun_mem s hr).2
  cases hv : valveOf s b with
  | none =>
    rw [endPulse_valveless hr hv]
    have other (c : Fin 24) (hc : c ≠ b) : findRun (putRun s (r.pulseEnded s.partTime)) c = findRun s c :=
      findRun_putRun_other s (by rw [hb]; exact hc.symm)
    refine ⟨putRun_frame s _, putRun_beds s _, ⟨_, ?_, Run.pulseEnded_done hs⟩, fun _ => rfl, fun _ v h => ?_, fun _ _ => rfl,
      fun c q hc hq => ⟨q, (other c hc).trans hq, .refl _ q⟩, fun c q hc hq _ => (other c hc).trans hq⟩
    · have put := findRun_putRun_self s (r := r.pulseEnded s.partTime) (p := r) (by rw [hb, hr])
      rwa [hb] at put
    · rw [hv] at h
      cases h
  | some v =>
    have ended := endPulse_ended hr (by rw [hs]; nofun) hv
    refine ⟨ended.frame, endPulse_beds s b true, ⟨_, ended.run, Run.pulseEnded_done hs⟩, fun h => ?_, fun _ w hw => ?_,
      fun c hc => ?_, fun c q hc hq => ?_, fun c q hc hq own => ended.others c q hc hq fun hh hcv => ?_⟩
    · rcases h with h | h
      · exact absurd hs h
      · rw [hv] at h
        cases h
    · obtain rfl : v = w := Option.some.inj (hv.symm.trans hw)
      rw [ended.bedLive]
      simp
    · rw [ended.bedLive, getElem_set_other _ hc]
    · rw [endPulse_eq hr hv]
      exact (valveStop_granted v _).found c q (by rwa [findRun_pulseCredited_other hr hc])
    · exact hc (own hh c (mem_runBeds hq) b (mem_runBeds hr) v hcv hv)

/-! ## The removal -/

/-- The bed's balance after the removal of its run `r`: an ON one is credited, and the hold of 1800 s starts (05 R74, R79). -/
structure RemovedBalance (s : State) (b : Fin 24) (r : Run) (x : Option BedLive) : Prop where
  dry : r.state ≠ .on ∨ valveOf s b = none → x = s.bedLive[b].map fun l => { l with holdEnd := some (s.partTime + 1800) }
  wet : r.state = .on → ∀ v, valveOf s b = some v → x = s.bedLive[b].map fun l =>
    { BedLive.watered s b v (openSeconds s.partTime r) l with holdEnd := some (s.partTime + 1800) }

/-- The run `r` of the bed is removed: its bed is credited and in hold, a complete one sets RUN_DONE, and of the other runs only
those that wait for a grant, or are HELD by a valve shared with another, may have changed. -/
structure Removed (b : Fin 24) (r : Run) (s t : State) : Prop where
  frame : WaterFrame s t
  beds : runBeds t = (runBeds s).filter (· != b)
  balance : RemovedBalance s b r t.bedLive[b]
  lives : ∀ c : Fin 24, c ≠ b → t.bedLive[c] = s.bedLive[c]
  found : ∀ c q, c ≠ b → findRun s c = some q → ∃ q', findRun t c = some q' ∧ RunGranted s.locks.effective.isSome q q'
  kept : ∀ c q, c ≠ b → findRun s c = some q → q.state ≠ .queued → (q.state = .held → OwnValves s) → findRun t c = some q
  done : deliveredAtRemoval s r = r.planned → t.notice.isSet .runDone = true

/-- Once the pulse is over, a removal takes the record out and grants. -/
theorem PulseOver.removed {x : State} (h : PulseOver b r s x) : Removed b r s (dropRun b x) := by
  obtain ⟨r', hrun, delivered, planned⟩ := h.run
  have out := takeOut_runs x b r'
  have spared := dropRun_spares hrun
  have present : x.partTime = s.partTime := h.frame.partTime
  have bedLive : (dropRun b x).bedLive = x.bedLive.set b (x.bedLive[b].map fun l => { l with holdEnd := some (s.partTime + 1800) }) := by
    rw [spared.granted.bedLive, takeOut_bedLive, present]
  have locks : (takeOut b r' x).locks = s.locks := (takeOut_frame x b r').locks.trans h.frame.locks
  refine ⟨h.frame.trans (dropRun_frame x b), ?_, ⟨fun hs => ?_, fun hs v hv => ?_⟩, fun c hc => ?_, fun c q hc hq => ?_,
    fun c q hc hq hs own => ?_, fun hd => ?_⟩
  · rw [spared.granted.beds, runBeds, out, ← h.beds, runBeds, List.filter_map]
    rfl
  · rw [bedLive, h.dry hs]
    simp
  · rw [bedLive, h.wet hs v hv]
    simp [Function.comp_def]
  · rw [bedLive, getElem_set_other _ hc, h.lives c hc]
  · obtain ⟨p, hp, hqp⟩ := h.found c q hc hq
    obtain ⟨p', hp', hpp⟩ := spared.granted.found c p ((findRun_filter_other out hc).trans hp)
    rw [locks] at hpp
    exact ⟨p', hp', hqp.trans hpp⟩
  · refine spared.run c q ((findRun_filter_other out hc).trans (h.kept c q hc hq own)) hs fun hh => ?_
    refine (own hh).congr (fun d hd => ?_) ((takeOut_frame x b r').beds.trans h.frame.beds)
    rw [runBeds, out] at hd
    rw [← h.beds]
    exact (List.filter_sublist.map _).subset hd
  · simp only [dropRun, hrun]
    exact (pass_frame _).flags _ (takeOut_runDone (by rw [delivered, planned, hd]))

theorem removeRun_removed (hr : findRun s b = some r) : Removed b r s (removeRun b s) := by
  simp only [removeRun, hr]
  split
  next hs => exact (endPulse_over hr hs).removed
  next hs => exact (PulseOver.of_waiting hr hs).removed

/-- A run that is not ON is removed outside RUNNING without anything being examined. -/
theorem removeRun_stop (hs : s.seq.state ≠ .running) (h : ∀ q, findRun s b = some q → q.state ≠ .on) :
    (removeRun b s).work.stop = s.work.stop := by
  unfold removeRun
  cases hr : findRun s b with
  | none => rfl
  | some r =>
    have out : (takeOut b r s).seq.state ≠ .running := by rwa [(takeOut_frame s b r).field.march.state]
    simp only [h r hr, if_false, dropRun, hr]
    rw [pass_idle out]
    simp only [takeOut, setHoldEnd, onBed_eq]
    split <;> rfl

end

end Sys2Proof.Machine
end

section
/-! PROOF. RUN_STOP, RUN_STOP_ALL and RUN_ADJUST act on the runs they name (06 R96, R111 to R113). -/

namespace Sys2Proof.Machine

section
variable {s t : State} {b : Fin 24} {r : Run} {v : Fin 32}

/-! ## The valve of the run removed -/

theorem valveStop_of_opening (h : s.valveLive[v].state = .opening) : valveStop v s =
    if closeResult s v = .withdrawnUnsent then writeValve v { s.valveLive[v] with state := .closed, owner := none } (closeRequest v s)
    else writeValve v { s.valveLive[v] with state := .closing, owner := none, attempts := 0 } (closeRequest v s) := by
  simp only [valveStop, h]

/-- An open that never left the part is withdrawn, and its valve is CLOSED again (07 R126). -/
theorem valveStop_withdraws (h : s.valveLive[v].state = .opening) (hc : s.lcq.closes[v] = none) (hf : flying s v .openValve = false)
    (ho : ∃ m, s.lcq.openMarks v = some m ∧ m.sent = false) :
    (valveStop v s).valveLive[v] = { s.valveLive[v] with state := .closed, owner := none } ∧ commandWaits (valveStop v s) v = false := by
  obtain ⟨m, hm, hsent⟩ := ho
  have unsent : closeResult s v = .withdrawnUnsent := by simp [closeResult, hc, hm, hsent, hf]
  have dropped : closeRequest v s = dropOpen v s := by simp only [closeRequest, unsent]
  rw [valveStop_of_opening h, if_pos unsent]
  refine ⟨by rw [writeValve_valveLive]; simp, ?_⟩
  rw [commandWaits, writeValve_lcq, dropped, dropOpen_lcq, LineQueue.withoutOpen_openMarks_self]
  simp [LineQueue.withoutOpen, hc]

/-- Otherwise it is CLOSING, with a close waiting (07 R126). -/
theorem valveStop_closes (h : s.valveLive[v].state = .opening)
    (ho : flying s v .openValve = true ∨ s.lcq.openMarks v = none ∨ ∃ m, s.lcq.openMarks v = some m ∧ m.sent = true) :
    (valveStop v s).valveLive[v] = { s.valveLive[v] with state := .closing, owner := none, attempts := 0 } ∧
      (valveStop v s).lcq.closes[v].isSome = true := by
  have kept : s.lcq.closes[v].isSome = true ∨ closeResult s v = .placed := by
    cases hc : s.lcq.closes[v] with
    | some m => exact .inl rfl
    | none =>
      right
      cases hm : s.lcq.openMarks v with
      | none => simp [closeResult, hc, hm]
      | some m =>
        rcases ho with ho | ho | ⟨m', hm', hs⟩
        · simp [closeResult, hc, hm, ho]
        · rw [hm] at ho
          cases ho
        · rw [hm] at hm'
          cases hm'
          simp [closeResult, hc, hm, hs]
  have sent : closeResult s v ≠ .withdrawnUnsent := by
    rcases kept with k | k
    · obtain ⟨m, hm⟩ := Option.isSome_iff_exists.1 k
      simp [closeResult, hm]
    · rw [k]
      nofun
  rw [valveStop_of_opening h, if_neg sent]
  refine ⟨by rw [writeValve_valveLive]; simp, ?_⟩
  rw [writeValve_lcq]
  rcases kept with k | k
  · rw [closeRequest_kept s k, k]
  · simp only [closeRequest, k, setClose_lcq]
    rw [LineQueue.withClose_closes_self]
    rfl

/-- After the stop of its valve, the removal of a run leaves the valve where a grant could not open it. -/
theorem removeRun_valve (hr : findRun s b = some r) (hs : r.state = .on)
    (h : (endPulse b true s).valveLive[v].state ≠ .closed ∨ ∀ c ∈ runBeds s, c ≠ b → valveOf s c ≠ some v) :
    SameValve v (endPulse b true s) (removeRun b s) := by
  obtain ⟨q, hq, -⟩ := (endPulse_over hr hs).run
  have past := endPulse_over hr hs
  have moved := takeOut_moved b q (endPulse b true s)
  have out : SameValve v (endPulse b true s) (takeOut b q (endPulse b true s)) := .of_eq moved.live moved.lcq
  simp only [removeRun, hr, hs, if_true]
  refine out.trans ((dropRun_spares hq).valve v ?_)
  rw [moved.live]
  refine h.imp_right fun k c hc => ?_
  rw [runBeds, takeOut_runs] at hc
  obtain ⟨p, hp, rfl⟩ := List.mem_map.1 hc
  obtain ⟨hp, hne⟩ := List.mem_filter.1 hp
  unfold valveOf
  rw [(takeOut_frame _ b q).beds, past.frame.beds]
  refine k p.bed ?_ (by simpa using hne)
  rw [← past.beds]
  exact List.mem_map_of_mem hp

/-! ## RUN_STOP -/

theorem removeRun_unexamined (hr : findRun s b = some r) (hw : WorkLaw s) (hs : s.seq.state = .stopping → r.state ≠ .on) :
    Unexamined (removeRun b s) := by
  by_cases k : s.seq.state = .stopping
  · have waiting (q : Run) (hq : findRun s b = some q) : q.state ≠ .on := by
      rw [hr] at hq
      cases hq
      exact hs k
    exact .inr ((removeRun_stop (by rw [k]; nofun) waiting).trans (by rw [hw]))
  · exact .inl (by rwa [(removeRun_frame s b).field.march.state])

theorem runStopRule_removes {body : List Byte} (hb : bedRef (get1 body 0) = some b) (hr : findRun s b = some r) :
    runStopRule body s = { state := removeRun b s, result := .ok, body := fun _ => put2 (deliveredAtRemoval s r) } := by
  simp only [runStopRule, hb, hr]

/-- The state that RUN_STOP leaves, its answer ready: the removal stands, and grants alone have followed. -/
theorem runStop_answered {u : State} (hr : findRun u b = some r) (hd : NoSwapDue u) (hw : WorkLaw u)
    (hs : u.seq.state = .stopping → r.state ≠ .on) (body : State → List Byte) :
    let t := answerRuling 0x0C { state := removeRun b u, result := .ok, body := body }
    OnlyWaterChanges u t ∧ Spared (removeRun b u) t ∧
      (deliveredAtRemoval u r = r.planned → t.notice.isSet .runDone = true) := by
  have examined := removeRun_unexamined hr hw hs
  have removed := removeRun_removed hr
  exact ⟨answerRuling_waters removed.frame hd examined,
    answerRuling_spares (r := { state := removeRun b u, result := .ok, body := body }) (removed.frame.field.line.noSwapDue hd) examined,
    fun h => answerRuling_flags (removed.done h)⟩

/-- The open valve of a run that RUN_STOP ends is CLOSING without owner. -/
theorem removeRun_opened (hr : findRun s b = some r) (hs : r.state = .on) (hv : valveOf s b = some v)
    (ho : s.valveLive[v].state = .opened) (k : Spared (removeRun b s) t) :
    t.valveLive[v] = { s.valveLive[v] with state := .closing, owner := none, attempts := 0 } := by
  obtain ⟨closing, -⟩ := endPulse_closing hr hv ho
  have same := removeRun_valve hr hs (v := v) (.inl (by rw [closing]; nofun))
  rw [(k.valve v (.inl (by rw [same.live, closing]; nofun))).live, same.live, closing]

/-- The valve that a run to be removed was opening is CLOSED where its open never left the part, and no other run may open it. -/
theorem removeRun_withdraws (hr : findRun s b = some r) (hs : r.state = .on) (hv : valveOf s b = some v)
    (ho : s.valveLive[v].state = .opening) (own : OwnValves s) (hc : s.lcq.closes[v] = none) (hf : flying s v .openValve = false)
    (hm : ∃ m, s.lcq.openMarks v = some m ∧ m.sent = false) (k : Spared (removeRun b s) t) :
    t.valveLive[v] = { s.valveLive[v] with state := .closed, owner := none } ∧ commandWaits t v = false := by
  obtain ⟨closed, waits⟩ := valveStop_withdraws (s := pulseCredited b r v s) ho hc hf hm
  rw [← endPulse_eq hr hv] at closed waits
  have unnamed : ∀ c ∈ runBeds s, c ≠ b → valveOf s c ≠ some v := fun c hc hne hcv => hne (own c hc b (mem_runBeds hr) v hcv hv)
  have first := removeRun_valve hr hs (.inr unnamed)
  have second := k.valve v (.inr fun c hc => by
    have removed := removeRun_removed hr
    rw [removed.beds, List.mem_filter] at hc
    unfold valveOf
    rw [removed.frame.beds]
    exact unnamed c hc.1 (by simpa using hc.2))
  have same := first.trans second
  exact ⟨same.live.trans closed, by rw [commandWaits, same.close, same.opens]; exact waits⟩

/-- Otherwise it is CLOSING with a close waiting. -/
theorem removeRun_closes (hr : findRun s b = some r) (hs : r.state = .on) (hv : valveOf s b = some v)
    (ho : s.valveLive[v].state = .opening)
    (hm : flying s v .openValve = true ∨ s.lcq.openMarks v = none ∨ ∃ m, s.lcq.openMarks v = some m ∧ m.sent = true)
    (k : Spared (removeRun b s) t) :
    t.valveLive[v] = { s.valveLive[v] with state := .closing, owner := none, attempts := 0 } ∧ t.lcq.closes[v].isSome = true := by
  obtain ⟨closing, waits⟩ := valveStop_closes (s := pulseCredited b r v s) ho hm
  rw [← endPulse_eq hr hv] at closing waits
  have first := removeRun_valve hr hs (v := v) (.inl (by rw [closing]; nofun))
  have same := first.trans (k.valve v (.inl (by rw [first.live, closing]; nofun)))
  exact ⟨same.live.trans closing, by rw [same.close]; exact waits⟩

end

end Sys2Proof.Machine
end

section
/-! SUPPORT. Every run removed, one after the other (06 R112). -/

namespace Sys2Proof.Machine

section
variable {s t u : State} {b : Fin 24} {p q r : Run}

/-- What removals of other runs may have made of the run `r` when its own turn comes: a waiting one may have been granted, one that
neither waits nor is HELD by a shared valve stands, and outside RUNNING none has gone ON. -/
structure RunAfter (s : State) (r r' : Run) : Prop where
  granted : RunGranted s.locks.effective.isSome r r'
  kept : r.state ≠ .queued → (r.state = .held → OwnValves s) → r' = r
  idle : s.seq.state ≠ .running → r'.state = .on → r.state = .on

theorem RunAfter.refl (s : State) (r : Run) : RunAfter s r r := ⟨.refl _ r, fun _ _ => rfl, fun _ h => h⟩

theorem RunAfter.trans (h : RunAfter s p q) (locks : t.locks = s.locks) (state : t.seq.state = s.seq.state)
    (own : OwnValves s → OwnValves t) (k : RunAfter t q r) : RunAfter s p r where
  granted := h.granted.trans (locks ▸ k.granted)
  kept hq hh := by
    have same := h.kept hq hh
    subst same
    exact k.kept hq fun e => own (hh e)
  idle hs hr := h.idle hs (k.idle (by rwa [state]) hr)

/-- The removal's effect on its bed is told from any state with the same balance and the same tables. -/
theorem RemovedBalance.congr {x : Option BedLive} (h : RemovedBalance t b r x) (frame : WaterFrame s t)
    (live : t.bedLive[b] = s.bedLive[b]) : RemovedBalance s b r x := by
  have watered (v : Fin 32) (n : Nat) : BedLive.watered t b v n = BedLive.watered s b v n := by
    funext l
    simp only [BedLive.watered, flowOf, effectiveRate, frame.valves, frame.beds, frame.weather, frame.partTime]
  have named : valveOf t b = valveOf s b := by rw [valveOf, frame.beds, valveOf]
  obtain ⟨dry, wet⟩ := h
  rw [live, frame.partTime, named] at dry
  rw [live, frame.partTime, named] at wet
  exact ⟨dry, by simpa only [watered] using wet⟩

/-- The runs of the beds are removed in turn. -/
structure AllRemoved (bs : List (Fin 24)) (s t : State) : Prop where
  frame : WaterFrame s t
  beds : runBeds t = (runBeds s).filter fun b => decide (b ∉ bs)
  balances : ∀ b ∈ bs, ∀ r, findRun s b = some r → ∃ r', RunAfter s r r' ∧ RemovedBalance s b r' t.bedLive[b]
  lives : ∀ b : Fin 24, b ∉ bs → t.bedLive[b] = s.bedLive[b]

theorem foldl_removeRun (bs : List (Fin 24)) (hn : bs.Nodup) (hbs : ∀ b ∈ bs, b ∈ runBeds s) (hq : QueueLaw s) :
    AllRemoved bs s (bs.foldl (fun t b => removeRun b t) s) := by
  induction bs generalizing s with
  | nil => exact ⟨.refl s, by simp, fun _ h => absurd h List.not_mem_nil, fun _ _ => rfl⟩
  | cons b bs ih =>
    obtain ⟨hb, hn⟩ := List.nodup_cons.1 hn
    obtain ⟨p, hp⟩ : ∃ p, findRun s b = some p := by
      refine Option.ne_none_iff_exists'.1 fun e => ?_
      obtain ⟨p, hp, e'⟩ := List.mem_map.1 (hbs b (by simp))
      exact (findRun_eq_none s b).1 e p hp e'
    have removed := removeRun_removed hp
    have own : OwnValves s → OwnValves (removeRun b s) := fun k =>
      k.congr (fun c hc => by rw [removed.beds] at hc; exact (List.mem_filter.1 hc).1) removed.frame.beds
    have hq' : QueueLaw (removeRun b s) := by
      show (runBeds (removeRun b s)).Nodup
      rw [removed.beds]
      exact List.Nodup.filter _ hq
    have turn (c : Fin 24) (hc : c ≠ b) (r : Run) (hr : findRun s c = some r) :
        ∃ r', findRun (removeRun b s) c = some r' ∧ RunAfter s r r' := by
      obtain ⟨r', hr', granted⟩ := removed.found c r hc hr
      refine ⟨r', hr', granted, fun hs hh => ?_, fun hs hon => ?_⟩
      · rw [removed.kept c r hc hr hs hh] at hr'
        exact (Option.some.inj hr').symm
      · obtain ⟨hm, hb'⟩ := findRun_mem _ hr'
        obtain ⟨x, hx, hxb, hxs⟩ := (removeRun_move (c := .valves) s b fun _ => trivial).on hs r' hm hon
        have same := (findRun_iff_mem hq).2 ⟨hx, hxb.trans hb'⟩
        rw [hr] at same
        cases same
        exact hxs
    obtain ⟨frame, beds, balances, lives⟩ := ih (s := removeRun b s) hn (fun c hc => by
      rw [removed.beds, List.mem_filter]
      refine ⟨hbs c (List.mem_cons_of_mem b hc), ?_⟩
      simp only [bne_iff_ne, ne_eq]
      rintro rfl
      exact hb hc) hq'
    refine ⟨removed.frame.trans frame, ?_, fun c hc r hr => ?_, fun c hc => ?_⟩
    · rw [List.foldl_cons, beds, removed.beds, List.filter_filter]
      refine List.filter_congr fun c _ => ?_
      by_cases e : c = b <;> simp [e]
    · by_cases e : c = b
      · subst e
        rw [hp] at hr
        cases hr
        exact ⟨p, .refl s p, by rw [List.foldl_cons, lives c hb]; exact removed.balance⟩
      · obtain ⟨r', hr', first⟩ := turn c e r hr
        obtain ⟨r'', second, balance⟩ := balances c ((List.mem_cons.1 hc).resolve_left e) r' hr'
        exact ⟨r'', first.trans removed.frame.locks removed.frame.field.march.state own second,
          balance.congr removed.frame (removed.lives c e)⟩
    · obtain ⟨e, hc⟩ := List.ne_and_not_mem_of_not_mem_cons hc
      rw [List.foldl_cons, lives c hc, removed.lives c e]

/-- Removals of runs that are not ON examine nothing outside RUNNING. -/
theorem foldl_removeRun_stop (bs : List (Fin 24)) (hs : s.seq.state ≠ .running) (h : ∀ q ∈ s.runs, q.state ≠ .on) :
    (bs.foldl (fun t b => removeRun b t) s).work.stop = s.work.stop := by
  induction bs generalizing s with
  | nil => rfl
  | cons b bs ih =>
    have move := removeRun_move (c := .valves) s b fun _ => trivial
    rw [List.foldl_cons, ih (by rwa [move.seqState]) ((move.on hs).none_on h)]
    exact removeRun_stop hs fun q hq => h q (findRun_mem s hq).1

/-- RUN_STOP_ALL empties the queue. -/
theorem removeAll_removed (hq : QueueLaw s) : AllRemoved (runBeds s) s ((runBeds s).foldl (fun t b => removeRun b t) s) ∧
    ((runBeds s).foldl (fun t b => removeRun b t) s).runs = [] := by
  have all := foldl_removeRun (runBeds s) hq (fun _ h => h) hq
  refine ⟨all, List.map_eq_nil_iff.1 (all.beds.trans (List.filter_eq_nil_iff.2 fun b hb => ?_))⟩
  simpa using hb

theorem removeAll_unexamined (hw : WorkLaw s) (hs : s.seq.state = .stopping → bedsOn s = []) (hq : QueueLaw s) :
    Unexamined ((runBeds s).foldl (fun t b => removeRun b t) s) := by
  by_cases k : s.seq.state = .stopping
  · refine .inr ((foldl_removeRun_stop _ (by rw [k]; nofun) ((bedsOn_eq_nil_iff s).1 (hs k))).trans ?_)
    rw [hw]
  · exact .inl (by rwa [(removeAll_removed hq).1.frame.field.march.state])

end

end Sys2Proof.Machine
end

section
/-! PROOF. RUN_STOP, RUN_STOP_ALL and RUN_ADJUST, answered (06 R96, R111 to R113). -/

namespace Sys2Proof.Machine

/-- The open seconds of 06 R102, with the expiry as their latest end (log 24). -/
theorem openSeconds_eq (now : Nat) (r : Run) : openSeconds now r = match r.pulseStart, r.expiry with
    | none, _ => 0
    | some p, none => now - p
    | some p, some e => (if now ≤ e then now else e) - p := by
  unfold openSeconds
  cases r.pulseStart <;> cases r.expiry <;> simp only [Nat.min_def]

/-- The pair of pulse and soak is in its ranges (06 R113). -/
theorem planOk_iff (p k : Nat) : planOk p k = true ↔ (p = 0 ∨ 60 ≤ p ∧ p ≤ 3600) ∧ 60 ≤ k ∧ k ≤ 7200 := by
  simp [planOk]

/-- Settles O33: a removal stands as `Removed` says and grants alone follow it; RUN_STOP_ALL is removals in turn, and RUN_ADJUST one
run put back. -/
theorem runsAreStoppedAndAdjusted : Obligations.RunsAreStoppedAndAdjusted := by
  unfold Obligations.RunsAreStoppedAndAdjusted
  intro openFor ended
  have seconds (s : State) (r : Run) : openFor s r = openSeconds s.partTime r := (openSeconds_eq s.partTime r).symm
  refine ⟨fun i s htake hrest => ?_, fun s htake hrest hd hq hstop => ?_, fun i plo phi klo khi s => ?_⟩
  · have refusal (r : Result) (h : runStopRule [i] (atHead { kind := 0x0C, body := [i] } s) =
        refuse r (atHead { kind := 0x0C, body := [i] } s)) : exec (.runStop [i]) s = .next (answered 0x0C r [] [i] s) :=
      congrArg Host.Outcome.next (takeRequest_refused 0x0C (fun n => n == 1) runStopRule [i] s r htake rfl hrest h)
    refine ⟨fun hi => refusal _ ?_, fun b hi => ⟨fun hn => refusal _ ?_, fun r l hr hl hd hq hstop => ?_⟩⟩
    · simp only [runStopRule, get1_cons_zero, bedRef_eq_none hi]
    · rw [atHead_eq]
      have hn' (p : HubPort) : findRun (s.setHub p) b = none := hn
      simp only [runStopRule, get1_cons_zero, bedRef_eq_some hi, hn']
    · intro done
      have hb : bedRef (get1 [i] 0) = some b := bedRef_eq_some hi
      have taken : exec (.runStop [i]) s = .next (answerRuling 0x0C (runStopRule [i] (atHead { kind := 0x0C, body := [i] } s))) :=
        congrArg Host.Outcome.next (takeRequest_taken 0x0C (fun n => n == 1) runStopRule [i] s htake rfl)
      have hdone : deliveredAtRemoval s r = done := by
        show _ = if r.state = .on then r.delivered + openFor s r else r.delivered
        rw [seconds]
        rfl
      have hd' := atHead_noSwapDue { kind := 0x0C, body := [i] } hd
      have free := htx_ne_answer_of_canTake htake
      have headed := HubPort.headed_htx { kind := 0x0C, body := [i] } s.hub
      have only (t : State) : OnlyWaterChanges (atHead { kind := 0x0C, body := [i] } s) t → OnlyWaterChanges s t := .of_atHead
      rw [atHead_eq] at taken hd' only
      generalize s.hub.headed { kind := 0x0C, body := [i] } = p at *
      have hr' : findRun (s.setHub p) b = some r := hr
      rw [runStopRule_removes hb hr'] at taken
      obtain ⟨waters, spared, flag⟩ := runStop_answered hr' hd' hrest.1 hstop fun _ => put2 (deliveredAtRemoval (s.setHub p) r)
      have removed := removeRun_removed hr'
      refine ⟨_, taken, only _ waters, ?_, ?_, fun hs => ?_, fun hs v hv => ?_, fun c hc => ?_, fun h => flag (hdone.trans h),
        fun hs v hv ho => ?_, fun hs v hv ho htab hbed => ⟨fun hc hf hm => ?_, fun hm => ?_⟩, fun q hqm hqb hqs hqh => ?_⟩
      · refine (answerOf_answerRuling _ fun g => ?_).trans ?_
        · show (removeRun b (s.setHub p)).hub.htx ≠ _
          rw [removed.frame.hub]
          exact headed ▸ free g
        · rw [← hdone]
          rfl
      · rw [spared.granted.findRun_none, findRun_eq_none]
        intro q hqm hqb
        have named : b ∈ runBeds (removeRun b (s.setHub p)) := List.mem_map.2 ⟨q, hqm, hqb⟩
        rw [removed.beds, List.mem_filter] at named
        simpa using named.2
      · rw [spared.granted.bedLive, removed.balance.dry (.inl hs)]
        show s.bedLive[b].map _ = _
        rw [hl]
        rfl
      · rw [spared.granted.bedLive, removed.balance.wet hs v hv, seconds]
        show s.bedLive[b].map _ = _
        rw [hl]
        rfl
      · rw [spared.granted.bedLive, removed.lives c hc]
        rfl
      · have closing := removeRun_opened hr' hs hv ho spared
        exact ⟨by rw [closing], by rw [closing]⟩
      · exact removeRun_withdraws (s := s.setHub p) hr' hs hv ho (.of_laws htab hbed) hc hf hm spared
      · exact removeRun_closes (s := s.setHub p) hr' hs hv ho hm spared
      · have found := removed.kept q.bed q hqb ((findRun_iff_mem hq).2 ⟨hqm, rfl⟩) hqs fun e => absurd e hqh
        exact (findRun_mem _ (spared.run q.bed q found hqs fun e => absurd e hqh)).1
  · have taken : exec (.runStopAll []) s = .next (answerRuling 0x0D (runStopAllRule [] (atHead { kind := 0x0D, body := [] } s))) :=
      congrArg Host.Outcome.next (takeRequest_taken 0x0D (fun n => n == 0) runStopAllRule [] s htake rfl)
    have hd' := atHead_noSwapDue { kind := 0x0D, body := [] } hd
    have free := htx_ne_answer_of_canTake htake
    have headed := HubPort.headed_htx { kind := 0x0D, body := [] } s.hub
    have only (t : State) : OnlyWaterChanges (atHead { kind := 0x0D, body := [] } s) t → OnlyWaterChanges s t := .of_atHead
    rw [atHead_eq] at taken hd' only
    generalize s.hub.headed { kind := 0x0D, body := [] } = p at *
    have hq' : QueueLaw (s.setHub p) := hq
    obtain ⟨all, empty⟩ := removeAll_removed hq'
    have examined := removeAll_unexamined (s := s.setHub p) hrest.1 hstop hq
    have spared := answerRuling_spares (kind := 0x0D) (r := runStopAllRule [] (s.setHub p)) (all.frame.field.line.noSwapDue hd') examined
    refine ⟨_, taken, only _ (answerRuling_waters all.frame hd' examined), ?_, ?_, fun r hr l hl => ?_⟩
    · refine List.map_eq_nil_iff.1 (spared.granted.beds.trans ?_)
      exact congrArg (List.map _) empty
    · refine answerOf_answerRuling _ fun g => ?_
      show (List.foldl (fun t b => removeRun b t) (s.setHub p) (runBeds (s.setHub p))).hub.htx ≠ _
      rw [all.frame.hub]
      exact headed ▸ free g
    · obtain ⟨r', after, balance⟩ := all.balances r.bed (List.mem_map_of_mem hr) r ((findRun_iff_mem hq').2 ⟨hr, rfl⟩)
      have live : (answerRuling 0x0D (runStopAllRule [] (s.setHub p))).bedLive = _ := spared.granted.bedLive
      have open_ : openSeconds s.partTime r' = openSeconds s.partTime r := by rw [after.granted.same]; rfl
      have dry (h : r'.state ≠ .on ∨ valveOf s r.bed = none) : (answerRuling 0x0D (runStopAllRule [] (s.setHub p))).bedLive[r.bed] =
          some { l with holdEnd := some (s.partTime + 1800) } := by
        rw [live]
        refine (balance.dry h).trans ?_
        show s.bedLive[r.bed].map _ = _
        rw [hl]
        rfl
      have wet (h : r'.state = .on) (v : Fin 32) (hv : valveOf s r.bed = some v) :
          (answerRuling 0x0D (runStopAllRule [] (s.setHub p))).bedLive[r.bed] = some (ended s r.bed v (openFor s r) l) := by
        rw [live, seconds, ← open_]
        refine (balance.wet h v hv).trans ?_
        show s.bedLive[r.bed].map _ = _
        rw [hl]
        rfl
      refine ⟨fun hs v hv => ?_, fun hs hx => dry (.inl ?_), fun hs => ?_⟩
      · exact wet (by rw [after.kept (by rw [hs]; nofun) (by rw [hs]; nofun), hs]) v hv
      · rcases hx with hx | hx | ⟨hx, htab, hbed⟩
        · rw [after.kept (by rw [hx]; nofun) (by rw [hx]; nofun)]
          exact hs
        · exact fun k => hs (after.idle hx k)
        · rw [after.kept (by rw [hx]; nofun) fun _ => OwnValves.of_laws (s := s.setHub p) htab hbed]
          exact hs
      · by_cases k : r'.state = .on
        · cases hv : valveOf s r.bed with
          | none => exact .inl (dry (.inr hv))
          | some v => exact .inr ⟨v, rfl, wet k v hv⟩
        · exact .inl (dry (.inl k))
  · intro body pulse soak htake hrest
    have refusal (r : Result) (h : runAdjustRule body (atHead { kind := 0x0E, body := body } s) =
        refuse r (atHead { kind := 0x0E, body := body } s)) : exec (.runAdjust body) s = .next (answered 0x0E r [] body s) :=
      congrArg Host.Outcome.next (takeRequest_refused 0x0E (fun n => n == 5) runAdjustRule body s r htake rfl hrest h)
    refine ⟨fun hi => refusal _ ?_, fun b hi => ⟨fun hp => refusal _ ?_, fun hp => ⟨fun hn => refusal _ ?_, fun r hr => ?_⟩⟩⟩
    · have hb : bedRef (get1 body 0) = none := bedRef_eq_none hi
      simp only [runAdjustRule, hb]
    · have hb : bedRef (get1 body 0) = some b := bedRef_eq_some hi
      have bad : planOk (get2 body 1) (get2 body 3) = false := Bool.eq_false_iff.2 fun k => hp ((planOk_iff _ _).1 k)
      simp only [runAdjustRule, hb, bad, if_true]
    · have hb : bedRef (get1 body 0) = some b := bedRef_eq_some hi
      have good : planOk (get2 body 1) (get2 body 3) = true := (planOk_iff _ _).2 hp
      have hn' (p : HubPort) : findRun (s.setHub p) b = none := hn
      rw [atHead_eq]
      simp only [runAdjustRule, hb, good, hn', if_false, Bool.true_eq_false]
    · have hb : bedRef (get1 body 0) = some b := bedRef_eq_some hi
      have good : planOk (get2 body 1) (get2 body 3) = true := (planOk_iff _ _).2 hp
      have hr' (p : HubPort) : findRun (s.setHub p) b = some r := hr
      have ruled : runAdjustRule body (atHead { kind := 0x0E, body := body } s) =
          accept (atHead { kind := 0x0E, body := body } (putRun s (r.adjust (get2 body 1) (get2 body 3)))) := by
        rw [atHead_eq, atHead_eq]
        simp only [runAdjustRule, hb, good, hr', if_false, Bool.true_eq_false]
        rfl
      have rested : Rested (putRun s (r.adjust (get2 body 1) (get2 body 3))) := hrest
      exact congrArg Host.Outcome.next (takeRequest_settled htake rfl ruled (settle_rested (atHead_rested _ _ rested)))

end Sys2Proof.Machine
end

section
/-! SUPPORT. The effective lock recomputed and the end of its step, in STOPPING too (08 R148 to R150). -/

namespace Sys2Proof.Machine

section
variable {s t : State}

/-! ## The end of a step -/

/-- `t` is what the end of a step makes of `s`, up to the upstream half of the port and the notice owed. -/
def StepEnd (s t : State) : Prop := ∃ (h : HubPort) (b : Bool), t = { settle s with hub := h, notice := { (settle s).notice with pending := b } }

theorem complete_stepEnd (s : State) : StepEnd s (complete s) := ⟨_, _, arbitrate_eq (settle s)⟩

theorem answerRuling_stepEnd (kind : Byte) (r : Ruling) : StepEnd r.state (answerRuling kind r) := answerRuling_eq kind r

namespace StepEnd

/-- With no entry SWAP_DUE the end of a step grants, releases and withdraws, in STOPPING too. -/
theorem granted (h : StepEnd s t) (hd : NoSwapDue s) : Granted s t := by
  obtain ⟨p, b, rfl⟩ := h
  have turns : Granted s (settleTurns 1024 s) :=
    settleTurns_induction (P := Granted s) (fun t _ h => h.trans (examineStop_granted t)) (fun t _ h => h.trans (pass_granted t))
      (fun t w h => h.trans (setWork_granted t w)) 1024 hd (.refl s)
  exact turns.trans (.of_eq rfl rfl rfl rfl (.of_monitor rfl rfl))

theorem flags (h : StepEnd s t) {f : Flag} (hf : s.notice.isSet f = true) : t.notice.isSet f = true := by
  obtain ⟨p, b, rfl⟩ := h
  exact (settle_settle s).flags f hf

theorem lockRecs (h : StepEnd s t) (hd : NoSwapDue s) : t.lockRecs = s.lockRecs := by
  obtain ⟨p, b, rfl⟩ := h
  have turns : LineFrame s (settleTurns 1024 s) :=
    settleTurns_induction (P := LineFrame s) (fun t _ h => h.trans (examineStop_line t))
      (fun t _ h => h.trans (pass_frame t).field.line) (fun t w h => h.trans (setWork_frame t w).field.line) 1024 hd (.refl s)
  exact turns.lockRecs

theorem onset {m : LockMode} {i : LockTiming} (h : StepEnd s t) (k : Onset m i s) (hd : NoSwapDue s) : Onset m i t := by
  obtain ⟨p, b, rfl⟩ := h
  have turns : Onset m i (settleTurns 1024 s) := by
    refine settleTurns_induction (fun t _ k => k.granted (examineStop_granted t) (examineStop_on t)) (fun t _ k => ?_)
      (fun t _ k => k.of_runs rfl rfl) 1024 hd k
    rwa [pass_closed (passOpen_locked k.locked)]
  exact turns.of_runs rfl rfl

theorem runs (h : StepEnd s t) (hw : WorkLaw s) : t.runs = s.runs := by
  obtain ⟨p, b, rfl⟩ := h
  show (settle s).runs = _
  rw [settle_workless hw]
  rfl

end StepEnd

/-! ## The lock recomputed -/

/-- A rise of the lock has acted once it is recomputed. -/
theorem recomputeLock_onset {m : LockMode} {i : LockTiming} (hs : composeLock (termsInForce s) = some (m, i))
    (hr : lockRises s.locks.effective (some (m, i)) = true) : Onset m i (recomputeLock s) := by
  have moved : composeLock (termsInForce s) ≠ s.locks.effective := fun e => by
    rw [← hs, e, lockRises_self] at hr
    cases hr
  obtain ⟨locks, -⟩ := recomputeLock_locks s
  have locked : (relocked s).locks.effective ≠ none := by
    show composeLock (termsInForce s) ≠ none
    rw [hs]
    nofun
  obtain ⟨off, only⟩ := lockOnset_runs (m := m) (i := i) locked
  rw [← recomputeLock_risen moved hs hr] at off only
  exact ⟨by rw [locks]; exact hs, off, only⟩

/-- The Lock Unit's work and the end of its step, whatever the sequencer's state (08 R148 to R150). -/
theorem StepEnd.lockMoved (h : StepEnd (recomputeLock s) t) (hq : QueueLaw s) (hd : NoSwapDue s) (hw : WorkLaw s) : LockMoved s t := by
  obtain ⟨hlocks, hflag⟩ := recomputeLock_locks s
  have hd' := (recomputeLock_field s).line.noSwapDue hd
  have granted := h.granted hd'
  have hl : t.locks = { s.locks with effective := composeLock (termsInForce s) } := granted.locks.trans hlocks
  have heff : t.locks.effective = composeLock (termsInForce s) := by rw [hl]
  have hcompose : composeLock (termsInForce t) = composeLock (termsInForce s) := by
    rw [termsInForce_congr (by rw [hl]) ((h.lockRecs hd').trans (recomputeLock_field s).lockRecs)]
  refine ⟨heff.trans hcompose.symm, fun k => h.flags (hflag (by rwa [← heff])), fun m i hs hr => ?_, fun hne hn hr => ?_,
    fun hs hn => ?_⟩
  all_goals rw [heff] at *
  · obtain ⟨-, off, only⟩ := h.onset (recomputeLock_onset hs hr) hd'
    exact ⟨fun hi => (bedsOn_eq_nil_iff t).2 (off hi), only⟩
  · obtain ⟨⟨m, i⟩, hs⟩ := Option.ne_none_iff_exists'.1 hn
    rw [hs] at hr
    rw [recomputeLock_eased hne hs hr] at h
    exact h.runs hw
  · have hne : composeLock (termsInForce s) ≠ s.locks.effective := fun e => hs (by rw [← e, hn])
    obtain ⟨hheld, hmade⟩ := lockLeaves_facts (s := relocked s) hq hn
    rw [recomputeLock_left hne hn] at granted
    refine ⟨fun r hr hh => ?_, ?_⟩
    · obtain ⟨p, hp, hg⟩ := granted.runs r hr
      obtain ⟨hph, hpr⟩ := hg.held hh
      rcases hpr with f | f
      · rw [f]
        exact hheld p hp hph
      · rw [f, (lockLeaves_frame_relocked _).locks]
        show (composeLock (termsInForce s)).isSome = false
        rw [hn]
        rfl
    · rw [hl]
      exact (hmade.granted granted).view (fun _ _ _ k => k) fun _ _ => Iff.rfl

/-- But for the lock itself, a lock recomputed only waters. -/
theorem recomputeLock_frame (s : State) : WaterFrame { s with locks := (recomputeLock s).locks } (recomputeLock s) := by
  obtain ⟨locks, -⟩ := recomputeLock_locks s
  have flagged : WaterFrame { s with locks := { s.locks with effective := composeLock (termsInForce s) } } (relocked s) :=
    setFlag_frame { s with locks := { s.locks with effective := composeLock (termsInForce s) } } .lockChange
  rw [locks]
  by_cases h : composeLock (termsInForce s) = s.locks.effective
  · rw [recomputeLock_same h, h]
    exact .refl s
  · cases hn : composeLock (termsInForce s) with
    | none =>
      rw [hn] at flagged
      rw [recomputeLock_left h hn]
      exact flagged.trans (lockLeaves_frame_relocked _)
    | some e =>
      obtain ⟨m, i⟩ := e
      rw [hn] at flagged
      cases hr : lockRises s.locks.effective (some (m, i)) with
      | true =>
        rw [recomputeLock_risen h hn hr]
        exact flagged.trans (lockOnset_frame _ _ _)
      | false =>
        rw [recomputeLock_eased h hn hr]
        exact flagged

end

end Sys2Proof.Machine
end

section
/-! PROOF. LOCK_SET, LOCK_CLEAR, RAIN_HOLD_EXPIRY and CONTACT_STABLE move their one condition, and the effective lock follows (08 R143
to R150, 09 R156). -/

namespace Sys2Proof.Machine

section
variable {s t w : State}

/-- A condition set, and the end of its step: `w` is the state with the condition put, its lock not yet recomputed. -/
theorem setCondition_moves {x : Source} {b : Bool} (hl : LockLaw s) (hq : QueueLaw s) (hd : NoSwapDue s) (hw : WorkLaw s)
    (h : StepEnd (setCondition x b s) t) : LockMoved s t ∧
      t.locks = { s.locks with cond := s.locks.cond.put x b, effective := t.locks.effective } ∧
      t.locks = (setCondition x b s).locks ∧ MonitorKept s t := by
  have hd' := (setCondition_field s x b).line.noSwapDue hd
  have granted := h.granted hd'
  refine ⟨?_, ?_, granted.locks, (setCondition_monitor s x b).trans granted.monitor⟩
  · rw [setCondition_eq hl] at h
    exact (h.lockMoved hq hd hw).view rfl rfl rfl rfl rfl rfl
  · rw [granted.locks, setCondition_locks]

/-- But for the lock it only waters. -/
theorem setCondition_frame (hl : LockLaw s) (x : Source) (b : Bool) :
    WaterFrame { s with locks := (setCondition x b s).locks } (setCondition x b s) := by
  rw [setCondition_eq hl]
  exact recomputeLock_frame (s.setLocks { s.locks with cond := s.locks.cond.put x b })

theorem setCondition_completed (hl : LockLaw s) (hd : NoSwapDue s) (hs : s.seq.state ≠ .stopping) (x : Source) (b : Bool) :
    OnlyWaterChanges { s with locks := (complete (setCondition x b s)).locks } (complete (setCondition x b s)) := by
  have hd' := (setCondition_field s x b).line.noSwapDue hd
  rw [((complete_stepEnd _).granted hd').locks]
  exact (setCondition_frame hl x b).completed hd (.inl hs)

/-- LOCK_SET and LOCK_CLEAR (08 R146). -/
theorem lockRule_moves (kind : Byte) (b : Bool) (hl : LockLaw s) (hq : QueueLaw s) (hr : Rested s) (hd : NoSwapDue s)
    (htake : Takes kind [] s) :
    let t := takeRequest kind (fun n => n == 0) (lockRule b) [] s
    LockMoved s t ∧ t.locks = { s.locks with cond := { s.locks.cond with hub := b }, effective := t.locks.effective } ∧
      answerOf t = some { kind := kind + 0x80, body := 0 :: lockBytes t } ∧
      (s.seq.state ≠ .stopping → OnlyWaterChanges { s with locks := t.locks } t) := by
  intro t
  have taken : t = answerRuling kind (lockRule b [] (atHead { kind := kind, body := [] } s)) :=
    takeRequest_taken kind (fun n => n == 0) (lockRule b) [] s htake rfl
  have ends : StepEnd (setCondition .hub b (atHead { kind := kind, body := [] } s)) t := taken ▸ answerRuling_stepEnd kind _
  have hd' := atHead_noSwapDue { kind := kind, body := [] } hd
  have free := htx_ne_answer_of_canTake htake
  have headed := HubPort.headed_htx { kind := kind, body := [] } s.hub
  have hl' : LockLaw (atHead { kind := kind, body := [] } s) := by rw [atHead_eq]; exact hl
  have hq' : QueueLaw (atHead { kind := kind, body := [] } s) := by rw [atHead_eq]; exact hq
  obtain ⟨moved, locks, same, -⟩ := setCondition_moves hl' hq' hd' (atHead_rested s _ hr).1 ends
  have only (x : LockUnit) : OnlyWaterChanges { atHead { kind := kind, body := [] } s with locks := x } t →
      OnlyWaterChanges { s with locks := x } t := by
    have swapped : ({ atHead { kind := kind, body := [] } s with locks := x } : State) =
        atHead { kind := kind, body := [] } { s with locks := x } := by
      rw [atHead_eq, atHead_eq]
      rfl
    rw [swapped]
    exact .of_atHead
  refine ⟨?_, ?_, ?_, fun hs => only _ ?_⟩
  · rw [atHead_eq] at moved
    exact moved.view rfl rfl rfl rfl rfl rfl
  · rw [atHead_eq] at locks
    exact locks
  · obtain ⟨p, c, e⟩ := ends
    have bytes : lockBytes t = lockBytes (settle (setCondition .hub b (atHead { kind := kind, body := [] } s))) := by
      rw [e]
      rfl
    rw [bytes, taken]
    refine answerOf_answerRuling _ fun g => ?_
    show (setCondition .hub b (atHead { kind := kind, body := [] } s)).hub.htx ≠ _
    rw [(setCondition_field _ .hub b).hub, atHead_eq]
    show (s.hub.headed _).htx ≠ _
    rw [headed]
    exact free g
  · have frame := setCondition_frame hl' .hub b
    rw [same, taken]
    exact answerRuling_waters (r := lockRule b [] (atHead { kind := kind, body := [] } s)) frame hd' (.inl (by
      show (setCondition .hub b (atHead { kind := kind, body := [] } s)).seq.state ≠ _
      rw [(setCondition_field _ .hub b).march.state, atHead_eq]
      exact hs))

/-! ## A contact's stable level -/

/-- CONTACT_STABLE is due once its level has stood for 2 s, to the microsecond (09 R156). -/
theorem contactDue_iff (x : InputId) : contactDue s x = true ↔ s.supplyRec.active.action x = .rainContact ∧
    (s.monitor.input x).stable ≠ some (s.monitor.input x).level ∧
    (s.monitor.input x).since * 1000000 + (s.monitor.input x).sinceMicros.val + 2000000 ≤ s.partTime * 1000000 + s.micros.val := by
  have moment : (s.monitor.input x).changed + 2000000 ≤ s.now ↔ (s.monitor.input x).since * 1000000 +
      (s.monitor.input x).sinceMicros.val + 2000000 ≤ s.partTime * 1000000 + s.micros.val := Iff.rfl
  rw [← moment]
  simp only [contactDue, actionOf, Bool.and_eq_true, beq_iff_eq, bne_iff_ne, decide_eq_true_eq]
  exact and_assoc.trans (and_congr_right' and_comm)

/-- The stable level of one input written, the other's stands. -/
theorem SupplyMonitor.putInput_other {m : SupplyMonitor} {x y : InputId} {i : InputLive} (h : y ≠ x) :
    (m.putInput x i).input y = m.input y := by
  cases x <;> cases y
  · exact absurd rfl h
  · rfl
  · rfl
  · exact absurd rfl h

end

/-- Settles O41: each of the four commands is one condition set, and the end of its step keeps what the lock's move has made. -/
theorem lockCommandsMoveTheirCondition : Obligations.LockCommandsMoveTheirCondition := by
  intro x micros s hl hq hr hd
  refine ⟨fun htake => ⟨_, rfl, lockRule_moves 0x12 true hl hq hr hd htake⟩,
    fun htake => ⟨_, rfl, lockRule_moves 0x13 false hl hq hr hd htake⟩, fun e he hes => ?_, ?_⟩
  · have hdue : due s s.locks.rainHold = true := by simp [due, he, hes]
    generalize hu : s.setLocks { s.locks with rainHold := none } = u
    have hlu : LockLaw u := hu ▸ hl
    have hexec : exec .rainHoldExpiry s = .next (complete (setCondition .rainHold false u)) := by
      simp only [exec, execRainHoldExpiry, hdue, if_true, hu]
    obtain ⟨moved, locks, -, -⟩ := setCondition_moves hlu (hu ▸ hq) (hu ▸ hd) (hu ▸ hr.1) (complete_stepEnd (setCondition .rainHold false u))
    refine ⟨_, hexec, ?_, ?_, fun hs => ?_⟩
    · subst hu
      exact moved.view rfl rfl rfl rfl rfl rfl
    · subst hu
      exact locks
    · have k := setCondition_completed hlu (hu ▸ hd) (hu ▸ hs) .rainHold false
      subst hu
      exact k
  · intro present i steady
    have hdue : contactDue (advance micros s) x = true ↔ steady := contactDue_iff x
    refine ⟨fun h => ?_, fun h => ?_⟩
    · have notDue : contactDue (advance micros s) x = false := Bool.eq_false_iff.2 fun k => h (hdue.1 k)
      simp only [exec, execContactStable, notDue]
      rfl
    · generalize hu : (advance micros s).setMonitor ((advance micros s).monitor.putInput x { i with stable := some i.level }) = u
      have hexec : exec (.contactStable ⟨x, micros⟩) s = .next (complete (setCondition .rainContact (contactActive u) u)) := by
        simp only [exec, execContactStable, hdue.2 h, if_true, ← hu]
        rfl
      have hlu : LockLaw u := hu ▸ hl
      obtain ⟨moved, locks, -, kept⟩ := setCondition_moves hlu (hu ▸ hq) (hu ▸ hd) (hu ▸ hr.1)
        (complete_stepEnd (setCondition .rainContact (contactActive u) u))
      refine ⟨_, hexec, ?_, ?_, fun y hy => ?_, ?_, ?_, fun hs => ?_⟩
      · subst hu
        exact moved.view rfl rfl rfl rfl rfl rfl
      · rw [kept.input, ← hu, State.setMonitor_monitor, SupplyMonitor.putInput_input]
      · rw [kept.input, ← hu, State.setMonitor_monitor]
        exact SupplyMonitor.putInput_other hy
      · rw [locks, ← hu]
        rfl
      · have active : (complete (setCondition .rainContact (contactActive u) u)).locks.cond.rainContact = contactActive u := by rw [locks]; rfl
        simp only [active, kept.input, contactActive_iff]
        rw [← hu]
        rfl
      · have k := setCondition_completed hlu (hu ▸ hd) (hu ▸ hs) .rainContact (contactActive u)
        subst hu
        exact k

end Sys2Proof.Machine
end

section
/-! SUPPORT. Windows that open and close, taken bed by bed in any order: a bed that has not had its turn stands, but that its run may have
been granted meanwhile (06 R117 to R119). -/

namespace Sys2Proof.Machine

/-! ## One bed -/

/-- The run `r` stands as `q`: it may have been granted, released or marked to stop since, and an ON one is ON. -/
structure RunKept (r q : Run) : Prop where
  bed : q.bed = r.bed
  origin : q.origin = r.origin
  planned : q.planned = r.planned
  delivered : q.delivered = r.delivered
  on : r.state = .on → q.state = .on

theorem RunGranted.on {locked : Bool} {q p : Run} (k : RunGranted locked q p) (h : q.state = .on) : p.state = .on := by
  obtain ⟨-, hs⟩ := k.waiting (by rw [h]; nofun)
  rcases hs with e | ⟨-, e⟩
  · rw [e, h]
  · exact e

theorem RunKept.granted {locked : Bool} {r q p : Run} (h : RunKept r q) (k : RunGranted locked q p) : RunKept r p where
  bed := k.bed.trans h.bed
  origin := by rw [k.same]; exact h.origin
  planned := by rw [k.same]; exact h.planned
  delivered := by rw [k.same]; exact h.delivered
  on e := k.on (h.on e)

/-- Nothing has happened to the bed but what grants and release checks do to its run. -/
structure BedGranted (c : Fin 24) (t u : State) : Prop where
  live : u.bedLive[c] = t.bedLive[c]
  absent : findRun t c = none → findRun u c = none
  found : ∀ q, findRun t c = some q → ∃ p locked, findRun u c = some p ∧ RunGranted locked q p

/-- The bed has its balance and its run. -/
structure BedStands (s t : State) (c : Fin 24) : Prop where
  live : t.bedLive[c] = s.bedLive[c]
  run : ∀ r, findRun s c = some r → ∃ q, findRun t c = some q ∧ RunKept r q

/-- The bed's window has closed on its AUTO run: that is gone, or ON and ends with its pulse (06 R118). -/
structure BedClosed (s t : State) (c : Fin 24) : Prop where
  auto : ∃ r, findRun s c = some r ∧ r.origin = .auto
  on : ∀ r, findRun s c = some r → r.state = .on → ∃ q, findRun t c = some q ∧ RunKept r q
  stops : ∀ q, findRun t c = some q → q.state = .on ∧ q.stopAtPulseEnd = true

/-- The bed had no run and has got the one its demand check asks for (05 R83). -/
structure BedAsked (s t : State) (c : Fin 24) : Prop where
  live : t.bedLive[c] = s.bedLive[c]
  absent : findRun s c = none
  asked : ∀ l, s.bedLive[c] = some l → ∃ q, findRun t c = some q ∧ AskedRun s c l q

section
variable {s t u : State} {b c : Fin 24}

/-- Grants after a move that leaves the bed's balance and its run. -/
theorem Granted.bed_of_same {w : State} (k : Granted w u) (live : w.bedLive[c] = t.bedLive[c]) (run : findRun w c = findRun t c) :
    BedGranted c t u where
  live := by rw [k.bedLive, live]
  absent h := (k.findRun_none c).2 (run.trans h)
  found q hq := by
    obtain ⟨p, hp, g⟩ := k.found c q (run.trans hq)
    exact ⟨p, _, hp, g⟩

theorem mem_runBeds_iff : b ∈ runBeds s ↔ ∃ r, findRun s b = some r := by
  rw [← Option.ne_none_iff_exists', Ne, findRun_eq_none]
  simp [runBeds]

/-- A bed that asks has no run. -/
theorem Asks.absent {l : BedLive} (h : Asks s b l) : findRun s b = none := by
  obtain ⟨-, -, -, -, -, -, absent, -⟩ := h
  exact (findRun_eq_none s b).2 absent

/-- A bed that asks has its window open. -/
theorem Asks.window {l : BedLive} (h : Asks s b l) : s.clock.valid = true ∧ WindowOpen s.beds[b].active (s.clock.minute % 1440) := by
  obtain ⟨-, -, -, valid, window, -⟩ := h
  exact ⟨valid, window⟩

theorem Granted.bed (k : Granted t u) (c : Fin 24) : BedGranted c t u := k.bed_of_same rfl rfl

theorem BedStands.granted (h : BedStands s t c) (k : BedGranted c t u) : BedStands s u c where
  live := k.live.trans h.live
  run r hr := by
    obtain ⟨q, hq, kept⟩ := h.run r hr
    obtain ⟨p, x, hp, g⟩ := k.found q hq
    exact ⟨p, hp, kept.granted g⟩

theorem BedClosed.granted (h : BedClosed s t c) (k : BedGranted c t u) : BedClosed s u c where
  auto := h.auto
  on r hr ho := by
    obtain ⟨q, hq, kept⟩ := h.on r hr ho
    obtain ⟨p, x, hp, g⟩ := k.found q hq
    exact ⟨p, hp, kept.granted g⟩
  stops p hp := by
    cases hq : findRun t c with
    | none =>
      rw [k.absent hq] at hp
      cases hp
    | some q =>
      obtain ⟨p', x, hp', g⟩ := k.found q hq
      obtain rfl : p' = p := Option.some.inj (hp'.symm.trans hp)
      obtain ⟨ho, hs⟩ := h.stops q hq
      exact ⟨g.on ho, by rw [g.same]; exact hs⟩

theorem BedAsked.granted (h : BedAsked s t c) (k : BedGranted c t u) : BedAsked s u c where
  live := k.live.trans h.live
  absent := h.absent
  asked l hl := by
    obtain ⟨q, hq, ha⟩ := h.asked l hl
    obtain ⟨p, x, hp, g⟩ := k.found q hq
    exact ⟨p, hp, ha.granted g⟩

/-! ## A demand check -/

theorem demandCheck_view (b : Fin 24) (t : State) : DemandView t (demandCheck b t) := by
  obtain ⟨_, added, -⟩ := demandCheck_added t b
  exact added.view

/-- A demand check leaves every other bed. -/
theorem demandCheck_others (hc : c ≠ b) : BedGranted c t (demandCheck b t) := by
  unfold demandCheck
  split
  · exact (Granted.refl t).bed c
  next v _ =>
    refine (pass_granted _).bed_of_same rfl ?_
    show (t.runs ++ [autoRun t b v]).find? _ = t.runs.find? _
    have other : (autoRun t b v).bed ≠ c := hc.symm
    simp [List.find?_append, other]

/-- The bed's own: the run asked for stands at the queue's tail. -/
theorem demandCheck_asked (view : DemandView s t) (h : BedStands s t b) {l : BedLive} (hl : s.bedLive[b] = some l) (ha : Asks s b l)
    (hn : b ∉ runBeds t) : BedAsked s (demandCheck b t) b ∧ runBeds (demandCheck b t) = runBeds t ++ [b] := by
  have hlt : t.bedLive[b] = some l := by rw [h.live, hl]
  have made := (Added.refl t).check ⟨l, hlt, view.asks hn ha⟩ (by simp)
  refine ⟨⟨by rw [made.bedLive, h.live], ha.absent, fun k hk => ?_⟩, made.beds⟩
  obtain ⟨q, hq, asked⟩ := made.asked b (by simp) k (by rw [h.live, hk])
  exact ⟨q, hq, view.asked asked⟩

/-! ## A window's close -/

/-- What a close does to the bed's AUTO run `r`: an ON one is marked to stop, another is removed. -/
theorem windowCloses_cases {r : Run} (hr : findRun t b = some r) (ha : r.origin = .auto) :
    r.state = .on ∧ windowCloses b t = putRun t { r with stopAtPulseEnd := true } ∨
    r.state ≠ .on ∧ windowCloses b t = pass (takeOut b r t) := by
  unfold windowCloses
  simp only [hr, ha, dropRun]
  by_cases h : r.state = .on
  · exact .inl ⟨h, by simp [h]⟩
  · exact .inr ⟨h, by simp [h]⟩

theorem takeOut_view (b : Fin 24) (r : Run) (t : State) : DemandView t (takeOut b r t) :=
  have frame := takeOut_frame t b r
  .of_eq frame.beds frame.valves (takeOut_valveLive t b r) frame.clock (by rw [frame.locks])

theorem windowCloses_view {r : Run} (hr : findRun t b = some r) (ha : r.origin = .auto) : DemandView t (windowCloses b t) := by
  rcases windowCloses_cases hr ha with ⟨-, e⟩ | ⟨-, e⟩
  · rw [e]
    exact .of_eq rfl rfl rfl rfl rfl
  · rw [e]
    exact (takeOut_view b r t).trans (.of_granted (pass_granted _) (pass_frame _))

/-- A window's close leaves every other bed. -/
theorem windowCloses_others {r : Run} (hr : findRun t b = some r) (ha : r.origin = .auto) (hc : c ≠ b) :
    BedGranted c t (windowCloses b t) := by
  rcases windowCloses_cases hr ha with ⟨-, e⟩ | ⟨-, e⟩
  · rw [e]
    exact (Granted.refl _).bed_of_same rfl (findRun_putRun_other t (by rw [(findRun_mem t hr).2]; exact hc.symm))
  · have out := takeOut_moved b r t
    rw [e]
    exact (pass_granted _).bed_of_same (out.balances c hc) (out.others c hc)

/-- The bed's own: its AUTO run is gone, or ON and marked to stop (06 R118). -/
theorem windowCloses_closed (h : BedStands s t b) {r : Run} (hr : findRun s b = some r) (ha : r.origin = .auto) :
    BedClosed s (windowCloses b t) b ∧
      (runBeds (windowCloses b t) = runBeds t ∨ runBeds (windowCloses b t) = (runBeds t).filter (· != b)) := by
  obtain ⟨q, hq, kept⟩ := h.run r hr
  rcases windowCloses_cases hq (kept.origin.trans ha) with ⟨ho, e⟩ | ⟨ho, e⟩
  · have put : findRun (putRun t { q with stopAtPulseEnd := true }) b = some { q with stopAtPulseEnd := true } := by
      obtain ⟨-, rfl⟩ := findRun_mem t hq
      exact findRun_putRun_self t (r := { q with stopAtPulseEnd := true }) hq
    rw [e]
    refine ⟨⟨⟨r, hr, ha⟩, fun r' hr' _ => ⟨_, put, ?_⟩, fun p hp => ?_⟩, .inl (putRun_beds t _)⟩
    · obtain rfl : r = r' := Option.some.inj (hr.symm.trans hr')
      exact ⟨kept.bed, kept.origin, kept.planned, kept.delivered, fun _ => ho⟩
    · obtain rfl := Option.some.inj (put.symm.trans hp)
      exact ⟨ho, rfl⟩
  · have gone : findRun (windowCloses b t) b = none := by
      rw [e, (pass_granted _).findRun_none]
      exact findRun_filter_self (takeOut_runs t b q)
    refine ⟨⟨⟨r, hr, ha⟩, fun r' hr' on => ?_, fun p hp => ?_⟩, .inr ?_⟩
    · obtain rfl : r = r' := Option.some.inj (hr.symm.trans hr')
      exact absurd (kept.on on) ho
    · rw [gone] at hp
      cases hp
    · rw [e, (pass_granted _).beds, runBeds, takeOut_runs, runBeds, List.filter_map]
      rfl

/-! ## The beds together -/

/-- From `s` on the windows of the beds `closed` have closed on their AUTO runs and the beds `added` have asked for one; the runs
left keep their order, and those asked for stand behind them. -/
structure Judged (s : State) (closed added : List (Fin 24)) (t : State) : Prop where
  view : DemandView s t
  beds : ∃ kept : List (Fin 24), kept.Sublist (runBeds s) ∧ runBeds t = kept ++ added
  stands : ∀ c, c ∉ closed → c ∉ added → BedStands s t c
  closed : ∀ c ∈ closed, BedClosed s t c
  asked : ∀ c ∈ added, BedAsked s t c

namespace Judged
variable {closed added : List (Fin 24)}

theorem refl (s : State) : Judged s [] [] s where
  view := .refl s
  beds := ⟨runBeds s, .refl _, (List.append_nil _).symm⟩
  stands _ _ _ := ⟨rfl, fun r hr => ⟨r, hr, rfl, rfl, rfl, rfl, id⟩⟩
  closed _ h := nomatch h
  asked _ h := nomatch h

theorem granted (h : Judged s closed added t) (view : DemandView t u) (k : Granted t u) : Judged s closed added u where
  view := h.view.trans view
  beds := by rw [k.beds]; exact h.beds
  stands c hc ha := (h.stands c hc ha).granted (k.bed c)
  closed c hc := (h.closed c hc).granted (k.bed c)
  asked c hc := (h.asked c hc).granted (k.bed c)

theorem not_added {r : Run} (h : Judged s closed added t) (hr : findRun s b = some r) : b ∉ added := fun hb => by
  rw [(h.asked b hb).absent] at hr
  cases hr

theorem not_closed (h : Judged s closed added t) (hn : findRun s b = none) : b ∉ closed := fun hb => by
  obtain ⟨r, hr, -⟩ := (h.closed b hb).auto
  rw [hn] at hr
  cases hr

/-- A bed that had no run has none but the one asked for. -/
theorem absent (h : Judged s closed added t) (hn : findRun s b = none) (hb : b ∉ added) : b ∉ runBeds t := by
  obtain ⟨kept, sub, beds⟩ := h.beds
  rw [beds, List.mem_append]
  rintro (k | k)
  · obtain ⟨r, hr, e⟩ := List.mem_map.1 (sub.subset k)
    exact (findRun_eq_none s b).1 hn r hr e
  · exact hb k

/-- With no run asked for yet, the beds that ask are those that asked before. -/
theorem asks_iff (h : Judged s closed [] t) (hw : ∀ c ∈ closed, ¬ WindowOpen s.beds[c].active (s.clock.minute % 1440)) (b : Fin 24) :
    (∃ l, t.bedLive[b] = some l ∧ Asks t b l) ↔ ∃ l, s.bedLive[b] = some l ∧ Asks s b l := by
  have stands (hb : b ∉ closed) : BedStands s t b := h.stands b hb List.not_mem_nil
  constructor
  · rintro ⟨l, hl, ha⟩
    have hb : b ∉ closed := fun hb => hw b hb (by simpa only [h.view.beds, h.view.clock] using ha.window.2)
    refine ⟨l, (stands hb).live.symm.trans hl, h.view.symm.asks (fun k => ?_) ha⟩
    obtain ⟨r, hr⟩ := mem_runBeds_iff.1 k
    obtain ⟨q, hq, -⟩ := (stands hb).run r hr
    rw [ha.absent] at hq
    cases hq
  · rintro ⟨l, hl, ha⟩
    exact ⟨l, (stands (h.not_closed ha.absent)).live.trans hl, h.view.asks (h.absent ha.absent List.not_mem_nil) ha⟩

/-- One more bed asks. -/
theorem check (h : Judged s closed added t) {l : BedLive} (hl : s.bedLive[b] = some l) (ha : Asks s b l) (hb : b ∉ added) :
    Judged s closed (added ++ [b]) (demandCheck b t) := by
  have hn := ha.absent
  obtain ⟨own, beds⟩ := demandCheck_asked h.view (h.stands b (h.not_closed hn) hb) hl ha (h.absent hn hb)
  obtain ⟨kept, sub, hkept⟩ := h.beds
  refine ⟨h.view.trans (demandCheck_view b t), ⟨kept, sub, by rw [beds, hkept, List.append_assoc]⟩, fun c hc hd => ?_, fun c hc => ?_,
    fun c hc => ?_⟩
  · obtain ⟨hd, hne⟩ := not_or.1 (mt List.mem_append.2 hd)
    exact (h.stands c hc hd).granted (demandCheck_others (mt List.mem_singleton.2 hne))
  · exact (h.closed c hc).granted (demandCheck_others fun e => h.not_closed hn (e ▸ hc))
  · rcases List.mem_append.1 hc with hc | hc
    · exact (h.asked c hc).granted (demandCheck_others fun e => hb (e ▸ hc))
    · rwa [List.mem_singleton.1 hc]

/-- One more window closes. -/
theorem close (h : Judged s closed added t) {r : Run} (hr : findRun s b = some r) (ha : r.origin = .auto) (hb : b ∉ closed) :
    Judged s (closed ++ [b]) added (windowCloses b t) := by
  have hadded := h.not_added hr
  have stood := h.stands b hb hadded
  obtain ⟨q, hq, keptRun⟩ := stood.run r hr
  have hqa := keptRun.origin.trans ha
  have others (c : Fin 24) (hc : c ≠ b) : BedGranted c t (windowCloses b t) := windowCloses_others hq hqa hc
  obtain ⟨own, beds⟩ := windowCloses_closed stood hr ha
  obtain ⟨kept, sub, hkept⟩ := h.beds
  refine ⟨h.view.trans (windowCloses_view hq hqa), ?_, fun c hc hd => ?_, fun c hc => ?_,
    fun c hc => (h.asked c hc).granted (others c fun e => hadded (e ▸ hc))⟩
  · rcases beds with e | e
    · exact ⟨kept, sub, e.trans hkept⟩
    · refine ⟨kept.filter (· != b), List.filter_sublist.trans sub, ?_⟩
      have off : ∀ c ∈ added, (c != b) = true := fun c hc => bne_iff_ne.2 fun k => hadded (k ▸ hc)
      rw [e, hkept, List.filter_append, List.filter_eq_self.2 off]
  · obtain ⟨hc, hne⟩ := not_or.1 (mt List.mem_append.2 hc)
    exact (h.stands c hc hd).granted (others c (mt List.mem_singleton.2 hne))
  · rcases List.mem_append.1 hc with hc | hc
    · exact (h.closed c hc).granted (others c fun e => hb (e ▸ hc))
    · rwa [List.mem_singleton.1 hc]

/-- The beds taken in any order: those of `opens` ask, the windows of those of `closes` close (06 R117). -/
theorem forBeds (h : Judged s closed [] u) {acts opens closes : Fin 24 → Bool} {f : Fin 24 → State → State}
    (hacts : ∀ b, acts b = (opens b || closes b))
    (ho : ∀ b, opens b = true → (∃ l, s.bedLive[b] = some l ∧ Asks s b l) ∧ ∀ t, DemandView s t → f b t = demandCheck b t)
    (hc : ∀ b, closes b = true → (∃ r, findRun s b = some r ∧ r.origin = .auto) ∧ b ∉ closed ∧
      ∀ t, DemandView s t → f b t = windowCloses b t) :
    ∃ closed' added, Judged s closed' added (forBeds acts f u) ∧ added.Nodup ∧ (∀ b, b ∈ added ↔ opens b = true) ∧
      ∀ b, b ∈ closed' ↔ b ∈ closed ∨ s.beds[b].active.used = true ∧ closes b = true := by
  have exclusive (b : Fin 24) (hb : opens b = true) : closes b = false := Bool.eq_false_iff.2 fun k => by
    obtain ⟨⟨l, -, ask⟩, -⟩ := ho b hb
    obtain ⟨⟨r, hr, -⟩, -⟩ := hc b k
    rw [ask.absent] at hr
    cases hr
  have hmem (b : Fin 24) : b ∈ (usedBeds u).filter acts ↔ s.beds[b].active.used = true ∧ (opens b = true ∨ closes b = true) := by
    have used : u.beds[b].active.used = s.beds[b].active.used := by rw [h.view.beds]
    simp only [usedBeds, List.mem_filter, List.mem_finRange, true_and, used, hacts, Bool.or_eq_true]
  have hnodup : ((usedBeds u).filter acts).Nodup := ((List.nodup_finRange 24).filter _).filter _
  obtain ⟨order, hperm, hjudged⟩ := inAnyOrder_induction (next := Config.nextBed) (f := f)
    (P := fun done t => done.Nodup → (∀ b ∈ done, opens b = true ∨ closes b = true) →
      Judged s (closed ++ done.filter closes) (done.filter opens) t)
    (fun done t n h hn ha => (h hn ha).granted (.of_eq rfl rfl rfl rfl rfl) (.of_eq rfl rfl rfl rfl (.of_monitor rfl rfl)))
    (by
      intro done b t h hn ha
      obtain ⟨hd, -, hdis⟩ := List.nodup_append.1 hn
      have fresh : b ∉ done := fun k => hdis b k b (by simp) rfl
      have judged := h hd fun c hc => ha c (List.mem_append_left _ hc)
      rcases ha b (by simp) with hb | hb
      · obtain ⟨⟨l, hl, hask⟩, hf⟩ := ho b hb
        rw [hf t judged.view]
        have k := judged.check hl hask (mt List.mem_of_mem_filter fresh)
        simpa [List.filter_append, hb, exclusive b hb] using k
      · obtain ⟨⟨r, hr, hauto⟩, hnc, hf⟩ := hc b hb
        have hno : opens b = false := Bool.eq_false_iff.2 fun k => by rw [exclusive b k] at hb; cases hb
        rw [hf t judged.view]
        have k := judged.close hr hauto (mt List.mem_append.1 (not_or.2 ⟨hnc, mt List.mem_of_mem_filter fresh⟩))
        simpa [List.filter_append, hb, hno] using k)
    ((usedBeds u).filter acts).length ((usedBeds u).filter acts) [] u (Nat.le_refl _) (fun _ _ => by simpa using h)
  refine ⟨_, _, hjudged (hperm.nodup_iff.2 hnodup) fun b hb => ((hmem b).1 (hperm.mem_iff.1 hb)).2,
    (hperm.nodup_iff.2 hnodup).filter _, fun b => ?_, fun b => ?_⟩
  · rw [List.nil_append, List.mem_filter, hperm.mem_iff, hmem]
    refine ⟨And.right, fun k => ⟨⟨?_, .inl k⟩, k⟩⟩
    obtain ⟨⟨l, -, hu, -⟩, -⟩ := ho b k
    exact hu
  · rw [List.nil_append, List.mem_append, List.mem_filter, hperm.mem_iff, hmem]
    exact or_congr_right ⟨fun k => ⟨k.1.1, k.2⟩, fun k => ⟨⟨k.1, .inr k.2⟩, k.2⟩⟩

/-! ## The queue judged -/

/-- One run for each bed is left (06 R93). -/
theorem queueLaw (h : Judged s closed added t) (hq : QueueLaw s) (hn : added.Nodup) : QueueLaw t := by
  obtain ⟨kept, sub, beds⟩ := h.beds
  show (runBeds t).Nodup
  rw [beds]
  refine List.nodup_append.2 ⟨sub.nodup hq, hn, fun c hc d hd e => ?_⟩
  obtain ⟨r, hr, hrc⟩ := List.mem_map.1 (sub.subset hc)
  exact (findRun_eq_none s d).1 (h.asked d hd).absent r hr (hrc.trans e)

/-- A run of `s` that no closed window has removed. -/
theorem run (h : Judged s closed added t) {r : Run} (hr : findRun s b = some r) (hk : b ∉ closed ∨ r.origin = .hub ∨ r.state = .on) :
    ∃ q, findRun t b = some q ∧ RunKept r q := by
  by_cases hb : b ∈ closed
  · have closes := h.closed b hb
    refine closes.on r hr (hk.elim (absurd hb) fun k => k.resolve_left fun hub => ?_)
    obtain ⟨p, hp, ha⟩ := closes.auto
    obtain rfl : p = r := Option.some.inj (hp.symm.trans hr)
    rw [ha] at hub
    cases hub
  · exact (h.stands b hb (h.not_added hr)).run r hr

/-- HUB runs keep their plan and what they have delivered (06 R118). -/
theorem hubRuns (h : Judged s closed added t) (hq : QueueLaw s) : ∀ r ∈ s.runs, r.origin = .hub →
    ∃ q ∈ t.runs, q.bed = r.bed ∧ q.origin = .hub ∧ q.planned = r.planned ∧ q.delivered = r.delivered := by
  intro r hr hub
  obtain ⟨q, hqf, kept⟩ := h.run ((findRun_iff_mem hq).2 ⟨hr, rfl⟩) (.inr (.inl hub))
  exact ⟨q, (findRun_mem t hqf).1, kept.bed, kept.origin.trans hub, kept.planned, kept.delivered⟩

/-- The judgement in the words of the statement: `shut` names the beds whose window is closed, `opened` those that are asked. -/
theorem windowsJudged (h : Judged s closed added t) (hq : QueueLaw s) (hn : added.Nodup) {opened shut : Fin 24 → Prop}
    (ha : ∀ b, b ∈ added ↔ ∃ l, s.bedLive[b] = some l ∧ opened b ∧ Asks s b l)
    (hc : ∀ b, b ∈ closed ↔ s.beds[b].active.used = true ∧ shut b ∧ ∃ r, findRun s b = some r ∧ r.origin = .auto)
    (hw : ∀ b, shut b → ¬ WindowOpen s.beds[b].active (s.clock.minute % 1440)) : WindowsJudged opened shut s t := by
  have hqt := h.queueLaw hq hn
  have clock : ({ s with clock := t.clock } : State) = s := by rw [h.view.clock]
  refine ⟨fun b hu hs q hqm hqb hauto => ?_, ?_⟩
  · have hqf := (findRun_iff_mem hqt).2 ⟨hqm, hqb⟩
    refine (h.closed b ((hc b).2 ⟨by rwa [h.view.beds] at hu, hs, ?_⟩)).stops q hqf
    cases hr : findRun s b with
    | none =>
      have hb : b ∈ added := by
        by_contra hb
        exact h.absent hr hb (mem_runBeds hqf)
      obtain ⟨l, -, -, ask⟩ := (ha b).1 hb
      exact absurd ask.window.2 (hw b hs)
    | some r =>
      refine ⟨r, rfl, ?_⟩
      cases ho : r.origin with
      | auto => rfl
      | hub =>
        obtain ⟨p, hp, kept⟩ := h.run hr (.inr (.inl ho))
        obtain rfl : p = q := Option.some.inj (hp.symm.trans hqf)
        rw [kept.origin, ho] at hauto
        cases hauto
  · obtain ⟨kept, sub, beds⟩ := h.beds
    refine ⟨kept, sub, fun r hr hk => ?_, added, beds, hn, fun b => ⟨?_, fun hb l hl => ?_⟩⟩
    · have hrf := (findRun_iff_mem hq).2 ⟨hr, rfl⟩
      obtain ⟨q, hqf, -⟩ := h.run hrf (hk.imp_left fun k hb => k ((hc r.bed).1 hb).2.1)
      have hb := mem_runBeds hqf
      rw [beds, List.mem_append] at hb
      exact hb.resolve_right (h.not_added hrf)
    · rw [clock]
      refine (ha b).trans ⟨fun ⟨l, hl, k⟩ => ⟨l, ?_, k⟩, fun ⟨l, hl, k⟩ => ⟨l, ?_, k⟩⟩
      · rw [(h.asked b ((ha b).2 ⟨l, hl, k⟩)).live, hl]
      · have hb := h.not_closed k.2.absent
        by_cases hd : b ∈ added
        · rw [← hl, (h.asked b hd).live]
        · rw [← hl, (h.stands b hb hd).live]
    · have asked := h.asked b hb
      exact asked.asked l (by rw [← asked.live, hl])

end Judged

end

end Sys2Proof.Machine
end

section
/-! PROOF. MINUTE_TRANSITION and TIME_SET move the clock, windows close and open, and the end of the step keeps what they have made (06 R115
to R119). -/

namespace Sys2Proof.Machine

section
variable {s t u v w : State} {b : Fin 24}

/-! ## Nothing to examine -/

/-- Outside RUNNING no STOPPING examination is asked for. -/
def StopIdle (s t : State) : Prop :=
  t.seq.state = s.seq.state ∧ (s.seq.state ≠ .running → t.work.stop = s.work.stop)

theorem StopIdle.refl (s : State) : StopIdle s s := ⟨rfl, fun _ => rfl⟩

theorem StopIdle.trans (h : StopIdle s t) (k : StopIdle t u) : StopIdle s u :=
  ⟨k.1.trans h.1, fun e => (k.2 (by rw [h.1]; exact e)).trans (h.2 e)⟩

theorem StopIdle.unexamined (h : StopIdle s t) (hw : WorkLaw s) : Unexamined t := by
  by_cases hs : s.seq.state = .stopping
  · refine .inr ((h.2 (by rw [hs]; nofun)).trans ?_)
    rw [hw]
  · exact .inl (by rwa [h.1])

theorem IdleWork.stopIdle (h : IdleWork s t) : StopIdle s t := ⟨h.1, fun e => by rw [h.2 e]⟩

theorem windowCloses_stopIdle (b : Fin 24) (t : State) : StopIdle t (windowCloses b t) := by
  unfold windowCloses
  split
  · exact .refl t
  next r hr =>
    split
    · exact .refl t
    · split
      · exact ⟨rfl, fun _ => rfl⟩
      next on =>
        have removed : removeRun b t = dropRun b t := by simp only [removeRun, hr, on, if_false]
        refine ⟨(dropRun_frame t b).field.march.state, fun hs => removed ▸ removeRun_stop hs fun q hq => ?_⟩
        obtain rfl : r = q := Option.some.inj (hr.symm.trans hq)
        exact on

theorem windowTransition_stopIdle (old : Nat) (b : Fin 24) (t : State) : StopIdle t (windowTransition old b t) := by
  unfold windowTransition
  split
  · exact (demandCheck_idleWork b t).stopIdle
  · split
    · exact windowCloses_stopIdle b t
    · exact .refl t

theorem forBeds_stopIdle (acts : Fin 24 → Bool) {f : Fin 24 → State → State} (h : ∀ b t, StopIdle t (f b t)) (t : State) :
    StopIdle t (forBeds acts f t) :=
  inAnyOrder_keeps .refl .trans (fun _ _ => ⟨rfl, fun _ => rfl⟩) h _ _ t

theorem windowCloses_frame (b : Fin 24) (t : State) : WaterFrame t (windowCloses b t) := by
  unfold windowCloses
  split
  · exact .refl t
  · split
    · exact .refl t
    · split
      · exact putRun_frame t _
      · exact dropRun_frame t b

theorem windowTransition_frame (old : Nat) (b : Fin 24) (t : State) : WaterFrame t (windowTransition old b t) := by
  unfold windowTransition
  split
  · exact demandCheck_frame t b
  · split
    · exact windowCloses_frame b t
    · exact .refl t

/-! ## Windows and the clock -/

theorem windowNow_iff : windowNow s b = true ↔ s.clock.valid = true ∧ WindowOpen s.beds[b].active (s.clock.minute % 1440) := by
  rw [windowNow, Bool.and_eq_true, windowOpen_iff]

theorem DemandView.windowNow (h : DemandView s t) (b : Fin 24) : windowNow t b = windowNow s b := by
  simp only [Machine.windowNow, h.beds, h.clock]

theorem DemandView.windowBefore (h : DemandView s t) (old : Nat) (b : Fin 24) : windowBefore old t b = windowBefore old s b := by
  simp only [Machine.windowBefore, h.beds]

/-- A close acts on a bed whose window is closed and whose run is AUTO (06 R118). -/
theorem closeActs_iff : closeActs s b = true ↔ windowNow s b = false ∧ ∃ r, findRun s b = some r ∧ r.origin = .auto := by
  unfold closeActs
  cases findRun s b <;> simp

/-- What follows in the step, seen by a demand check. -/
theorem Spared.view (k : Spared t u) (only : OnlyWaterChanges t u) : DemandView t u := by
  refine ⟨fun b => by rw [k.bedRecs], fun v => ?_, k.granted.modes, k.granted.faults, ?_, by rw [k.granted.locks]⟩ <;>
    rw [OnlyWaterChanges] at only <;> rw [only]

/-! ## The change of minute -/

/-- A window opens on a bed that asks. -/
theorem transition_opens {old : Nat} (hb : (!windowBefore old s b && (demandValve s b).isSome) = true) :
    (∃ l, s.bedLive[b] = some l ∧ Asks s b l) ∧ ∀ t, DemandView s t → windowTransition old b t = demandCheck b t := by
  rw [Bool.and_eq_true, demandValve_isSome] at hb
  obtain ⟨before, l, hl, ha⟩ := hb
  refine ⟨⟨l, hl, ha⟩, fun t view => ?_⟩
  have now : windowNow s b = true := windowNow_iff.2 ha.window
  simp only [windowTransition, view.windowBefore, view.windowNow, before, now, Bool.and_self, if_true]

/-- A window closes on a bed with an AUTO run. -/
theorem transition_closes {old : Nat} (hb : (windowBefore old s b && closeActs s b) = true) :
    (∃ r, findRun s b = some r ∧ r.origin = .auto) ∧ ∀ t, DemandView s t → windowTransition old b t = windowCloses b t := by
  rw [Bool.and_eq_true, closeActs_iff] at hb
  obtain ⟨before, now, auto⟩ := hb
  refine ⟨auto, fun t view => ?_⟩
  simp [windowTransition, view.windowBefore, view.windowNow, before, now]

/-- The change of minute, every bed judged at the new minute of `s` (06 R117). -/
theorem transition_judged (hq : QueueLaw s) (valid : s.clock.valid = true) (old : Nat) {t : State}
    (later : Spared (forBeds (transitionActs old s) (windowTransition old) s) t)
    (only : OnlyWaterChanges (forBeds (transitionActs old s) (windowTransition old) s) t) :
    WindowsJudged
      (fun b => ¬ WindowOpen s.beds[b].active (old % 1440) ∧ WindowOpen s.beds[b].active (s.clock.minute % 1440))
      (fun b => WindowOpen s.beds[b].active (old % 1440) ∧ ¬ WindowOpen s.beds[b].active (s.clock.minute % 1440)) s t ∧
      ∀ r ∈ s.runs, r.origin = .hub → ∃ q ∈ t.runs, q.bed = r.bed ∧ q.origin = .hub ∧ q.planned = r.planned ∧
        q.delivered = r.delivered := by
  have before (b : Fin 24) : windowBefore old s b = true ↔ WindowOpen s.beds[b].active (old % 1440) := windowOpen_iff _ _
  have shut (b : Fin 24) : windowNow s b = false ↔ ¬ WindowOpen s.beds[b].active (s.clock.minute % 1440) := by
    rw [← Bool.not_eq_true, windowNow_iff, valid, eq_self, true_and]
  obtain ⟨closed, added, judged, hn, ha, hc⟩ := (Judged.refl s).forBeds (acts := transitionActs old s) (fun _ => rfl)
    (fun b hb => transition_opens hb) fun b hb => ⟨(transition_closes hb).1, by simp, (transition_closes hb).2⟩
  have judged := judged.granted (later.view only) later.granted
  refine ⟨judged.windowsJudged hq hn (fun b => ?_) (fun b => ?_) fun b => And.right, judged.hubRuns hq⟩
  · rw [ha, Bool.and_eq_true, demandValve_isSome, Bool.not_eq_true', ← Bool.not_eq_true, before]
    constructor
    · rintro ⟨hb, l, hl, ask⟩
      exact ⟨l, hl, ⟨hb, ask.window.2⟩, ask⟩
    · rintro ⟨l, hl, ⟨hb, -⟩, ask⟩
      exact ⟨hb, l, hl, ask⟩
  · rw [hc, Bool.and_eq_true, closeActs_iff, before, shut]
    simp [and_assoc]

/-! ## The clock set -/

/-- TIME_SET judges every window at its minute, and every used bed asks (06 R119). -/
theorem timeSet_judged (hq : QueueLaw s) (valid : s.clock.valid = true) {t : State} (later : Spared (demandAll (judgeWindows s)) t)
    (only : OnlyWaterChanges (demandAll (judgeWindows s)) t) :
    WindowsJudged (fun _ => True) (fun b => ¬ WindowOpen s.beds[b].active (s.clock.minute % 1440)) s t ∧
      ∀ r ∈ s.runs, r.origin = .hub → ∃ q ∈ t.runs, q.bed = r.bed ∧ q.origin = .hub ∧ q.planned = r.planned ∧
        q.delivered = r.delivered := by
  have shut (b : Fin 24) : windowNow s b = false ↔ ¬ WindowOpen s.beds[b].active (s.clock.minute % 1440) := by
    rw [← Bool.not_eq_true, windowNow_iff, valid, eq_self, true_and]
  obtain ⟨closed, none, closes, -, hnone, hc⟩ := (Judged.refl s).forBeds (f := windowCloses) (opens := fun _ => false)
    (fun b => (Bool.false_or (closeActs s b)).symm) nofun fun b hb => ⟨(closeActs_iff.1 hb).2, by simp, fun _ _ => rfl⟩
  obtain rfl : none = [] := List.eq_nil_iff_forall_not_mem.2 fun b hb => by simpa using (hnone b).1 hb
  have asks (b : Fin 24) : (demandValve (judgeWindows s) b).isSome = true ↔ ∃ l, s.bedLive[b] = some l ∧ Asks s b l :=
    (demandValve_isSome _ b).trans (closes.asks_iff (fun c hc' => (shut c).1 (closeActs_iff.1 (((hc c).1 hc').resolve_left List.not_mem_nil).2).1) b)
  obtain ⟨closed', added, judged, hn, ha, hc'⟩ := closes.forBeds (f := demandCheck) (closes := fun _ => false)
    (fun b => (Bool.or_false _).symm) (fun b hb => ⟨(asks b).1 hb, fun _ _ => rfl⟩) nofun
  have judged := judged.granted (later.view only) later.granted
  refine ⟨judged.windowsJudged hq hn (fun b => ?_) (fun b => ?_) fun b => id, judged.hubRuns hq⟩
  · rw [ha, asks]
    simp
  · rw [hc', hc, closeActs_iff, shut]
    simp

/-- The new clock, before the windows are judged (06 R116). -/
def withClock (c : Clock) (s : State) : State := { s with clock := c }

theorem timeSetRule_eq {body : List Byte} (hm : get2 body 0 ≤ 10079) (hs : get1 body 2 ≤ 59) (s : State) :
    timeSetRule body s = accept (demandAll (judgeWindows
      (withClock { valid := true, minute := get2 body 0, second := get1 body 2, turnDue := false } s))) :=
  if_neg (by omega)

theorem timeSetRule_badValue {body : List Byte} (h : 10079 < get2 body 0 ∨ 59 < get1 body 2) (s : State) :
    timeSetRule body s = refuse .badValue s := if_pos h

end

/-- The change of minute (06 R115, R117). -/
theorem minuteTransition_judged {s : State} (hv : s.clock.valid = true) (ht : s.clock.turnDue = true) (hr : Rested s)
    (hd : NoSwapDue s) (hq : QueueLaw s) : ∃ t, exec .minuteTransition s = .next t ∧
      t.clock = { valid := true, minute := (s.clock.minute + 1) % 10080, second := 0, turnDue := false } ∧
      OnlyWaterChanges { s with clock := t.clock } t ∧
      WindowsJudged
        (fun b => ¬ WindowOpen s.beds[b].active (s.clock.minute % 1440) ∧
          WindowOpen s.beds[b].active ((s.clock.minute + 1) % 10080 % 1440))
        (fun b => WindowOpen s.beds[b].active (s.clock.minute % 1440) ∧
          ¬ WindowOpen s.beds[b].active ((s.clock.minute + 1) % 10080 % 1440)) s t ∧
      ∀ r ∈ s.runs, r.origin = .hub → ∃ q ∈ t.runs, q.bed = r.bed ∧ q.origin = .hub ∧ q.planned = r.planned ∧
        q.delivered = r.delivered := by
  generalize hc : ({ valid := true, minute := (s.clock.minute + 1) % 10080, second := 0, turnDue := false } : Clock) = c
  have moved : nextMinute s = withClock c s := by
    rw [← hc, ← hv]
    rfl
  have minute : (s.clock.minute + 1) % 10080 = (withClock c s).clock.minute := by
    show _ = c.minute
    rw [← hc]
  have valid : (withClock c s).clock.valid = true := by
    show c.valid = true
    rw [← hc]
  generalize hw : forBeds (transitionActs s.clock.minute (withClock c s)) (windowTransition s.clock.minute) (withClock c s) = w
  have hexec : exec .minuteTransition s = .next (complete w) := by
    simp only [exec, execMinuteTransition, hv, ht, and_self, if_true, moved, hw]
  have frame : WaterFrame (withClock c s) w := hw ▸ forBeds_frame _ _ fun b t => windowTransition_frame _ b t
  have idle : StopIdle (withClock c s) w := hw ▸ forBeds_stopIdle _ (fun b t => windowTransition_stopIdle _ b t) _
  have hd' : NoSwapDue (withClock c s) := hd
  have unexamined : Unexamined w := idle.unexamined hr.1
  have only : OnlyWaterChanges (withClock c s) (complete w) := .arbitrate (frame.settled hd' unexamined)
  have clock : (complete w).clock = c := by
    rw [OnlyWaterChanges] at only
    rw [only]
    rfl
  refine ⟨complete w, hexec, clock, by rw [clock]; exact only, ?_⟩
  rw [minute]
  have hdw := frame.field.line.noSwapDue hd'
  have later : OnlyWaterChanges w (complete w) := .arbitrate ((WaterFrame.refl w).settled hdw unexamined)
  subst hw
  exact transition_judged (s := withClock c s) hq valid s.clock.minute (complete_spares hdw unexamined) later

/-- The change of minute is not made where no clock runs or none is due (06 R115, R119). -/
theorem minuteTransition_idle {s : State} (h : s.clock.valid = false ∨ s.clock.turnDue = false) : exec .minuteTransition s = .next s := by
  have notDue : ¬ (s.clock.valid = true ∧ s.clock.turnDue = true) := by
    rcases h with h | h <;> simp [h]
  simp only [exec, execMinuteTransition, notDue, if_false]

/-- An accepted TIME_SET, its clock put in `v`, and the end of its step (06 R116, R119). -/
theorem timeSet_answered {v : State} (valid : v.clock.valid = true) (hw : WorkLaw v) (hd : NoSwapDue v) (hq : QueueLaw v)
    (free : ∀ g, v.hub.htx ≠ .answer g) :
    let t := answerRuling 0x09 (accept (demandAll (judgeWindows v)))
    OnlyWaterChanges v t ∧ answerOf t = some { kind := 0x89, body := [0] } ∧
      WindowsJudged (fun _ => True) (fun b => ¬ WindowOpen v.beds[b].active (v.clock.minute % 1440)) v t ∧
      ∀ r ∈ v.runs, r.origin = .hub → ∃ q ∈ t.runs, q.bed = r.bed ∧ q.origin = .hub ∧ q.planned = r.planned ∧
        q.delivered = r.delivered := by
  intro t
  have judging : WaterFrame v (judgeWindows v) := forBeds_frame _ _ windowCloses_frame
  have frame : WaterFrame v (demandAll (judgeWindows v)) := judging.trans (demandAll_frame _)
  have idle : StopIdle v (demandAll (judgeWindows v)) :=
    (forBeds_stopIdle _ windowCloses_stopIdle v).trans (demandAll_idleWork _).stopIdle
  have unexamined := idle.unexamined hw
  have hdw := frame.field.line.noSwapDue hd
  have waters {x : State} (frame : WaterFrame x (demandAll (judgeWindows v))) (hx : NoSwapDue x) : OnlyWaterChanges x t :=
    answerRuling_waters (r := accept (demandAll (judgeWindows v))) frame hx unexamined
  have spared : Spared (demandAll (judgeWindows v)) t :=
    answerRuling_spares (r := accept (demandAll (judgeWindows v))) hdw unexamined
  refine ⟨waters frame hd, answerOf_answerRuling _ fun g => ?_, timeSet_judged hq valid spared (waters (.refl _) hdw)⟩
  show (demandAll (judgeWindows v)).hub.htx ≠ _
  rw [frame.hub]
  exact free g

/-- Settles O44: both commands judge windows bed by bed in any order, and the end of their step grants. -/
theorem clockMovesAndWindowsClose : Obligations.ClockMovesAndWindowsClose := by
  refine ⟨fun s => minuteTransition_idle, fun s hv ht hr hd hq => minuteTransition_judged hv ht hr hd hq,
    fun lo hi sec s htake hrest => ?_⟩
  intro minute
  obtain ⟨body, hbody⟩ : ∃ body, body = [lo, hi, sec] := ⟨_, rfl⟩
  have hmin : get2 body 0 = minute := by rw [hbody]; rfl
  have hsec : get1 body 2 = sec.toNat := by rw [hbody]; rfl
  have length : (fun n => n == 3) body.length = true := by rw [hbody]; rfl
  rw [← hbody] at htake ⊢
  refine ⟨fun h => ?_, fun hm hs hd hq => ?_⟩
  · exact congrArg Host.Outcome.next (takeRequest_refused 0x09 (fun n => n == 3) timeSetRule body s .badValue htake length hrest
      (timeSetRule_badValue (by rwa [hmin, hsec]) _))
  · have taken : exec (.timeSet body) s = .next (answerRuling 0x09 (timeSetRule body (atHead { kind := 0x09, body := body } s))) :=
      congrArg Host.Outcome.next (takeRequest_taken 0x09 (fun n => n == 3) timeSetRule body s htake length)
    have headed := HubPort.headed_htx { kind := 0x09, body := body } s.hub
    have only (c : Clock) (t : State) (h : OnlyWaterChanges (withClock c (atHead { kind := 0x09, body := body } s)) t) :
        t.clock = c ∧ OnlyWaterChanges { s with clock := t.clock } t := by
      have clock : t.clock = c := by
        rw [OnlyWaterChanges] at h
        rw [h]
        rfl
      refine ⟨clock, .of_atHead (f := { kind := 0x09, body := body }) ?_⟩
      have swapped : atHead { kind := 0x09, body := body } { s with clock := c } =
          withClock c (atHead { kind := 0x09, body := body } s) := by
        rw [atHead_eq, atHead_eq]
        rfl
      rwa [clock, swapped]
    rw [timeSetRule_eq (by omega) (by omega), hmin, hsec] at taken
    rw [atHead_eq] at taken only
    obtain ⟨waters, answer, judged, hubs⟩ := timeSet_answered (v := withClock
        { valid := true, minute := minute, second := sec.toNat, turnDue := false } (s.setHub (s.hub.headed { kind := 0x09, body := body })))
      rfl hrest.1 hd hq fun g => by
        show (s.hub.headed _).htx ≠ _
        rw [headed]
        exact htx_ne_answer_of_canTake htake g
    obtain ⟨clock, only⟩ := only _ _ waters
    exact ⟨_, taken, clock, minuteTransition_idle (.inr (by rw [clock])), answer, only, judged, hubs⟩

end Sys2Proof.Machine
end
